-- ==== Sys2Proof/Word.lean ====
section
/-! DEFINITION. The byte and the index types of 00_scope.md, 0.7. -/

namespace Sys2Proof

/-- One byte of the gallery link. -/
abbrev Byte := BitVec 8
/-- B0..B15. -/
abbrev ButtonId := Fin 16
/-- S0..S7. -/
abbrev StationId := Fin 8
/-- X0..X7. -/
abbrev AxisId := Fin 8
/-- A0..A7. -/
abbrev ChannelId := Fin 8
/-- A cue entry's index, 0..127. -/
abbrev CueId := Fin 128
/-- An event line's number, 0..42. -/
abbrev LineId := Fin 43
/-- A lamp scene's number, 0..3. -/
abbrev SceneId := Fin 4
/-- A lamp cell: (row, physical column). -/
abbrev Cell := Fin 8 × Fin 32

end Sys2Proof
end

