-- ==== Sys2Proof/Syntax.lean ====
section
/-! DEFINITION. The commands: one constructor for each row of spec/opcode_table.json.

An EVENT row is the event itself, handed over by its sender. A REQUEST row is a good request frame of that kind (R182, R185)
with its tag and the body fields of Table 12-3; fields stand as they do on the link, so a field may be out of its range and
the request is then refused with a status code. -/

namespace Sys2Proof

/-- An end stop of an axis (R78). -/
inductive StopSide where
  | low
  | high
  deriving DecidableEq, Repr

/-- A blink clock (R164). -/
inductive BlinkClock where
  | slow
  | fast
  deriving DecidableEq, Repr

/-- A command of the block. -/
inductive Instr where
  /-- COLD_RESET (R189). -/
  | coldReset
  /-- WARM_RESTART (R194). -/
  | warmRestart
  /-- TEST_ITEM_DONE (R189): the item under test ends, passed or failed. -/
  | testItemDone (failed : Bool)
  /-- BUTTON_SETTLE (R4): the first debounced level, CLOSED or OPEN. -/
  | buttonSettle (b : ButtonId) (closed : Bool)
  /-- BUTTON_PRESS (R5). -/
  | buttonPress (b : ButtonId)
  /-- BUTTON_HOLD (R6). -/
  | buttonHold (b : ButtonId)
  /-- BUTTON_STUCK (R7). -/
  | buttonStuck (b : ButtonId)
  /-- BUTTON_RELEASE (R8). -/
  | buttonRelease (b : ButtonId)
  /-- REST_EXPIRY (R28). -/
  | restExpiry (st : StationId)
  /-- IDLE_TIMEOUT (R30). -/
  | idleTimeout (st : StationId)
  /-- STOP_LINE_ASSERT (R150). -/
  | stopLineAssert
  /-- STOP_LINE_RELEASE (R150). -/
  | stopLineRelease
  /-- END_STOP_CHANGE (R78): the stop settles to TRIPPED or CLEAR. -/
  | endStopChange (x : AxisId) (side : StopSide) (tripped : Bool)
  /-- DWELL_EXPIRY (R68). -/
  | dwellExpiry (x : AxisId)
  /-- RAMP_TICK (R87). -/
  | rampTick (x : AxisId)
  /-- ENTRY_URGENT (R103): the pending entry of this axis. -/
  | entryUrgent (x : AxisId)
  /-- CONVERSION_COMPLETE (R120): the 10-bit result. -/
  | conversionComplete (result : BitVec 10)
  /-- PERIOD_EXPIRY (R125). -/
  | periodExpiry
  /-- TRIGGER_FALLING_EDGE (R127). -/
  | triggerFallingEdge
  /-- ESCALATION (R145): the record with this id. -/
  | escalation (id : BitVec 16)
  /-- BLINK_PHASE_CHANGE (R164). -/
  | blinkPhaseChange (clock : BlinkClock)
  /-- BYTE_RECEIVED (R183): the eight data bits, and whether the stop bit reads high. -/
  | byteReceived (c : Byte) (stopBit : Bool)
  /-- GAP_EXPIRY (R184). -/
  | gapExpiry
  /-- TRANSMIT_END (R188). -/
  | transmitEnd
  /-- BAD_KIND_REQUEST (R187): a good frame of no request kind. -/
  | badKindRequest (tag kind : Byte) (body : List Byte)
  /-- HELLO (R192). -/
  | hello (tag : Byte)
  /-- STATUS (R193). -/
  | status (tag clear : Byte)
  /-- RESTART (R194). -/
  | restart (tag : Byte)
  /-- SET_EVENT (R177). -/
  | setEvent (tag line enable level action param1 param2 : Byte) (mask : BitVec 16)
  /-- READ_EVENTS (R181). -/
  | readEvents (tag : Byte)
  /-- CLEAR_EVENTS (R179). -/
  | clearEvents (tag : Byte) (lines : List Byte)
  /-- SET_NOTICE_LEVEL (R178). -/
  | setNoticeLevel (tag level : Byte)
  /-- SET_BUTTON (R16). -/
  | setButton (tag button polarity role station : Byte) (hold : BitVec 16) (row column : Byte)
  /-- SET_BUTTON_TIMING (R17). -/
  | setButtonTiming (tag debounce : Byte) (stuck : BitVec 16)
  /-- READ_BUTTONS (R18). -/
  | readButtons (tag : Byte)
  /-- SET_STATION (R38). -/
  | setStation (tag station : Byte) (rest idle : BitVec 16) (row column : Byte)
  /-- STATION_COMMAND with command ONLINE (R22). -/
  | stationCommandOnline (tag station : Byte)
  /-- STATION_COMMAND with command OFFLINE (R23). -/
  | stationCommandOffline (tag station : Byte)
  /-- STATION_COMMAND with command START (R24). -/
  | stationCommandStart (tag station : Byte)
  /-- STATION_COMMAND with command STOP (R31). -/
  | stationCommandStop (tag station : Byte)
  /-- STATION_COMMAND with command UNLOCK (R35). -/
  | stationCommandUnlock (tag station : Byte)
  /-- READ_STATION (R39). -/
  | readStation (tag station clear : Byte)
  /-- WRITE_CUE (R53): the record's index, kind and next index, then the bytes of the kind's fields (Table 12-4). -/
  | writeCue (tag index kind next : Byte) (fields : List Byte)
  /-- READ_CUE (R54). -/
  | readCue (tag first count : Byte)
  /-- VALIDATE_CHAIN (R56). -/
  | validateChain (tag start : Byte)
  /-- ERASE_CUE (R55). -/
  | eraseCue (tag first count : Byte)
  /-- SET_AXIS (R60, Table 12-5). -/
  | setAxis (tag axis station mode flags runDraw holdDraw : Byte) (softLow softHigh : BitVec 24) (guard : Byte)
      (jamThreshold : BitVec 16) (jamPersistence : Byte)
  /-- ARM_AXIS (R61, R111). -/
  | armAxis (tag axis start followerStart : Byte)
  /-- DISARM_AXIS (R62). -/
  | disarmAxis (tag axis : Byte)
  /-- TRIGGER_AXIS (R63). -/
  | triggerAxis (tag axis : Byte)
  /-- DEMAND_AXIS (R85). -/
  | demandAxis (tag axis flag : Byte)
  /-- STOP_AXIS (R84). -/
  | stopAxis (tag axis : Byte)
  /-- HALT_AXIS (R84). -/
  | haltAxis (tag axis : Byte)
  /-- SET_POSITION (R82). -/
  | setPosition (tag axis : Byte) (position : BitVec 24)
  /-- READ_AXIS (R86). -/
  | readAxis (tag axis : Byte)
  /-- SET_BUDGET (R107). -/
  | setBudget (tag budget policy : Byte) (wait : BitVec 16)
  /-- READ_BUDGET (R108). -/
  | readBudget (tag : Byte)
  /-- SET_SCAN (R134). -/
  | setScan (tag startChannel endChannel mode source : Byte) (period : BitVec 16) (sampleTime : Byte)
  /-- SCAN_ENABLE with the flag at 1 (R121). -/
  | scanEnable (tag : Byte)
  /-- SCAN_ENABLE with the flag at 0 (R122). -/
  | scanDisable (tag : Byte)
  /-- SCAN_TRIGGER (R124). -/
  | scanTrigger (tag : Byte)
  /-- SET_CHANNEL (R135). -/
  | setChannel (tag channel shift : Byte) (windowLow windowHigh : BitVec 16) (persistence : Byte)
  /-- READ_SENSE (R136). -/
  | readSense (tag : Byte) (channels : List Byte)
  /-- READ_ALERTS (R154). -/
  | readAlerts (tag first count : Byte)
  /-- ACK_ALERT (R155). -/
  | ackAlert (tag : Byte) (id : BitVec 16)
  /-- CLEAR_ALERT (R156). -/
  | clearAlert (tag : Byte) (id : BitVec 16)
  /-- RAISE_ALERT (R157). -/
  | raiseAlert (tag severity station code : Byte)
  /-- SET_ESCALATION (R158). -/
  | setEscalation (tag : Byte) (note call lockout : BitVec 16)
  /-- WRITE_LAMPS (R166). -/
  | writeLamps (tag scene startColumn : Byte) (columns : List Byte)
  /-- READ_LAMPS (R167). -/
  | readLamps (tag source startColumn count : Byte)
  /-- SHOW_SCENE (R168). -/
  | showScene (tag scene : Byte)
  /-- SET_MIRROR (R168). -/
  | setMirror (tag flag : Byte)
  deriving DecidableEq, Repr

end Sys2Proof
end

