-- ==== Sys2Proof/Decode.lean ====
section
/-! DEFINITION. What a word of spec/opcode_table.json spells. The table gives no row any bits ("fields" is empty in all 72 rows),
so no word spells a command. The bytes of a link frame are read by Machine/Requests.lean. -/

namespace Sys2Proof

/-- The command that an `nbits`-bit word spells by the table's bits: none, since no row has bits. -/
def decodeTableWord (_nbits _w : Nat) : Option Instr := none

end Sys2Proof
end

