-- ==== Sys2Proof/Config.lean ====
section
/-! DEFINITION. The constants that the part fixes (11_gallery_link_and_start_up.md, 12_frame_and_record_layouts.md) and the
bounds of the model's own loops. -/

namespace Sys2Proof.Config

/-- The frame start byte (R182). -/
def sync : Byte := 0xA5#8
/-- HELLO's vendor code (R192). -/
def vendorCode : Nat := 0x49
/-- HELLO's part code (R192). -/
def partCode : Nat := 0x4816
/-- HELLO's revision letter for the parts the manual describes (R192). -/
def revisionLetter : Nat := 0x43
/-- The gap time at which a frame under assembly is discarded (R184). -/
def gapLimit : Nat := 21
/-- The number of agreeing samples that settle the STOP line (R150). -/
def stopSamples : Nat := 5
/-- The most records of the alert table (R138). -/
def alertCapacity : Nat := 16
/-- The most entries of a chain (R43). -/
def chainLimit : Nat := 32
/-- Loads that one trigger or completion may take: 32 entries and the END after them (R70). -/
def loadFuel : Nat := 34
/-- Grant passes that one event may bring, one after another. Each pass that is followed by another has granted an entry, and
the list holds at most eight (R101), so the bound is never met. -/
def passFuel : Nat := 12
/-- Route actions taken inside one command. DESIGN CHOICE (log entry 7): what is left over is taken by the next command. -/
def routeFuel : Nat := 64

/-! Free values: what the start-up test drives on its own pins (R189, log entry 24), by the uptime and the pin. -/

/-- The step pulses that test item 5 issues on an axis in a millisecond. -/
opaque testStep : Nat → Nat → Nat
/-- The DIR level that test item 5 drives on an axis. -/
opaque testDir : Nat → Nat → Bool
/-- The level that test item 6 drives on a lamp row. -/
opaque testRow : Nat → Nat → Bool
/-- The level that test item 7 drives on a beacon output. -/
opaque testBeacon : Nat → Nat → Bool

end Sys2Proof.Config
end

