-- ==== Sys2Proof/Machine/State.lean ====
section
/-! DEFINITION. The state of the part, block by block (00_scope.md, "Block overview"), as plain data, and its value after a
cold reset. INVENTORY.md, "State", lists each item with its rule; a value the spec tables as state and that the others
determine is computed where it is needed and has no field. -/

namespace Sys2Proof.Machine

/-! ## Names of values (0.8, Table 12-2) -/

/-- The part condition (R189, R190). -/
inductive PartCondition where
  | testing
  | inService
  | failed
  deriving DecidableEq, Repr

/-- The kind of a start (0.9). -/
inductive StartKind where
  | cold
  | warm
  deriving DecidableEq, Repr

/-- The polarity of a button or an end stop. -/
inductive Polarity where
  | closedLow
  | closedHigh
  deriving DecidableEq, Repr

/-- A button's role (R9). -/
inductive Role where
  | roleNone
  | roleShow
  | roleHold
  | roleAck
  | roleStop
  deriving DecidableEq, Repr

/-- A contact sample or level (R2). -/
inductive Contact where
  | opened
  | closed
  deriving DecidableEq, Repr

/-- A button's state (Table 1-3). -/
inductive ButtonState where
  | released
  | pressed
  | held
  | stuck
  deriving DecidableEq, Repr

/-- A station's state (Table 2-2). -/
inductive StationState where
  | offline
  | ready
  | showing
  | resting
  | locked
  deriving DecidableEq, Repr

/-- A cue index or END. -/
inductive CueRef where
  | entry (i : CueId)
  | chainStop
  deriving DecidableEq, Repr

/-- The profile fields of a motion entry: floor rate f, cruise rate v, acceleration a. -/
structure Profile where
  f : Nat
  v : Nat
  a : Nat
  deriving DecidableEq, Repr

/-- A cue entry's kind and its fields (Table 3-1). A MOVE's seek, when it has one, carries its home value. -/
inductive CueBody where
  | empty
  | move (steps : Int) (profile : Profile) (seek : Option (StopSide × Int))
  | moveTo (target : Int) (profile : Profile)
  | dwell (ms : Nat)
  | scene (n : SceneId)
  | mark (code : Nat)
  deriving DecidableEq, Repr

/-- An axis's mode (Table 4-1). -/
inductive AxisMode where
  | single
  | block
  | demand
  | rehearse
  deriving DecidableEq, Repr

/-- An axis's state (Table 4-2). -/
inductive AxisState where
  | disarmed
  | armed
  | pending
  | running
  | dwelling
  | stopping
  | paused
  deriving DecidableEq, Repr

/-- A travel direction. -/
inductive Dir where
  | up
  | down
  deriving DecidableEq, Repr

/-- A ramp phase. -/
inductive Phase where
  | accel
  | cruise
  | decel
  deriving DecidableEq, Repr

/-- A disposition (R74). -/
inductive Disposition where
  | pause
  | abandon
  | disarm
  deriving DecidableEq, Repr

/-- The grant policy (R105). -/
inductive Policy where
  | fixed
  | rotating
  deriving DecidableEq, Repr

/-- The scanner's state, with its current channel while SCANNING (Table 7-2). -/
inductive ScanState where
  | off
  | idle
  | scanning (ch : ChannelId)
  deriving DecidableEq, Repr

/-- The scan mode (Table 7-1). -/
inductive ScanMode where
  | once
  | continuous
  deriving DecidableEq, Repr

/-- The trigger source (Table 7-1). -/
inductive ScanSource where
  | software
  | period
  | motion
  | external
  deriving DecidableEq, Repr

/-- A class of a filtered value against its window (R131). -/
inductive WindowClass where
  | low
  | inside
  | high
  deriving DecidableEq, Repr

/-- An alert's severity. -/
inductive Severity where
  | note
  | call
  | lockout
  deriving DecidableEq, Repr

/-- An alert's kind (Table 8-3). -/
inductive AlertKind where
  | jam
  | limitTrip
  | stuckButton
  | stopLine
  | routed
  | host
  | selfTest
  deriving DecidableEq, Repr

/-- A beacon pattern (R153). -/
inductive Pattern where
  | off
  | steady
  | slow
  | fast
  deriving DecidableEq, Repr

/-- An overlay value (R163). -/
inductive Overlay where
  | none
  | on
  | off
  | slow
  | fast
  deriving DecidableEq, Repr

/-- A cause of Table 10-2. REFUSED on a button line and on a station line are two causes. -/
inductive Cause where
  | press | release | hold | stuck | buttonRefused
  | segmentDone | chainEnd | mark | softLimit | endStop | homed | seekMiss | jam | grantWait | pairEnd | halted
  | windowLow | windowIn | windowHigh | overrun
  | ready | showing | resting | locked | offline | stationRefused | idleTimeout
  | scanDone | scanLate
  | raised | escalated | acknowledged | removed | tableFull
  | started | frameError
  deriving DecidableEq, Repr

/-- A route's action with its parameters (R172). A station of `none` is ALL. -/
inductive RouteAction where
  | nothing
  | startStation (st : StationId)
  | scan
  | raiseAlert (severity : Severity) (station : Option StationId)
  deriving DecidableEq, Repr

/-! ## The blocks -/

/-- Which blocks are fit for service (R190). The event table's availability is the part condition. -/
structure Availability where
  motion : Bool
  lamps : Bool
  scanner : Bool
  beacon : Bool
  deriving DecidableEq, Repr

/-- The start-up test and the uptime counter (R189). -/
structure Part where
  condition : PartCondition
  startKind : StartKind
  progress : Byte
  failure : Byte
  available : Availability
  uptime : BitVec 32
  deriving DecidableEq, Repr

/-- The global button timing (Table 1-2). -/
structure ButtonTiming where
  debounce : Nat
  stuckLimit : Nat
  deriving DecidableEq, Repr

/-- A button record (Tables 1-1 and 1-3). -/
structure Button where
  polarity : Polarity
  role : Role
  station : Option StationId
  holdThreshold : Nat
  cell : Option Cell
  level : Option Contact
  provisional : Option Contact
  count : Nat
  state : ButtonState
  heldTime : Nat
  deriving DecidableEq, Repr

/-- A station record (Tables 2-1 and 2-2). -/
structure Station where
  restTime : Nat
  idleLimit : Nat
  cell : Option Cell
  state : StationState
  restRemaining : Nat
  idleTime : Nat
  shows : Nat
  refused : Nat
  latch : Bool
  deriving DecidableEq, Repr

/-- A cue entry (Table 3-1). -/
structure CueEntry where
  body : CueBody
  next : CueRef
  pins : Nat
  deriving DecidableEq, Repr

/-- An axis's configuration (Table 4-1). -/
structure AxisConfig where
  station : Option StationId
  mode : AxisMode
  pair : Bool
  repeats : Bool
  runDraw : Nat
  holdDraw : Nat
  softLow : Int
  softHigh : Int
  invert : Bool
  stopPolarity : Polarity
  guard : Option ChannelId
  jamThreshold : Nat
  jamPersistence : Nat
  deriving DecidableEq, Repr

/-- An axis channel: its configuration and its context (Table 4-2), its DIR output level, the STEP pulses of its latest tick,
the last sample of each end-stop input (R78), whether a DWELLING is a leader's restart wait (R114), and `asLeft`: whether the
allocation stands as the dissolution of the axis's pair left it (R109; log entry 15). An absent armed chain is the empty list; an
absent level is `none`. -/
structure Axis where
  cfg : AxisConfig
  state : AxisState
  chain : List CueId
  start : Option CueId
  current : Option CueRef
  segN : Nat
  remN : Nat
  dir : Dir
  seek : Option StopSide
  rate : Nat
  acc : Nat
  phase : Phase
  position : Int
  valid : Bool
  dwell : Nat
  restartWait : Bool
  hostDemand : Bool
  jamCount : Nat
  elapsed : Nat
  virtual : Int
  disposition : Option Disposition
  lowLevel : Option Bool
  highLevel : Option Bool
  lowSample : Option Bool
  highSample : Option Bool
  dirLevel : Bool
  stepPulses : Nat
  asLeft : Bool
  deriving DecidableEq, Repr

/-- A pair context (Table 6-3). `runSum` is the run sum that the pair's grant took (R110); it is the leader's allocation while the run is set,
and 0 otherwise. -/
structure PairCtx where
  run : Bool
  endFlag : Bool
  loops : Nat
  runSum : Nat
  deriving DecidableEq, Repr

/-- An entry of the arbiter's pending list (Table 6-2). -/
structure PendingEntry where
  axis : AxisId
  pair : Bool
  increase : Nat
  waited : Nat
  urgent : Bool
  deriving DecidableEq, Repr

/-- The drive budget arbiter (Table 6-1). -/
structure Arbiter where
  budget : Nat
  policy : Policy
  waitLimit : Nat
  pointer : AxisId
  waiting : List PendingEntry
  deriving DecidableEq, Repr

/-- The sense scanner's setup and state (Tables 7-1 and 7-2). The trigger line level is true for HIGH. -/
structure Scanner where
  startCh : ChannelId
  endCh : ChannelId
  mode : ScanMode
  source : ScanSource
  period : Nat
  sampleTime : Nat
  state : ScanState
  periodRemaining : Option Nat
  triggerLevel : Option Bool
  deriving DecidableEq, Repr

/-- A channel record (Table 7-3). A window state of `none` is UNKNOWN. -/
structure Channel where
  raw : Nat
  filtered : Nat
  seeded : Bool
  fresh : Bool
  overrun : Bool
  shift : Nat
  windowLow : Nat
  windowHigh : Nat
  persistence : Nat
  window : Option WindowClass
  candidate : Option WindowClass
  candidateCount : Nat
  deriving DecidableEq, Repr

/-- An alert record (Table 8-2). A station of `none` is ALL; `acked` is the state ACKNOWLEDGED. -/
structure Alert where
  id : Nat
  kind : AlertKind
  severity : Severity
  station : Option StationId
  source : Nat
  acked : Bool
  condition : Option Bool
  level : Nat
  timeInLevel : Nat
  repeats : Nat
  raiseTime : BitVec 32
  deriving DecidableEq, Repr

/-- The alert table (Table 8-1), records oldest first, intervals in seconds. -/
structure AlertTable where
  records : List Alert
  nextId : Nat
  noteInterval : Nat
  callInterval : Nat
  lockoutInterval : Nat
  deriving DecidableEq, Repr

/-- A blink clock (R164): in its ON phase or not, and the time spent in the phase. -/
structure Blink where
  on : Bool
  time : Nat
  deriving DecidableEq, Repr

/-- The lamp matrix (Table 9-1). Row 0 of a column is bit 0. -/
structure Lamps where
  scenes : Vector (Vector Byte 32) 4
  display : SceneId
  mirror : Bool
  slow : Blink
  fast : Blink
  deriving DecidableEq, Repr

/-- The alert a line's details keep (R171). -/
structure AlertDetail where
  id : Nat
  kind : AlertKind
  severity : Severity
  station : Option StationId
  source : Nat
  acked : Bool
  level : Nat
  repeats : Nat
  deriving DecidableEq, Repr

/-- A line's arrival details: the places of R171, each absent until its cause arrives. -/
structure Details where
  mark : Option Nat
  chainEnd : Option Nat
  pairEnd : Option Nat
  alert : Option AlertDetail
  start : Option StartKind
  deriving DecidableEq, Repr

/-- An event line (Table 10-3). -/
structure Line where
  flag : Bool
  causes : BitVec 16
  announced : Bool
  details : Details
  enable : Bool
  level : Nat
  action : RouteAction
  mask : BitVec 16
  deriving DecidableEq, Repr

/-- A link frame's TAG, KIND and BODY (R182). -/
structure Frame where
  tag : Byte
  kind : Byte
  body : List Byte
  deriving DecidableEq, Repr

/-- The transmitter (Table 11-1). -/
inductive Transmitter where
  | free
  | sendingReply (frame : Frame)
  | sendingNotice (frame : Frame)
  deriving DecidableEq, Repr

/-- The link port (Table 11-1). A receiver of `none` is HUNTING. -/
structure Link where
  receiver : Option (List Byte)
  gapTime : Nat
  holder : Option Frame
  slot : Option Frame
  tx : Transmitter
  gapCount : Nat
  sumCount : Nat
  overrunCount : Nat
  deriving DecidableEq, Repr

/-- The STOP line (R150): its debounced level (`none` UNSETTLED, true ASSERTED) and the run of agreeing samples. -/
structure StopLine where
  level : Option Bool
  sample : Option Bool
  run : Nat
  deriving DecidableEq, Repr

/-- The levels of the digital input pins (0.4), true for high. -/
structure Pins where
  buttons : Vector Bool 16
  lowStops : Vector Bool 8
  highStops : Vector Bool 8
  stop : Bool
  trigger : Bool
  deriving DecidableEq, Repr

/-- The cue entries and the lamp scenes as they stood when RESTART was taken (R40, R159). -/
structure RestartCopy where
  cues : Vector CueEntry 128
  scenes : Vector (Vector Byte 32) 4
  deriving DecidableEq, Repr

/-- The whole part. `passDue`, `handed` and `pending` are the model's own (log entries 6, 7 and 1). -/
structure State where
  part : Part
  buttonTiming : ButtonTiming
  buttons : Vector Button 16
  stations : Vector Station 8
  cues : Vector CueEntry 128
  axes : Vector Axis 8
  pairs : Vector PairCtx 4
  arbiter : Arbiter
  scanner : Scanner
  channels : Vector Channel 8
  alerts : AlertTable
  lamps : Lamps
  lines : Vector Line 43
  noticeLevel : Nat
  link : Link
  stopLine : StopLine
  pins : Pins
  /-- What the warm restart that RESTART has asked for will keep, from the taking of RESTART to its restart (R40, R159, R194). -/
  kept : Option RestartCopy
  /-- An event of R104 has been taken and its grant pass not yet. -/
  passDue : Bool
  /-- Route actions handed by arrivals (R172) that have not acted yet, oldest first, each with its line. -/
  handed : List (LineId × RouteAction)
  /-- The queue of waiting commands, first in, first out. -/
  pending : List Instr
  deriving DecidableEq, Repr

/-- Why the machine stops with a fault: never. The spec describes no condition that stops the part. -/
inductive Fault where
  deriving DecidableEq, Repr

/-- Why a command has no meaning. -/
inductive Refusal where
  /-- Raised by an arm of exec whose command has no meaning yet; safe, since the run stops. No arm raises it. -/
  | notModelled (mnemonic : String)
  deriving DecidableEq, Repr

/-! ## Reset values -/

/-- A button record's reset value (R1). -/
def Button.reset : Button :=
  { polarity := .closedLow, role := .roleNone, station := none, holdThreshold := 1000, cell := none, level := none,
    provisional := none, count := 0, state := .released, heldTime := 0 }

/-- A station record's reset value (R19). -/
def Station.reset : Station :=
  { restTime := 50, idleLimit := 0, cell := none, state := .offline, restRemaining := 0, idleTime := 0, shows := 0,
    refused := 0, latch := false }

/-- An EMPTY entry (R40). -/
def CueEntry.reset : CueEntry := { body := .empty, next := .chainStop, pins := 0 }

/-- An axis configuration's reset value (Table 4-1). -/
def AxisConfig.reset : AxisConfig :=
  { station := none, mode := .block, pair := false, repeats := false, runDraw := 4, holdDraw := 1, softLow := -8388608,
    softHigh := 8388607, invert := false, stopPolarity := .closedLow, guard := none, jamThreshold := 1023,
    jamPersistence := 3 }

/-- An axis channel's reset value (R57). -/
def Axis.reset : Axis :=
  { cfg := AxisConfig.reset, state := .disarmed, chain := [], start := none, current := none, segN := 0, remN := 0,
    dir := .up, seek := none, rate := 0, acc := 0, phase := .accel, position := 0, valid := false, dwell := 0,
    restartWait := false, hostDemand := false, jamCount := 0, elapsed := 0, virtual := 0, disposition := none,
    lowLevel := none, highLevel := none, lowSample := none, highSample := none, dirLevel := false, stepPulses := 0,
    asLeft := false }

/-- A pair context's reset value (Table 6-3). -/
def PairCtx.reset : PairCtx := { run := false, endFlag := false, loops := 0, runSum := 0 }

/-- The arbiter's reset value (R99). -/
def Arbiter.reset : Arbiter := { budget := 16, policy := .fixed, waitLimit := 2000, pointer := 7, waiting := [] }

/-- The scanner's reset value (R118). -/
def Scanner.reset : Scanner :=
  { startCh := 0, endCh := 0, mode := .once, source := .software, period := 100, sampleTime := 16, state := .off,
    periodRemaining := none, triggerLevel := none }

/-- A channel record's reset value (R118). -/
def Channel.reset : Channel :=
  { raw := 0, filtered := 0, seeded := false, fresh := false, overrun := false, shift := 0, windowLow := 0,
    windowHigh := 1023, persistence := 1, window := none, candidate := none, candidateCount := 0 }

/-- The alert table's reset value (R137). -/
def AlertTable.reset : AlertTable :=
  { records := [], nextId := 1, noteInterval := 300, callInterval := 120, lockoutInterval := 60 }

/-- A scene with every lamp dark. -/
def darkScene : Vector Byte 32 := Vector.replicate 32 0#8

/-- The lamp matrix after a cold reset (R159). -/
def Lamps.reset : Lamps :=
  { scenes := Vector.replicate 4 darkScene, display := 0, mirror := false, slow := ⟨true, 0⟩, fast := ⟨true, 0⟩ }

/-- No arrival details. -/
def Details.absent : Details := { mark := none, chainEnd := none, pairEnd := none, alert := none, start := none }

/-- An event line's reset value (R169), but for line 42. -/
def Line.reset : Line :=
  { flag := false, causes := 0#16, announced := false, details := Details.absent, enable := false, level := 1,
    action := .nothing, mask := 0#16 }

/-- The 43 lines after a reset: line 42 is enabled at level 7 (R169). -/
def resetLines : Vector Line 43 := (Vector.replicate 43 Line.reset).set 42 { Line.reset with enable := true, level := 7 }

/-- The link port's reset value (Table 11-1). -/
def Link.reset : Link :=
  { receiver := none, gapTime := 0, holder := none, slot := none, tx := .free, gapCount := 0, sumCount := 0,
    overrunCount := 0 }

/-- The STOP line's reset value (R150). -/
def StopLine.reset : StopLine := { level := none, sample := none, run := 0 }

/-- The availability fields while the first test runs (log entry 3); the beacon's is Table 8-1's. -/
def Availability.reset : Availability := { motion := false, lamps := false, scanner := false, beacon := true }

/-- The input pins before anything drives them: high. DESIGN CHOICE (log entry 4). -/
def Pins.idle : Pins :=
  { buttons := Vector.replicate 16 true, lowStops := Vector.replicate 8 true, highStops := Vector.replicate 8 true,
    stop := true, trigger := true }

/-- The part after a cold reset with these input levels and these waiting commands (R189, 0.9). -/
def State.cold (pins : Pins) (waiting : List Instr) : State :=
  { part :=
      { condition := .testing, startKind := .cold, progress := 0#8, failure := 0#8, available := Availability.reset,
        uptime := 0#32 }
    buttonTiming := { debounce := 10, stuckLimit := 120 }
    buttons := Vector.replicate 16 Button.reset
    stations := Vector.replicate 8 Station.reset
    cues := Vector.replicate 128 CueEntry.reset
    axes := Vector.replicate 8 Axis.reset
    pairs := Vector.replicate 4 PairCtx.reset
    arbiter := Arbiter.reset
    scanner := Scanner.reset
    channels := Vector.replicate 8 Channel.reset
    alerts := AlertTable.reset
    lamps := Lamps.reset
    lines := resetLines
    noticeLevel := 0
    link := Link.reset
    stopLine := StopLine.reset
    pins := pins
    kept := none
    passDue := false
    handed := []
    pending := waiting }

/-- The machine right after reset: power-on, the start-up test about to run (R189). -/
def State.reset : State := State.cold Pins.idle []

end Sys2Proof.Machine
end

