-- ==== Sys2Proof/Machine/Operands.lean ====
section
/-! DEFINITION. The operand forms of a request body and of a reply: byte order and signs (R195), and the codes of Table 12-2. A
reader answers `none` for a byte that holds no code of its item; the request is then refused with BAD_VALUE (R195). -/

namespace Sys2Proof.Machine

/-! ## Byte order and signs (R195) -/

/-- The low byte of a number. -/
def byteOf (n : Nat) : Byte := BitVec.ofNat 8 n

/-- A 16-bit field, little-endian. -/
def le16 (n : Nat) : List Byte := [byteOf n, byteOf (n / 256)]

/-- A 24-bit field, little-endian. -/
def le24 (n : Nat) : List Byte := [byteOf n, byteOf (n / 256), byteOf (n / 65536)]

/-- A 32-bit field, little-endian. -/
def le32 (n : Nat) : List Byte := [byteOf n, byteOf (n / 256), byteOf (n / 65536), byteOf (n / 16777216)]

/-- A signed 24-bit field, two's complement. -/
def leInt24 (z : Int) : List Byte := le24 (BitVec.ofInt 24 z).toNat

/-- A signed 32-bit field, two's complement. -/
def leInt32 (z : Int) : List Byte := le32 (BitVec.ofInt 32 z).toNat

/-- The number in a 16-bit field. -/
def u16 (b0 b1 : Byte) : Nat := b0.toNat + 256 * b1.toNat

/-- The number in a 24-bit field. -/
def u24 (b0 b1 b2 : Byte) : Nat := b0.toNat + 256 * b1.toNat + 65536 * b2.toNat

/-- The number in a 32-bit field. -/
def u32 (b0 b1 b2 b3 : Byte) : Nat := b0.toNat + 256 * b1.toNat + 65536 * b2.toNat + 16777216 * b3.toNat

/-- The signed number in a 24-bit field. -/
def s24 (b0 b1 b2 : Byte) : Int := (BitVec.ofNat 24 (u24 b0 b1 b2)).toInt

/-- The signed number in a 32-bit field. -/
def s32 (b0 b1 b2 b3 : Byte) : Int := (BitVec.ofNat 32 (u32 b0 b1 b2 b3)).toInt

/-! ## Readers of request fields (Table 12-2) -/

/-- An index below `n`. -/
def finOf (n : Nat) (b : Byte) : Option (Fin n) := if h : b.toNat < n then some ⟨b.toNat, h⟩ else none

/-- A boolean flag: 0 or 1. -/
def flagOf (b : Byte) : Option Bool :=
  if b = 0#8 then some false else if b = 1#8 then some true else none

/-- A station reference: 0..7, or 0xFF for none or ALL. -/
def stationRefOf (b : Byte) : Option (Option StationId) :=
  if b = 0xFF#8 then some none else (finOf 8 b).map some

/-- A guard channel: 0..7, or 0xFF for none. -/
def guardOf (b : Byte) : Option (Option ChannelId) :=
  if b = 0xFF#8 then some none else (finOf 8 b).map some

/-- A lamp cell pair: 0xFF 0xFF for none, or a row 0..7 with a column 0..31. -/
def cellOf (row column : Byte) : Option (Option Cell) :=
  if row = 0xFF#8 ∧ column = 0xFF#8 then some none
  else match finOf 8 row, finOf 32 column with
    | some r, some c => some (some (r, c))
    | _, _ => none

/-- A next index: 0..127, or 0xFF for END. -/
def cueRefOf (b : Byte) : Option CueRef :=
  if b = 0xFF#8 then some .chainStop else (finOf 128 b).map .entry

/-- A polarity: CLOSED_LOW 0, CLOSED_HIGH 1. -/
def polarityOf (b : Byte) : Option Polarity :=
  match b.toNat with
  | 0 => some .closedLow
  | 1 => some .closedHigh
  | _ => none

/-- A role: NONE 0, SHOW 1, HOLD 2, ACK 3, STOP 4. -/
def roleOf (b : Byte) : Option Role :=
  match b.toNat with
  | 0 => some .roleNone
  | 1 => some .roleShow
  | 2 => some .roleHold
  | 3 => some .roleAck
  | 4 => some .roleStop
  | _ => none

/-- An axis mode: SINGLE 0, BLOCK 1, DEMAND 2, REHEARSE 3. -/
def modeOf (b : Byte) : Option AxisMode :=
  match b.toNat with
  | 0 => some .single
  | 1 => some .block
  | 2 => some .demand
  | 3 => some .rehearse
  | _ => none

/-- A policy: FIXED 0, ROTATING 1. -/
def policyOf (b : Byte) : Option Policy :=
  match b.toNat with
  | 0 => some .fixed
  | 1 => some .rotating
  | _ => none

/-- A scan mode: ONCE 0, CONTINUOUS 1. -/
def scanModeOf (b : Byte) : Option ScanMode :=
  match b.toNat with
  | 0 => some .once
  | 1 => some .continuous
  | _ => none

/-- A trigger source: SOFTWARE 0, PERIOD 1, MOTION 2, EXTERNAL 3. -/
def scanSourceOf (b : Byte) : Option ScanSource :=
  match b.toNat with
  | 0 => some .software
  | 1 => some .period
  | 2 => some .motion
  | 3 => some .external
  | _ => none

/-- A severity: NOTE 0, CALL 1, LOCKOUT 2. -/
def severityOf (b : Byte) : Option Severity :=
  match b.toNat with
  | 0 => some .note
  | 1 => some .call
  | 2 => some .lockout
  | _ => none

/-- A number within a stated range (0.6). -/
def inRange (low high n : Nat) : Option Nat := if low ≤ n ∧ n ≤ high then some n else none

/-! ## Codes of reply fields (Table 12-2) -/

/-- A boolean flag's code: 0 clear, 1 set. Table 12-2 gives it for requests; the model sends the same in replies and notices. DEDUCED (log
entry 25). -/
def flagCode (f : Bool) : Nat := if f then 1 else 0

/-- A station reference's code. -/
def stationCode : Option StationId → Nat
  | none => 0xFF
  | some st => st.val

/-- A guard or current channel's code. -/
def channelCode : Option ChannelId → Nat
  | none => 0xFF
  | some c => c.val

/-- A lamp cell's two bytes. -/
def cellCode : Option Cell → List Byte
  | none => [0xFF#8, 0xFF#8]
  | some (r, c) => [byteOf r.val, byteOf c.val]

/-- A next index's code. -/
def cueRefCode : CueRef → Nat
  | .entry i => i.val
  | .chainStop => 0xFF

/-- A start cue's code: 0xFE when absent. -/
def startCode : Option CueId → Nat
  | none => 0xFE
  | some i => i.val

/-- A current cue's code: 0xFE when absent, 0xFF for END. Table 12-2 gives 0xFE in replies only; the model sends it in the axis notice too. DEDUCED
(log entry 22). -/
def currentCode : Option CueRef → Nat
  | none => 0xFE
  | some r => cueRefCode r

/-- A polarity's code. -/
def polarityCode : Polarity → Nat
  | .closedLow => 0
  | .closedHigh => 1

/-- A role's code. -/
def roleCode : Role → Nat
  | .roleNone => 0
  | .roleShow => 1
  | .roleHold => 2
  | .roleAck => 3
  | .roleStop => 4

/-- A button state's code. -/
def buttonStateCode : ButtonState → Nat
  | .released => 0
  | .pressed => 1
  | .held => 2
  | .stuck => 3

/-- A debounced level's code: UNSETTLED 2. -/
def levelCode : Option Contact → Nat
  | some .opened => 0
  | some .closed => 1
  | none => 2

/-- A station state's code. -/
def stationStateCode : StationState → Nat
  | .offline => 0
  | .ready => 1
  | .showing => 2
  | .resting => 3
  | .locked => 4

/-- A cue kind's code. -/
def kindCode : CueBody → Nat
  | .empty => 0
  | .move _ _ _ => 1
  | .moveTo _ _ => 2
  | .dwell _ => 3
  | .scene _ => 4
  | .mark _ => 5

/-- A seek's code: NONE 0, LOW 1, HIGH 2. -/
def seekCode : Option StopSide → Nat
  | none => 0
  | some .low => 1
  | some .high => 2

/-- An axis mode's code. -/
def modeCode : AxisMode → Nat
  | .single => 0
  | .block => 1
  | .demand => 2
  | .rehearse => 3

/-- An axis state's code. -/
def axisStateCode : AxisState → Nat
  | .disarmed => 0
  | .armed => 1
  | .pending => 2
  | .running => 3
  | .dwelling => 4
  | .stopping => 5
  | .paused => 6

/-- A phase's code. -/
def phaseCode : Phase → Nat
  | .accel => 0
  | .cruise => 1
  | .decel => 2

/-- A direction's code. -/
def dirCode : Dir → Nat
  | .up => 0
  | .down => 1

/-- A disposition's code: 0 when absent. -/
def dispositionCode : Option Disposition → Nat
  | none => 0
  | some .pause => 1
  | some .abandon => 2
  | some .disarm => 3

/-- An end-stop level's code: absent 2. -/
def stopCode : Option Bool → Nat
  | some false => 0
  | some true => 1
  | none => 2

/-- A policy's code. -/
def policyCode : Policy → Nat
  | .fixed => 0
  | .rotating => 1

/-- A scanner state's code. -/
def scanStateCode : ScanState → Nat
  | .off => 0
  | .idle => 1
  | .scanning _ => 2

/-- A scanner's current channel: absent unless SCANNING. -/
def currentChannel : ScanState → Option ChannelId
  | .scanning c => some c
  | _ => none

/-- A scan mode's code. -/
def scanModeCode : ScanMode → Nat
  | .once => 0
  | .continuous => 1

/-- A trigger source's code. -/
def scanSourceCode : ScanSource → Nat
  | .software => 0
  | .period => 1
  | .motion => 2
  | .external => 3

/-- A window state's code: UNKNOWN 0. -/
def windowCode : Option WindowClass → Nat
  | none => 0
  | some .low => 1
  | some .inside => 2
  | some .high => 3

/-- A candidate's code: 0xFF when absent. -/
def candidateCode : Option WindowClass → Nat
  | none => 0xFF
  | some c => windowCode (some c)

/-- An alert kind's code. -/
def alertKindCode : AlertKind → Nat
  | .jam => 1
  | .limitTrip => 2
  | .stuckButton => 3
  | .stopLine => 4
  | .routed => 5
  | .host => 6
  | .selfTest => 7

/-- A severity's code; also its rank, LOCKOUT above CALL above NOTE (R13). -/
def severityCode : Severity → Nat
  | .note => 0
  | .call => 1
  | .lockout => 2

/-- A condition flag's code: 0xFF when absent. -/
def conditionCode : Option Bool → Nat
  | none => 0xFF
  | some false => 0
  | some true => 1

/-- A beacon pattern's code. -/
def patternCode : Pattern → Nat
  | .off => 0
  | .steady => 1
  | .slow => 2
  | .fast => 3

/-- A part condition's code. -/
def conditionOfPartCode : PartCondition → Nat
  | .testing => 0
  | .inService => 1
  | .failed => 2

/-- A start kind's code. -/
def startKindCode : StartKind → Nat
  | .cold => 1
  | .warm => 2

end Sys2Proof.Machine
end

