-- ==== Sys2Proof/Machine/Flags.lean ====
section
/-! DEFINITION. Flag bytes, the status codes of 11.3.1, and the bits of cause sets and route masks (R195, Table 10-2). -/

namespace Sys2Proof.Machine

/-- A reply's status (11.3.1). -/
inductive Status where
  | ok
  | badKind
  | badLength
  | badValue
  | busy
  | inUse
  | notFound
  | locked
  | offline
  | noBudget
  | chainFault
  | notHomed
  | notEnabled
  | fault
  | starting
  | overAllocated
  deriving DecidableEq, Repr

/-- A status's code (11.3.1). -/
def Status.code : Status → Nat
  | .ok => 0
  | .badKind => 1
  | .badLength => 2
  | .badValue => 3
  | .busy => 4
  | .inUse => 5
  | .notFound => 6
  | .locked => 7
  | .offline => 8
  | .noBudget => 9
  | .chainFault => 10
  | .notHomed => 11
  | .notEnabled => 12
  | .fault => 13
  | .starting => 14
  | .overAllocated => 15

/-- A reply body: the status byte, then the reply's fields (R196). -/
def replyBody (st : Status) (fields : List Byte := []) : List Byte := byteOf st.code :: fields

/-- A flag byte from its bits, bit 0 first. -/
def flagByte : List Bool → Nat
  | [] => 0
  | f :: rest => flagCode f + 2 * flagByte rest

/-- A line's class (Table 10-1). -/
inductive LineClass where
  | button
  | axis
  | channel
  | station
  | scanner
  | alert
  | system
  deriving DecidableEq, Repr

/-- The class of a line (Table 10-1). -/
def lineClass (l : LineId) : LineClass :=
  if l.val < 16 then .button
  else if l.val < 24 then .axis
  else if l.val < 32 then .channel
  else if l.val < 40 then .station
  else if l.val = 40 then .scanner
  else if l.val = 41 then .alert
  else .system

/-- How many causes a class has (Table 10-2). -/
def LineClass.causeCount : LineClass → Nat
  | .button => 5
  | .axis => 11
  | .channel => 4
  | .station => 7
  | .scanner => 2
  | .alert => 5
  | .system => 2

/-- A cause's bit: its place in its class's row of Table 10-2, counted from 0 (R195). -/
def Cause.bit : Cause → Nat
  | .press => 0
  | .release => 1
  | .hold => 2
  | .stuck => 3
  | .buttonRefused => 4
  | .segmentDone => 0
  | .chainEnd => 1
  | .mark => 2
  | .softLimit => 3
  | .endStop => 4
  | .homed => 5
  | .seekMiss => 6
  | .jam => 7
  | .grantWait => 8
  | .pairEnd => 9
  | .halted => 10
  | .windowLow => 0
  | .windowIn => 1
  | .windowHigh => 2
  | .overrun => 3
  | .ready => 0
  | .showing => 1
  | .resting => 2
  | .locked => 3
  | .offline => 4
  | .stationRefused => 5
  | .idleTimeout => 6
  | .scanDone => 0
  | .scanLate => 1
  | .raised => 0
  | .escalated => 1
  | .acknowledged => 2
  | .removed => 3
  | .tableFull => 4
  | .started => 0
  | .frameError => 1

/-- The cause set that holds one cause. -/
def Cause.asSet (c : Cause) : BitVec 16 := 1#16 <<< c.bit

/-- The event line of a button (Table 10-1). -/
def buttonLine (b : ButtonId) : LineId := ⟨b.val, by omega⟩
/-- The event line of an axis (Table 10-1). -/
def axisLine (x : AxisId) : LineId := ⟨16 + x.val, by omega⟩
/-- The event line of a channel (Table 10-1). -/
def channelLine (c : ChannelId) : LineId := ⟨24 + c.val, by omega⟩
/-- The event line of a station (Table 10-1). -/
def stationLine (st : StationId) : LineId := ⟨32 + st.val, by omega⟩
/-- The scanner's event line. -/
def scannerLine : LineId := 40
/-- The alert table's event line. -/
def alertLine : LineId := 41
/-- The system line. -/
def systemLine : LineId := 42

/-- A mask bit at or above the number of causes of the line's class is a cause not of the class (R195). -/
def maskFits (l : LineId) (mask : Nat) : Bool := mask < 2 ^ (lineClass l).causeCount

end Sys2Proof.Machine
end

