-- ==== Sys2Proof/Machine/Ops.lean ====
section
/-! DEFINITION. The named operations over the part's records: reading and writing one record, derived values (membership,
modes, allocations, demand), the arrival of a cause, and an axis's change of state with its reports. -/

namespace Sys2Proof.Machine

/-! ## Records -/

/-- One axis channel. -/
def State.axis (s : State) (x : AxisId) : Axis := s.axes.get x
/-- Writes one axis channel. -/
def State.putAxis (s : State) (x : AxisId) (a : Axis) : State := { s with axes := s.axes.set x.val a x.isLt }
/-- One station record. -/
def State.station (s : State) (st : StationId) : Station := s.stations.get st
/-- Writes one station record. -/
def State.putStation (s : State) (st : StationId) (r : Station) : State :=
  { s with stations := s.stations.set st.val r st.isLt }
/-- One button record. -/
def State.button (s : State) (b : ButtonId) : Button := s.buttons.get b
/-- Writes one button record. -/
def State.putButton (s : State) (b : ButtonId) (r : Button) : State := { s with buttons := s.buttons.set b.val r b.isLt }
/-- One cue entry. -/
def State.cue (s : State) (i : CueId) : CueEntry := s.cues.get i
/-- Writes one cue entry. -/
def State.putCue (s : State) (i : CueId) (e : CueEntry) : State := { s with cues := s.cues.set i.val e i.isLt }
/-- One channel record. -/
def State.channel (s : State) (c : ChannelId) : Channel := s.channels.get c
/-- Writes one channel record. -/
def State.putChannel (s : State) (c : ChannelId) (r : Channel) : State :=
  { s with channels := s.channels.set c.val r c.isLt }
/-- One event line. -/
def State.line (s : State) (l : LineId) : Line := s.lines.get l
/-- Writes one event line. -/
def State.putLine (s : State) (l : LineId) (r : Line) : State := { s with lines := s.lines.set l.val r l.isLt }

/-- The pair an axis belongs to, in the order of R108. -/
def pairIndex (x : AxisId) : Fin 4 := ⟨x.val / 2, by omega⟩
/-- The pair context of an axis's pair. -/
def State.pair (s : State) (x : AxisId) : PairCtx := s.pairs.get (pairIndex x)
/-- Writes the pair context of an axis's pair. -/
def State.putPair (s : State) (x : AxisId) (p : PairCtx) : State :=
  { s with pairs := s.pairs.set (pairIndex x).val p (pairIndex x).isLt }

/-- Every axis, X0 first. -/
def allAxes : List AxisId := [0, 1, 2, 3, 4, 5, 6, 7]
/-- Every station, S0 first. -/
def allStations : List StationId := [0, 1, 2, 3, 4, 5, 6, 7]
/-- Every button, B0 first. -/
def allButtons : List ButtonId := [0, 1, 2, 3, 4, 5, 6, 7, 8, 9, 10, 11, 12, 13, 14, 15]

/-- Adds to a counter that saturates at its maximum (0.6). -/
def satAdd (limit n k : Nat) : Nat := min limit (n + k)

/-! ## Pairs (0.7, 6.5) -/

/-- The even axis of a pair. -/
def isLeader (x : AxisId) : Bool := x.val % 2 = 0
/-- The leader of an axis's pair. -/
def leaderOf (x : AxisId) : AxisId := ⟨x.val - x.val % 2, by omega⟩
/-- The follower of an axis's pair. -/
def followerOf (x : AxisId) : AxisId := ⟨x.val - x.val % 2 + 1, by omega⟩
/-- The other axis of an axis's pair. -/
def partnerOf (x : AxisId) : AxisId := if isLeader x then followerOf x else leaderOf x

/-- The axis's pair flag is on: it is a paired leader or a paired follower (6.5). -/
def State.paired (s : State) (x : AxisId) : Bool := (s.axis (leaderOf x)).cfg.pair

/-- The mode an axis runs in: a paired follower runs in its leader's (R109). -/
def State.mode (s : State) (x : AxisId) : AxisMode :=
  if s.paired x then (s.axis (leaderOf x)).cfg.mode else (s.axis x).cfg.mode

/-- The axis runs in REHEARSE mode (R83). -/
def State.rehearses (s : State) (x : AxisId) : Bool := s.mode x = .rehearse

/-! ## The start-up test's items (R189) -/

/-- The start-up test runs. -/
def State.isTesting (s : State) : Bool := s.part.condition = .testing

/-- The items due at a start, in order (Table 11-4). -/
def itemsDue : StartKind → List Nat
  | .cold => [0, 1, 2, 3, 4, 5, 6, 7]
  | .warm => [2, 3, 4, 5, 6, 7]

/-- The items due that have not been performed. -/
def Part.remaining (p : Part) : List Nat := (itemsDue p.startKind).filter fun i => !p.progress.getLsbD i

/-- The item under way: the first of those due, while the test runs. -/
def State.testItem (s : State) : Option Nat := if s.isTesting then s.part.remaining.head? else none

/-! ## Axis states (Table 4-3) -/

/-- An active axis (Table 4-3). -/
def AxisState.active : AxisState → Bool
  | .pending | .running | .dwelling | .stopping | .paused => true
  | .disarmed | .armed => false

/-- An axis that takes ramp ticks (R87). -/
def AxisState.moving : AxisState → Bool
  | .running | .stopping => true
  | _ => false

/-- The axis is active. -/
def State.isActive (s : State) (x : AxisId) : Bool := (s.axis x).state.active

/-- The own draw of an axis (Table 4-3). -/
def Axis.ownDraw (a : Axis) : Nat :=
  match a.state with
  | .running | .stopping => a.cfg.runDraw
  | .disarmed => 0
  | _ => a.cfg.holdDraw

/-- The hold draw an axis brings to its pair's hold sum: none while it is DISARMED (R110). -/
def Axis.heldDraw (a : Axis) : Nat := if a.state = .disarmed then 0 else a.cfg.holdDraw

/-- An axis's allocation (R58, R110). During a pair's run the leader carries the run sum of the grant, whatever a later SET_AXIS writes to a
member that has become DISARMED (R60). Where the dissolution of a pair would change the total by R58 (R109, R100), the former follower's
allocation stands as it was left: 0 out of a REHEARSE pair, its hold draw out of a BLOCK one. DEDUCED (log entry 15). -/
def State.allocation (s : State) (x : AxisId) : Nat :=
  let a := s.axis x
  if s.paired x then
    if s.rehearses x || !isLeader x then 0
    else if (s.pair x).run then (s.pair x).runSum
    else a.heldDraw + (s.axis (followerOf x)).heldDraw
  else if s.rehearses x then (if a.asLeft then a.heldDraw else 0)
  else if a.asLeft then 0 else a.ownDraw

/-- The total allocation (R100). -/
def State.totalAllocation (s : State) : Nat := (allAxes.map s.allocation).sum

/-- The EN output (R58). -/
def State.enOutput (s : State) (x : AxisId) : Bool := !s.rehearses x && (s.axis x).ownDraw != 0
/-- The BOOST output (R58). -/
def State.boostOutput (s : State) (x : AxisId) : Bool := !s.rehearses x && (s.axis x).state.moving

/-- The STEP output, as a number of pulses: those of the axis's latest ramp tick (R90), and those of the loopback's own drive while test item 5
runs, a free value (R57, R189; log entry 24). -/
def State.stepOutput (s : State) (x : AxisId) : Nat :=
  if s.testItem = some 5 then Config.testStep s.part.uptime.toNat x.val else (s.axis x).stepPulses

/-- The DIR output: the level of the axis's latest loaded segment (R58), and a free value while test item 5 runs (R57, R189; log entry 24). -/
def State.dirOutput (s : State) (x : AxisId) : Bool :=
  if s.testItem = some 5 then Config.testDir s.part.uptime.toNat x.val else (s.axis x).dirLevel

/-! ## Stations and demand -/

/-- An axis is a member of a station (R20). -/
def State.isMember (s : State) (st : StationId) (x : AxisId) : Bool := (s.axis x).cfg.station = some st
/-- The member axes of a station, in ascending order (R20). -/
def State.members (s : State) (st : StationId) : List AxisId := allAxes.filter (s.isMember st)

/-- The button demand of a station (R12). -/
def State.buttonDemand (s : State) (st : StationId) : Bool :=
  allButtons.any fun b =>
    (s.button b).role = .roleHold && (s.button b).station = some st &&
      ((s.button b).state = .pressed || (s.button b).state = .held)

/-- The demand flag of an axis (R72). -/
def State.demandFlag (s : State) (x : AxisId) : Bool :=
  (s.axis x).hostDemand ||
    match (s.axis x).cfg.station with
    | some st => s.buttonDemand st
    | none => false

/-! ## The arrival of a cause (R170) -/

/-- The part is in service: the event table takes arrivals (R169, R190). -/
def State.serving (s : State) : Bool := s.part.condition = .inService

/-- A line after the arrival of a cause: parts 1 to 3 of R170. -/
def Line.arrive (ln : Line) (c : Cause) (details : Details → Details) : Line :=
  { ln with
    flag := true
    causes := ln.causes ||| c.asSet
    announced := ln.announced && ln.causes.getLsbD c.bit
    details := details ln.details }

/-- The arrival of a cause on a line (R170). The route's action is handed over as part 4, to act after the event (R172). Outside
service the event table discards causes (R169). -/
def State.post (s : State) (l : LineId) (c : Cause) (details : Details → Details := id) : State :=
  if s.serving then
    let ln := s.line l
    let s1 := s.putLine l (ln.arrive c details)
    if ln.mask.getLsbD c.bit then { s1 with handed := s1.handed ++ [(l, ln.action)] } else s1
  else s

/-! ## The arbiter's list (R101, R102) -/

/-- The axis under which an axis waits: its leader when it is paired (R101). -/
def State.waitKey (s : State) (x : AxisId) : AxisId := if s.paired x then leaderOf x else x

/-- The requested increase of an axis or its pair (Table 6-2): the run draw less the hold draw that it holds now (R106), none where a dissolution
left it so (log entry 15). -/
def State.requestedIncrease (s : State) (x : AxisId) : Nat :=
  if s.paired x then
    ((s.axis (leaderOf x)).cfg.runDraw + (s.axis (followerOf x)).cfg.runDraw) -
      ((s.axis (leaderOf x)).cfg.holdDraw + (s.axis (followerOf x)).cfg.holdDraw)
  else (s.axis x).cfg.runDraw - if (s.axis x).asLeft then 0 else (s.axis x).cfg.holdDraw

/-- An axis, or its pair, joins the pending list (R101); a grant pass follows (R104). -/
def State.joinPending (s : State) (x : AxisId) : State :=
  let e : PendingEntry :=
    { axis := s.waitKey x, pair := s.paired x, increase := s.requestedIncrease x, waited := 0, urgent := false }
  { s with arbiter := { s.arbiter with waiting := s.arbiter.waiting ++ [e] }, passDue := true }

/-- An axis's entry, or its pair's, leaves the pending list without a grant (R102); an urgent one brings a pass (R104). -/
def State.withdraw (s : State) (x : AxisId) : State :=
  let key := s.waitKey x
  let gone := s.arbiter.waiting.filter (·.axis = key)
  { s with
    arbiter := { s.arbiter with waiting := s.arbiter.waiting.filter (·.axis ≠ key) }
    passDue := s.passDue || gone.any (·.urgent) }

/-! ## Triggers of the scanner (R123) -/

/-- A trigger from a source: it starts a scan in IDLE, and a late one of PERIOD or EXTERNAL posts SCAN_LATE (R123). -/
def State.scanTrigger (s : State) (source : ScanSource) : State :=
  if s.scanner.source = source then
    match s.scanner.state with
    | .off => s
    | .idle => { s with scanner := { s.scanner with state := .scanning s.scanner.startCh } }
    | .scanning _ =>
      if source = .period ∨ source = .external then s.post scannerLine .scanLate else s
  else s

/-! ## Leaving a show (R27) -/

/-- A station goes to RESTING with its full rest, or to READY when its rest time is 0 (R27, R34). -/
def State.restStation (s : State) (st : StationId) : State :=
  let r := s.station st
  if r.restTime = 0 then
    (s.putStation st { r with state := .ready }).post (stationLine st) .ready
  else
    (s.putStation st { r with state := .resting, restRemaining := r.restTime * 100, idleTime := 0 }).post
      (stationLine st) .resting

/-- The activity test: a SHOWING station with no active member ends its show (R27). -/
def State.testActivity (s : State) (st : StationId) : State :=
  if (s.station st).state = .showing ∧ !(s.members st).any s.isActive then s.restStation st else s

/-! ## An axis's change of state (R59, R96) -/

/-- The context of an axis that has entered a state: r and q are 0 outside PENDING, RUNNING and STOPPING (R96), the jam count is
0 outside RUNNING (R132), the disposition stands only while STOPPING (R74), the dwell count only while DWELLING. -/
def Axis.settled (a : Axis) (st : AxisState) : Axis :=
  { a with
    state := st
    rate := if st = .pending ∨ st.moving then a.rate else 0
    acc := if st = .pending ∨ st.moving then a.acc else 0
    jamCount := if st = .running then a.jamCount else 0
    disposition := if st = .stopping then a.disposition else none
    dwell := if st = .dwelling then a.dwell else 0
    restartWait := st = .dwelling && a.restartWait }

/-- The report of a change of state to the axis's station: the idle time restarts (R29), and an axis that leaves the active set
brings the activity test (R27). -/
def State.reportState (s : State) (x : AxisId) (old new : AxisState) : State :=
  match (s.axis x).cfg.station with
  | none => s
  | some st =>
    let r := s.station st
    let s1 :=
      if (old = .paused ∧ new ≠ .paused) ∨ (new = .paused ∧ old ≠ .paused) ∨ (!old.active && new.active) then
        s.putStation st { r with idleTime := 0 }
      else s
    if old.active && !new.active then s1.testActivity st else s1

/-- An axis enters a state, its context rewritten by `f` first; it reports the change to its station, and an entry into RUNNING
from PENDING to the scanner (R59), also that of a pair member whose earlier entries at the grant completed at once. DEDUCED (log entry 29). -/
def State.enter (s : State) (x : AxisId) (new : AxisState) (f : Axis → Axis := id) : State :=
  let old := (s.axis x).state
  let s1 := s.putAxis x ((f (s.axis x)).settled new)
  let s2 := s1.reportState x old new
  if old = .pending ∧ new = .running ∧ !s.rehearses x then s2.scanTrigger .motion else s2

/-! ## Pins of the armed chain (R46, R47) -/

/-- Raises by 1 the pin count of every entry of a chain (R46). -/
def State.pinChain (s : State) (chain : List CueId) : State :=
  chain.foldl (fun t i => t.putCue i { t.cue i with pins := (t.cue i).pins + 1 }) s

/-- Lowers by 1 the pin count of every entry of a chain (R47). -/
def State.unpinChain (s : State) (chain : List CueId) : State :=
  chain.foldl (fun t i => t.putCue i { t.cue i with pins := (t.cue i).pins - 1 }) s

/-- An axis becomes DISARMED, in one step with the unpinning of its chain (R47). Its current cue is kept after an immediate halt
or a seek miss, and absent otherwise (Table 4-2). -/
def State.disarm (s : State) (x : AxisId) (keepCurrent : Bool) : State :=
  if (s.axis x).state = .disarmed then s
  else
    (s.unpinChain (s.axis x).chain).enter x .disarmed fun a =>
      { a with chain := [], start := none, current := if keepCurrent then a.current else none }

/-! ## Settling (R74, R75, R115, R116) -/

/-- The pair settles when its run is set and neither member is active (R116). Its loop count stands until the next trigger or arming. DESIGN
CHOICE (log entry 28). -/
def State.settlePair (s : State) (x : AxisId) : State :=
  let p := s.pair x
  if s.paired x ∧ p.run ∧ !s.isActive (leaderOf x) ∧ !s.isActive (followerOf x) then
    s.putPair x { p with run := false, endFlag := false, runSum := 0 }
  else s

/-- An axis settles by a disposition (R75): PAUSED, ARMED at its start cue, or DISARMED. A leader that settles with the pair end
flag set takes its own repeat flag and posts PAIR_END (R115), after its settling and so after the RESTING or READY of its station (R27).
DESIGN CHOICE (log entry 26). -/
def State.settleBy (s : State) (x : AxisId) (d : Disposition) : State :=
  let a := s.axis x
  let p := s.pair x
  let ending := s.paired x && isLeader x && p.endFlag
  let s1 :=
    match d with
    | .pause => s.enter x .paused
    | .abandon =>
      if ending && !a.cfg.repeats then s.disarm x false
      else s.enter x .armed fun a => { a with current := a.start.map .entry }
    | .disarm => s.disarm x false
  let s2 :=
    if ending then
      (s1.putPair x { p with endFlag := false }).post (axisLine x) .pairEnd fun d => { d with pairEnd := some p.loops }
    else s1
  s2.settlePair x

/-- The rank of a disposition (R74). -/
def Disposition.rank : Disposition → Nat
  | .pause => 0
  | .abandon => 1
  | .disarm => 2

/-- The higher of a standing disposition and a new one (R74). -/
def Disposition.raiseTo (old : Option Disposition) (new : Disposition) : Disposition :=
  match old with
  | none => new
  | some d => if d.rank < new.rank then new else d

/-- An axis receives ABANDON or DISARM (R74). -/
def State.handDisposition (s : State) (x : AxisId) (d : Disposition) : State :=
  match (s.axis x).state with
  | .running => s.enter x .stopping fun a => { a with disposition := some d }
  | .stopping => s.putAxis x { s.axis x with disposition := some (Disposition.raiseTo (s.axis x).disposition d) }
  | .pending => (s.withdraw x).settleBy x d
  | .dwelling => s.settleBy x d
  | .paused => s.settleBy x d
  | .armed => if d = .disarm then s.disarm x false else s
  | .disarmed => s

/-- Several axes receive one disposition, in ascending order. -/
def State.handAll (s : State) (xs : List AxisId) (d : Disposition) : State :=
  xs.foldl (fun t x => t.handDisposition x d) s

end Sys2Proof.Machine
end

