-- ==== Sys2Proof/Machine/Alerts.lean ====
section
/-! DEFINITION. The alert table (08_alerts_and_the_attendant_annunciator.md), the lock of stations that it decides (R32 to R35),
and the beacon. -/

namespace Sys2Proof.Machine

/-! ## Locking (2.5) -/

/-- A record that locks a station: a LOCKOUT alert naming it or ALL (R32). -/
def Alert.locks (r : Alert) (st : StationId) : Bool :=
  r.severity = .lockout && (r.station = none || r.station = some st)

/-- A LOCKOUT alert naming the station or ALL is stored (R143). -/
def State.lockoutStored (s : State) (st : StationId) : Bool := s.alerts.records.any (·.locks st)

/-- A station's lock condition (R32). -/
def State.lockCondition (s : State) (st : StationId) : Bool := s.lockoutStored st || (s.station st).latch

/-- The station goes to LOCKED and hands DISARM to its member axes (R33). -/
def State.lockStation (s : State) (st : StationId) : State :=
  let s1 := (s.putStation st { s.station st with state := .locked, restRemaining := 0, idleTime := 0 }).post
    (stationLine st) .locked
  s1.handAll (s1.members st) .disarm

/-- The test of a station's lock condition (R32 to R34). -/
def State.testLock (s : State) (st : StationId) : State :=
  match (s.station st).state with
  | .offline => s
  | .locked => if s.lockCondition st then s else s.restStation st
  | _ => if s.lockCondition st then s.lockStation st else s

/-- The stations that a station reference names: one, or all eight for ALL. R32, R35 and R14 give the eight no order; the model takes S0 first.
DESIGN CHOICE (log entry 19). -/
def stationsOf : Option StationId → List StationId
  | none => allStations
  | some st => [st]

/-- The lock test of the stations an alert names (R143). -/
def State.testLocks (s : State) (target : Option StationId) : State :=
  (stationsOf target).foldl (fun t st => t.testLock st) s

/-- Sets the overflow latch of the stations a lost LOCKOUT alert named, and tests each (R35). -/
def State.setLatches (s : State) (target : Option StationId) : State :=
  (stationsOf target).foldl (fun t st => (t.putStation st { t.station st with latch := true }).testLock st) s

/-! ## Records (8.1) -/

/-- A condition kind (Table 8-3). -/
def AlertKind.isCondition : AlertKind → Bool
  | .stuckButton | .stopLine => true
  | _ => false

/-- The identity of a record: kind, source and station (R138). -/
def Alert.hasIdentity (r : Alert) (kind : AlertKind) (source : Nat) (station : Option StationId) : Bool :=
  r.kind = kind && r.source = source && r.station = station

/-- The details an alert cause carries (R171). -/
def Alert.detail (r : Alert) : AlertDetail :=
  { id := r.id, kind := r.kind, severity := r.severity, station := r.station, source := r.source, acked := r.acked,
    level := r.level, repeats := r.repeats }

/-- Posts an alert cause that concerns a record (R171). -/
def State.postAlert (s : State) (c : Cause) (d : AlertDetail) : State :=
  s.post alertLine c fun t => { t with alert := some d }

/-- Writes the records of the alert table. -/
def State.putRecords (s : State) (rs : List Alert) : State := { s with alerts := { s.alerts with records := rs } }

/-- Rewrites the record with an id. -/
def State.updateRecord (s : State) (id : Nat) (f : Alert → Alert) : State :=
  s.putRecords (s.alerts.records.map fun r => if r.id = id then f r else r)

/-- The record with an id. -/
def State.recordOf (s : State) (id : Nat) : Option Alert := s.alerts.records.find? (·.id = id)

/-- The next id after one, wrapping from 65,535 to 1 (R138). -/
def nextIdAfter (n : Nat) : Nat := if n ≥ 65535 then 1 else n + 1

/-- Advances an id past those that stored records hold (R138). Of 17 ids in a row, 16 records leave one free. -/
def freeId (records : List Alert) : Nat → Nat → Nat
  | 0, n => n
  | fuel + 1, n => if records.any (·.id = n) then freeId records fuel (nextIdAfter n) else n

/-! ## Removal and acknowledgement (8.5) -/

/-- A record leaves the table: REMOVED is posted, and the removal of a LOCKOUT record is reported (R147, R143). -/
def State.removeRecord (s : State) (r : Alert) : State :=
  let s1 := (s.putRecords (s.alerts.records.filter (·.id ≠ r.id))).postAlert .removed r.detail
  if r.severity = .lockout then s1.testLocks r.station else s1

/-- A RAISED record is acknowledged (R146); a condition alert whose condition is clear is then removed (R148). R7 would have the next STUCK of
a button reopen that record. DEDUCED (log entry 27). -/
def State.acknowledge (s : State) (r : Alert) : State :=
  if r.acked then s
  else
    let r1 := { r with acked := true }
    let s1 := (s.updateRecord r.id fun _ => r1).postAlert .acknowledged r1.detail
    if r.condition = some false then s1.removeRecord r1 else s1

/-- The report that a condition is gone (R139); an ACKNOWLEDGED record is then removed (R148), and the next raise makes a new one, against the
words of R7. DEDUCED (log entry 27). -/
def State.clearCondition (s : State) (kind : AlertKind) (source : Nat) (station : Option StationId) : State :=
  match s.alerts.records.find? (·.hasIdentity kind source station) with
  | none => s
  | some r =>
    let r1 := { r with condition := some false }
    let s1 := s.updateRecord r.id fun _ => r1
    if r.acked then s1.removeRecord r1 else s1

/-! ## Raising (8.2) -/

/-- What a raise did (R157). -/
inductive RaiseOutcome where
  | new (id : Nat)
  | merged (id : Nat)
  | notStored
  deriving DecidableEq, Repr

/-- A raise merges into the record of its identity (R140). -/
def State.mergeAlert (s : State) (r : Alert) (severity : Severity) : State :=
  let rises : Bool := severityCode r.severity < severityCode severity
  let reopens := r.acked || rises
  let r1 : Alert :=
    { r with
      repeats := satAdd 255 r.repeats 1
      condition := if r.kind.isCondition then some true else none
      severity := if rises then severity else r.severity
      acked := false
      level := if reopens then 0 else r.level
      timeInLevel := if reopens then 0 else r.timeInLevel }
  let s1 := s.updateRecord r.id fun _ => r1
  let s2 := if reopens then s1.postAlert .raised r1.detail else s1
  if rises && severity = .lockout then s2.testLocks r.station else s2

/-- A new record is appended (R141). -/
def State.appendAlert (s : State) (kind : AlertKind) (severity : Severity) (source : Nat) (station : Option StationId) :
    State :=
  let r : Alert :=
    { id := s.alerts.nextId, kind := kind, severity := severity, station := station, source := source, acked := false,
      condition := if kind.isCondition then some true else none, level := 0, timeInLevel := 0, repeats := 1,
      raiseTime := s.part.uptime }
  let records := s.alerts.records ++ [r]
  let s1 : State :=
    { s with
      alerts := { s.alerts with records := records, nextId := freeId records 17 (nextIdAfter s.alerts.nextId) } }
  let s2 := s1.postAlert .raised r.detail
  if severity = .lockout then s2.testLocks station else s2

/-- The record a raise into a full table evicts: the oldest ACKNOWLEDGED NOTE (R142). -/
def evictable (records : List Alert) : Option Alert := records.find? fun r => r.severity = .note && r.acked

/-- A raise that finds the table full and nothing to evict is lost (R142). -/
def State.loseAlert (s : State) (kind : AlertKind) (severity : Severity) (source : Nat) (station : Option StationId) :
    State :=
  let s1 := s.postAlert .tableFull
    { id := 0, kind := kind, severity := severity, station := station, source := source, acked := false, level := 0,
      repeats := 0 }
  if severity = .lockout then s1.setLatches station else s1

/-- A raise (R140 to R142), with its outcome. -/
def State.raise (s : State) (kind : AlertKind) (severity : Severity) (source : Nat) (station : Option StationId) :
    State × RaiseOutcome :=
  match s.alerts.records.find? (·.hasIdentity kind source station) with
  | some r => (s.mergeAlert r severity, .merged r.id)
  | none =>
    if s.alerts.records.length < Config.alertCapacity then
      (s.appendAlert kind severity source station, .new s.alerts.nextId)
    else
      match evictable s.alerts.records with
      | some v =>
        let s1 := s.removeRecord v
        (s1.appendAlert kind severity source station, .new s1.alerts.nextId)
      | none => (s.loseAlert kind severity source station, .notStored)

/-! ## Scope of an ACK button (R9, R13, R149) -/

/-- A record in the scope of a button's station field: ALL, or naming that station or ALL (R9). -/
def Alert.inScope (r : Alert) (scope : Option StationId) : Bool :=
  scope = none || r.station = none || r.station = scope

/-- The record an ACK press acknowledges: the oldest RAISED one of the highest severity in scope (R13). -/
def State.ackChoice (s : State) (scope : Option StationId) : Option Alert :=
  let open' := s.alerts.records.filter fun r => !r.acked && r.inScope scope
  (open'.find? (·.severity = .lockout)).or ((open'.find? (·.severity = .call)).or (open'.find? (·.severity = .note)))

/-- An ACK press (R13). -/
def State.ackPress (s : State) (scope : Option StationId) : State :=
  match s.ackChoice scope with
  | none => s
  | some r => s.acknowledge r

/-- The hold of an ACK button removes the oldest ACKNOWLEDGED latched record in scope (R149). -/
def State.ackHold (s : State) (scope : Option StationId) : State :=
  match s.alerts.records.find? fun r => r.acked && !r.kind.isCondition && r.inScope scope with
  | none => s
  | some r => s.removeRecord r

/-! ## Escalation (8.4) -/

/-- A severity's escalation interval in milliseconds (R145). -/
def State.intervalMs (s : State) : Severity → Nat
  | .note => s.alerts.noteInterval * 1000
  | .call => s.alerts.callInterval * 1000
  | .lockout => s.alerts.lockoutInterval * 1000

/-- A record escalates: a RAISED record below level 3 goes up one level (R145). -/
def State.escalate (s : State) (id : Nat) : State :=
  match s.recordOf id with
  | none => s
  | some r =>
    if r.acked ∨ 3 ≤ r.level then s
    else
      let r1 := { r with level := r.level + 1, timeInLevel := 0 }
      (s.updateRecord id fun _ => r1).postAlert .escalated r1.detail

/-! ## The beacon (8.7) -/

/-- The highest level among RAISED records of a severity. -/
def State.raisedLevel (s : State) (sev : Severity) : Option Nat :=
  ((s.alerts.records.filter fun r => !r.acked && r.severity = sev).map (·.level)).foldl
    (fun m l => some (match m with | none => l | some k => max k l)) none

/-- The NOTE lamp pattern (R151). -/
def State.notePattern (s : State) : Pattern :=
  match s.raisedLevel .note with
  | some 0 => .slow
  | some _ => .fast
  | none => if s.alerts.records.any (·.acked) then .steady else .off

/-- The CALL lamp pattern (R152). -/
def State.callPattern (s : State) : Pattern :=
  match s.raisedLevel .lockout, s.raisedLevel .call with
  | some _, _ => .fast
  | none, some 0 => .steady
  | none, some 1 => .slow
  | none, some _ => .fast
  | none, none => .off

/-- The sounder pattern (R152). -/
def State.sounderPattern (s : State) : Pattern :=
  match s.raisedLevel .lockout with
  | some 0 => .off
  | some 1 => .slow
  | some _ => .steady
  | none => .off

/-- An output's level under a pattern (R153). -/
def State.patternLit (s : State) : Pattern → Bool
  | .off => false
  | .steady => true
  | .slow => s.lamps.slow.on
  | .fast => s.lamps.fast.on

/-- The three beacon outputs. -/
inductive BeaconPin where
  | noteLamp
  | callLamp
  | sounder
  deriving DecidableEq, Repr

/-- A beacon output's number, in the order of R154's patterns. -/
def BeaconPin.number : BeaconPin → Nat
  | .noteLamp => 0
  | .callLamp => 1
  | .sounder => 2

/-- The pattern of a beacon output (R151, R152). -/
def State.beaconPattern (s : State) : BeaconPin → Pattern
  | .noteLamp => s.notePattern
  | .callLamp => s.callPattern
  | .sounder => s.sounderPattern

/-- A beacon output: its pattern's level while the beacon is available and no test runs (R153). Through the test it is deasserted, but for the drive of
test item 7, a free value (R189; log entry 24). -/
def State.beaconOutput (s : State) (o : BeaconPin) : Bool :=
  if s.isTesting then s.testItem = some 7 && Config.testBeacon s.part.uptime.toNat o.number
  else s.part.available.beacon && s.patternLit (s.beaconPattern o)

/-! ## Counts for replies -/

/-- Records stored of a severity. -/
def State.storedCount (s : State) (sev : Severity) : Nat := (s.alerts.records.filter (·.severity = sev)).length

/-- RAISED records of a severity. -/
def State.raisedCount (s : State) (sev : Severity) : Nat :=
  (s.alerts.records.filter fun r => !r.acked && r.severity = sev).length

end Sys2Proof.Machine
end

