-- ==== Sys2Proof/Machine/Axes.lean ====
section
/-! DEFINITION. The axis channels (04_axis_channels.md) and the pair rules of 6.5: halts, homing, the loading and completion of
entries, demand, triggers, and the ramp tick (05_motion_profiles.md). -/

namespace Sys2Proof.Machine

/-! ## Reading an axis -/

/-- The entry an axis's current cue names. -/
def State.currentEntry (s : State) (x : AxisId) : Option CueEntry :=
  match (s.axis x).current with
  | some (.entry i) => some (s.cue i)
  | _ => none

/-- The profile of a motion entry. -/
def CueBody.profile : CueBody → Option Profile
  | .move _ p _ => some p
  | .moveTo _ p => some p
  | _ => none

/-- The home value of a seek MOVE. -/
def CueBody.home : CueBody → Option Int
  | .move _ _ (some (_, h)) => some h
  | _ => none

/-- The profile of the loaded motion entry (5, opening). -/
def State.loadedProfile (s : State) (x : AxisId) : Option Profile := (s.currentEntry x).bind (·.body.profile)

/-- The level of an end stop. -/
def Axis.stopLevel (a : Axis) : StopSide → Option Bool
  | .low => a.lowLevel
  | .high => a.highLevel

/-- The stop that lies in a direction: LOW is DOWN, HIGH is UP (R78). -/
def Dir.stop : Dir → StopSide
  | .up => .high
  | .down => .low

/-- The end stop in the travel direction is TRIPPED. -/
def Axis.trippedAhead (a : Axis) : Bool := a.stopLevel a.dir.stop = some true

/-- The position an axis's motion counts on: the virtual one in REHEARSE mode (R83). -/
def State.countedPosition (s : State) (x : AxisId) : Int :=
  if s.rehearses x then (s.axis x).virtual else (s.axis x).position

/-- A position clamped into an axis's soft limits (R79). -/
def AxisConfig.clamp (c : AxisConfig) (z : Int) : Int := max c.softLow (min c.softHigh z)

/-! ## Immediate halts (4.7) -/

/-- The causes of an immediate halt (R76). -/
inductive HaltCause where
  | halted
  | endStop
  | jam
  deriving DecidableEq, Repr

/-- The event cause of a halt (R76). -/
def HaltCause.cause : HaltCause → Cause
  | .halted => .halted
  | .endStop => .endStop
  | .jam => .jam

/-- The other member of a pair's run receives DISARM, and the pair settles when neither member is active (R117). Both end DISARMED: DISARM reaches
also a partner that is ARMED already, settled by its chain end or by ABANDON while the other member was still STOPPING. DEDUCED (log entry 21). -/
def State.endRun (s : State) (x : AxisId) : State :=
  if s.paired x ∧ (s.pair x).run then
    (s.handDisposition (partnerOf x) .disarm).settlePair x
  else s

/-- An immediate halt (R76). HALT_AXIS and the STOP line reach both members of a pair themselves; a trip or a jam hands DISARM to
the other member (R117) and raises its alert. -/
def State.halt (s : State) (x : AxisId) (why : HaltCause) : State :=
  let a := s.axis x
  if a.state = .disarmed then s
  else
    let s1 := s.withdraw x
    let s2 := if a.state.moving ∧ !s.rehearses x then s1.putAxis x { s1.axis x with valid := false } else s1
    let s3 := (s2.disarm x true).post (axisLine x) why.cause
    match why with
    | .halted => s3.settlePair x
    | .endStop => ((s3.endRun x).raise .limitTrip .lockout x.val a.cfg.station).1
    | .jam => ((s3.endRun x).raise .jam .lockout x.val a.cfg.station).1

/-- HALT_AXIS and the STOP line: an immediate halt with HALTED of an axis (R76, R77). -/
def State.haltAll (s : State) (xs : List AxisId) : State := xs.foldl (fun t x => t.halt x .halted) s

/-- A seek miss (R81, R117). -/
def State.seekMiss (s : State) (x : AxisId) : State :=
  (((s.post (axisLine x) .seekMiss).disarm x true).endRun x).settlePair x

/-! ## Completion (R70, R75) -/

/-- The current cue becomes the completed entry's next index (R70). -/
def State.stepCue (s : State) (x : AxisId) : State :=
  match s.currentEntry x with
  | none => s
  | some e => s.putAxis x { s.axis x with current := some e.next }

/-- An entry completes: SINGLE mode posts SEGMENT_DONE and becomes ARMED at the next cue; the other modes go on to load it (the
answer is true) (R70). -/
def State.completeEntry (s : State) (x : AxisId) : State × Bool :=
  let s1 := s.stepCue x
  if s.mode x = .single then ((s1.post (axisLine x) .segmentDone).enter x .armed, false) else (s1, true)

/-- An entry completes while its axis is STOPPING: the next entry is not loaded, and the axis settles (R75). -/
def State.completeStopping (s : State) (x : AxisId) : State :=
  let s1 := s.stepCue x
  let s2 := if s.mode x = .single then s1.post (axisLine x) .segmentDone else s1
  s2.settleBy x (((s.axis x).disposition).getD .abandon)

/-! ## The chain end (R71, R114, R115) -/

/-- The value CHAIN_END carries: the rehearsal elapsed time of a REHEARSE axis, 0 otherwise (R171). -/
def State.chainEndValue (s : State) (x : AxisId) : Nat := if s.rehearses x then (s.axis x).elapsed else 0

/-- An axis posts CHAIN_END and settles by its own repeat flag (R71). -/
def State.settleChainEnd (s : State) (x : AxisId) : State :=
  let v := s.chainEndValue x
  let s1 := s.post (axisLine x) .chainEnd fun d => { d with chainEnd := some v }
  if (s.axis x).cfg.repeats then s1.enter x .armed fun a => { a with current := a.start.map .entry }
  else s1.disarm x false

/-- A leader that loads END during the pair's run counts a loop and waits one millisecond (R114). -/
def State.restartLeader (s : State) (x : AxisId) : State :=
  let p := s.pair x
  (s.putPair x { p with loops := satAdd 255 p.loops 1 }).enter x .dwelling fun a =>
    { a with current := a.start.map .entry, dwell := 1, restartWait := true }

/-- The follower's chain end ends the pair's run: it settles, and the leader receives ABANDON (R115). -/
def State.endPair (s : State) (x : AxisId) : State :=
  let s1 := s.settleChainEnd x
  let s2 := s1.putPair x { s1.pair x with endFlag := true }
  (s2.handDisposition (leaderOf x) .abandon).settlePair x

/-- The loading of END (R71), of a leader (R114) or a follower (R115) during its pair's run. -/
def State.chainEnd (s : State) (x : AxisId) : State :=
  if s.paired x ∧ (s.pair x).run then (if isLeader x then s.restartLeader x else s.endPair x)
  else s.settleChainEnd x

/-! ## Loading (4.4) -/

/-- A seek is at home: the position takes the clamped home value and becomes valid, and HOMED is posted (R79). -/
def State.takeHome (s : State) (x : AxisId) (home : Int) : State :=
  let a := s.axis x
  (s.putAxis x { a with remN := 0, position := a.cfg.clamp home, valid := true }).post (axisLine x) .homed

/-- A REHEARSE seek whose steps run out completes as though it had met its home (R83). -/
def State.takeVirtualHome (s : State) (x : AxisId) (home : Int) : State :=
  let a := s.axis x
  s.putAxis x { a with virtual := a.cfg.clamp home }

/-- The room left in a direction before the soft limit (R64). -/
def AxisConfig.room (c : AxisConfig) (position : Int) : Dir → Nat
  | .up => (c.softHigh - position).toNat
  | .down => (position - c.softLow).toNat

/-- The axis holds run current: its pair's run is set, or it is RUNNING on the motion that has just completed (R66, R113). -/
def State.holdsRunCurrent (s : State) (x : AxisId) : Bool :=
  if s.paired x then (s.pair x).run else (s.axis x).state = .running

/-- The ramp of a new segment: r = f, q = 0, phase ACCEL (R66). -/
def Axis.startRamp (a : Axis) (p : Profile) : Axis := { a with rate := p.f, acc := 0, phase := .accel }

/-- The DIR level of a loaded segment; a REHEARSE axis keeps its last level (R58). -/
def State.setDir (s : State) (x : AxisId) : State :=
  let a := s.axis x
  if s.rehearses x then s else s.putAxis x { a with dirLevel := (a.dir = .up : Bool) != a.cfg.invert }

/-- What follows once a motion entry has set N (R66). The answer is true when the entry completes at once. -/
def State.motionOutcome (s : State) (x : AxisId) (p : Profile) (home : Option Int) : State × Bool :=
  let a := s.axis x
  if a.segN = 0 then
    match home with
    | none => (s, true)
    | some h => if s.rehearses x then (s.takeVirtualHome x h, true) else (s.seekMiss x, false)
  else
    let s1 := s.setDir x
    if s.mode x = .demand ∧ !s.demandFlag x then (s1.enter x .paused, false)
    else if s.holdsRunCurrent x then
      let s2 := s1.enter x .running fun b => b.startRamp p
      if a.seek = none ∧ a.trippedAhead ∧ !s.rehearses x then (s2.halt x .endStop, false) else (s2, false)
    else if s.rehearses x then (s1.enter x .running fun b => b.startRamp p, false)
    else ((s1.enter x .pending fun b => b.startRamp p).joinPending x, false)

/-- Sets up a segment of `travel` steps, clamped to the soft limits (R64, R65), and takes its motion outcome. A seek whose stop is
TRIPPED already is at home at once (R64). A MOVE_TO whose target is the position keeps the direction it finds. DESIGN CHOICE (log entry 20).
-/
def State.loadMotion (s : State) (x : AxisId) (travel : Int) (p : Profile) (seek : Option (StopSide × Int)) :
    State × Bool :=
  let a := s.axis x
  let a1 : Axis :=
    { a with
      dir := if 0 < travel then .up else if travel < 0 then .down else a.dir
      seek := seek.map (·.1) }
  let s1 := s.putAxis x a1
  match seek with
  | some (side, h) =>
    if !s.rehearses x ∧ a.stopLevel side = some true then (s1.takeHome x h, true)
    else
      let n := min travel.natAbs (a.cfg.room (s.countedPosition x) a1.dir)
      (s1.putAxis x { a1 with segN := n, remN := n }).motionOutcome x p (some h)
  | none =>
    let n := min travel.natAbs (a.cfg.room (s.countedPosition x) a1.dir)
    let s2 := s1.putAxis x { a1 with segN := n, remN := n }
    let s3 := if n < travel.natAbs then s2.post (axisLine x) .softLimit else s2
    s3.motionOutcome x p none

/-- Loads the current cue (R64 to R71). The answer is true when the entry completes at once. -/
def State.loadOne (s : State) (x : AxisId) : State × Bool :=
  match (s.axis x).current with
  | none => (s, false)
  | some .chainStop => (s.chainEnd x, false)
  | some (.entry i) =>
    match (s.cue i).body with
    | .empty => (s, false)
    | .move steps p seek => s.loadMotion x steps p seek
    | .moveTo target p => s.loadMotion x (target - s.countedPosition x) p none
    | .dwell ms => (s.enter x .dwelling fun a => { a with dwell := ms, restartWait := false }, false)
    | .scene n => (if s.rehearses x then s else { s with lamps := { s.lamps with display := n } }, true)
    | .mark code => (s.post (axisLine x) .mark fun d => { d with mark := some code }, true)

/-- Loads entries one after another until one does not complete at once (R70). -/
def State.loadEntries (x : AxisId) : Nat → State → State
  | 0, s => s
  | fuel + 1, s =>
    let (s1, done) := s.loadOne x
    if done then
      let (s2, more) := s1.completeEntry x
      if more then State.loadEntries x fuel s2 else s2
    else s1

/-- Loads the current cue and what follows it at once. -/
def State.load (s : State) (x : AxisId) : State := State.loadEntries x Config.loadFuel s

/-- An entry completes on an axis that is not STOPPING, which then goes on (R70). -/
def State.completeAndGoOn (s : State) (x : AxisId) : State :=
  let (s1, more) := s.completeEntry x
  if more then s1.load x else s1

/-! ## Triggers (R63, R112) -/

/-- A REHEARSE axis's trigger starts its elapsed time and its virtual position (R63). It ends what a dissolution left with the axis (log entry 15).
-/
def State.startRehearsal (s : State) (x : AxisId) : State :=
  let a := s.axis x
  s.putAxis x { a with elapsed := 0, virtual := a.position, asLeft := false }

/-- A pair member loads its current cue at its pair's grant or trigger, unless the other member's load has ended the run. -/
def State.loadMember (s : State) (x : AxisId) (from_ : AxisState) : State :=
  if (s.axis x).state = from_ ∧ (s.pair x).run then s.load x else s

/-- The trigger of a pair (R112). -/
def State.triggerPair (s : State) (x : AxisId) : State :=
  let l := leaderOf x
  let f := followerOf x
  let s0 := s.putPair x { run := s.rehearses x, endFlag := false, loops := 0, runSum := 0 }
  if s.rehearses x then
    (((s0.startRehearsal l).startRehearsal f).loadMember l .armed).loadMember f .armed
  else ((s0.enter l .pending).enter f .pending).joinPending l

/-- A trigger of an ARMED axis, or of the pair it leads (R63, R112). One that reaches an axis no longer ARMED does nothing. -/
def State.trigger (s : State) (x : AxisId) : State :=
  if (s.axis x).state = .armed then
    if s.paired x then s.triggerPair x
    else if s.rehearses x then (s.startRehearsal x).load x
    else s.load x
  else s

/-! ## Demand (4.5) -/

/-- A demand drop (R72). -/
def State.demandDrop (s : State) (x : AxisId) : State :=
  match (s.axis x).state with
  | .running => s.enter x .stopping fun a => { a with disposition := some .pause }
  | .pending => (s.withdraw x).enter x .paused
  | _ => s

/-- A demand return (R73, R94, R95). -/
def State.demandReturn (s : State) (x : AxisId) : State :=
  let a := s.axis x
  match a.state with
  | .paused =>
    if a.remN = 0 then s.load x
    else
      match s.loadedProfile x with
      | none => s
      | some p => (s.enter x .pending fun b => b.startRamp p).joinPending x
  | .stopping =>
    if a.disposition = some .pause then s.enter x .running fun b => { b with phase := .accel } else s
  | _ => s

/-- A change of an axis's demand flag reaches it in DEMAND mode as a drop or a return (R72). -/
def State.demandChange (s : State) (x : AxisId) (asserted : Bool) : State :=
  if s.mode x = .demand then (if asserted then s.demandReturn x else s.demandDrop x) else s

/-! ## The ramp tick (5.1) -/

/-- The brake distance (R88): (r² − f²) ÷ (2,000 × a), rounded up. -/
def brakeDistance (p : Profile) (r : Nat) : Nat := (r * r - p.f * p.f + (2000 * p.a - 1)) / (2000 * p.a)

/-- The rate update (R89): the new rate and phase. -/
def rateUpdate (p : Profile) (a : Axis) : Nat × Phase :=
  if a.phase = .decel ∨ a.state = .stopping ∨ a.remN ≤ brakeDistance p a.rate then (max p.f (a.rate - p.a), .decel)
  else if a.rate < p.v then
    let r := min p.v (a.rate + p.a)
    (r, if r = p.v then .cruise else .accel)
  else (a.rate, .cruise)

/-- A position moved by steps in a direction. -/
def Dir.advance (d : Dir) (z : Int) (k : Nat) : Int :=
  match d with
  | .up => z + k
  | .down => z - k

/-- The whole steps of a tick at a new rate, capped at n (R90). -/
def Axis.tickSteps (a : Axis) (rate : Nat) : Nat := min a.remN ((a.acc + rate) / 1000)

/-- The first three parts of a tick: brake distance, rate update and stepping (R88 to R90). -/
def Axis.rampStep (a : Axis) (p : Profile) (rehearses : Bool) : Axis :=
  let (r, ph) := rateUpdate p a
  let k := a.tickSteps r
  { a with
    rate := r
    phase := ph
    acc := (a.acc + r) % 1000
    remN := a.remN - k
    position := if rehearses then a.position else a.dir.advance a.position k
    virtual := if rehearses then a.dir.advance a.virtual k else a.virtual
    stepPulses := if rehearses then 0 else k }

/-- The completion of a segment whose count is reached: a seek's miss (R81), or its REHEARSE home (R83), or the entry's completion
(R70, R75). -/
def State.countReached (s : State) (x : AxisId) : State :=
  let a := s.axis x
  let go := fun (t : State) => if a.state = .stopping then t.completeStopping x else t.completeAndGoOn x
  if a.seek = none then go s
  else if s.rehearses x then go (s.takeVirtualHome x (((s.currentEntry x).bind (·.body.home)).getD 0))
  else s.seekMiss x

/-- A ramp tick of a RUNNING or STOPPING axis (R87 to R91). -/
def State.rampTick (s : State) (x : AxisId) : State :=
  if (s.axis x).state.moving then
    match s.loadedProfile x with
    | none => s
    | some p =>
      let a := (s.axis x).rampStep p (s.rehearses x)
      let s1 := s.putAxis x a
      if a.remN = 0 then s1.countReached x
      else if a.state = .stopping ∧ a.rate = p.f then s1.settleBy x (a.disposition.getD .abandon)
      else s1
  else s

/-! ## Dwells and end stops -/

/-- A dwell ends: the DWELL entry completes (R68), or a leader's restart wait is over and it loads its start cue (R114). -/
def State.dwellExpiry (s : State) (x : AxisId) : State :=
  let a := s.axis x
  if a.state = .dwelling then
    let s1 := s.putAxis x { a with dwell := 0, restartWait := false }
    if a.restartWait then s1.load x else s1.completeAndGoOn x
  else s

/-- A trip of a moving axis (R78): the home of a seek whose own stop it is (R79), a fault of travel otherwise (R80). -/
def State.tripped (s : State) (x : AxisId) (side : StopSide) : State :=
  let a := s.axis x
  if a.seek = some side then
    let s1 := s.takeHome x (((s.currentEntry x).bind (·.body.home)).getD 0)
    if a.state = .stopping then s1.completeStopping x else s1.completeAndGoOn x
  else s.halt x .endStop

/-- Writes an end stop's level. -/
def Axis.withStopLevel (a : Axis) (side : StopSide) (level : Bool) : Axis :=
  match side with
  | .low => { a with lowLevel := some level }
  | .high => { a with highLevel := some level }

/-- An end stop takes a debounced level (R78): becoming TRIPPED on a moving axis that is not in REHEARSE mode, it is a trip. -/
def State.endStopChange (s : State) (x : AxisId) (side : StopSide) (level : Bool) : State :=
  let a := s.axis x
  if a.stopLevel side = some level then s
  else
    let s1 := s.putAxis x (a.withStopLevel side level)
    if level ∧ a.state.moving ∧ !s.rehearses x then s1.tripped x side else s1

/-- The look at the end stops when a grant takes an axis to RUNNING (R67): a stop TRIPPED ahead is a trip. -/
def State.grantTrip (s : State) (x : AxisId) : State :=
  let a := s.axis x
  if a.state.moving ∧ a.trippedAhead ∧ !s.rehearses x then s.tripped x a.dir.stop else s

end Sys2Proof.Machine
end

