-- ==== Sys2Proof/Machine/Stations.lean ====
section
/-! DEFINITION. The station table (02_stations.md): starts, demand presses, stops, timeouts, and the station requests. -/

namespace Sys2Proof.Machine

/-! ## Starting a show (2.3) -/

/-- An axis that a station start selects (R24): a member, ARMED, in SINGLE or BLOCK mode; a paired leader stands for its pair, and only
when both members are ARMED (R112). -/
def State.startSelects (s : State) (st : StationId) (x : AxisId) : Bool :=
  s.isMember st x && (s.axis x).state = .armed && (s.mode x = .single || s.mode x = .block) &&
    (!s.paired x || (isLeader x && (s.axis (followerOf x)).state = .armed))

/-- An axis that a demand start or a demand press triggers (R11): a member, ARMED, in DEMAND mode. -/
def State.demandSelects (s : State) (st : StationId) (x : AxisId) : Bool :=
  s.isMember st x && (s.axis x).state = .armed && s.mode x = .demand

/-- A station enters SHOWING and counts the show (R24, R26). -/
def State.enterShowing (s : State) (st : StationId) : State :=
  let r := s.station st
  (s.putStation st { r with state := .showing, idleTime := 0, shows := satAdd 65535 r.shows 1 }).post
    (stationLine st) .showing

/-- Triggers axes as one start (R24), in the order of the list: R24 has them triggered together, and the model takes them in ascending axis
number, which is seen where two load SCENE entries at once. DESIGN CHOICE (log entry 19). -/
def State.triggerAll (s : State) (xs : List AxisId) : State := xs.foldl (fun t x => t.trigger x) s

/-- A refused start or demand press (R25). -/
def State.refuseStart (s : State) (st : StationId) : State :=
  let r := s.station st
  (s.putStation st { r with refused := satAdd 65535 r.refused 1 }).post (stationLine st) .stationRefused

/-- A station start (R24, R25). The answer is true when it is taken. -/
def State.startStation (s : State) (st : StationId) : State × Bool :=
  let chosen := allAxes.filter (s.startSelects st)
  if (s.station st).state = .ready ∧ !chosen.isEmpty then
    (((s.enterShowing st).triggerAll chosen).testActivity st, true)
  else (s.refuseStart st, false)

/-- A demand press (R11). The answer is true when it is taken. -/
def State.demandPress (s : State) (st : StationId) : State × Bool :=
  let chosen := allAxes.filter (s.demandSelects st)
  match (s.station st).state with
  | .ready =>
    if chosen.isEmpty then (s.refuseStart st, false)
    else (((s.enterShowing st).triggerAll chosen).testActivity st, true)
  | .showing => ((s.triggerAll chosen).testActivity st, true)
  | _ => (s.refuseStart st, false)

/-! ## Ending a show (2.4) -/

/-- A station stop: each active member receives ABANDON (R31). -/
def State.stopStation (s : State) (st : StationId) : State :=
  s.handAll ((s.members st).filter s.isActive) .abandon

/-- The expiry of a rest (R28). -/
def State.restExpiry (s : State) (st : StationId) : State :=
  let r := s.station st
  if r.state = .resting then
    (s.putStation st { r with state := .ready, restRemaining := 0 }).post (stationLine st) .ready
  else s

/-- The idle time runs: the station is SHOWING, with an active member, and every active member is PAUSED (R29). -/
def State.idleRuns (s : State) (st : StationId) : Bool :=
  (s.station st).state = .showing &&
    (s.members st).any s.isActive && (s.members st).all fun x => !s.isActive x || (s.axis x).state = .paused

/-- The idle timeout of a show (R30). -/
def State.idleTimeout (s : State) (st : StationId) : State :=
  if (s.station st).idleLimit ≠ 0 ∧ s.idleRuns st then
    let s1 := s.post (stationLine st) .idleTimeout
    s1.handAll ((s1.members st).filter fun x => (s1.axis x).state = .paused) .abandon
  else s

/-! ## Commands (2.7) -/

/-- ONLINE (R22). -/
def State.bringOnline (s : State) (st : StationId) : State :=
  let r := s.station st
  if r.state = .offline then
    if s.lockCondition st then (s.putStation st { r with state := .locked, idleTime := 0 }).post (stationLine st) .locked
    else (s.putStation st { r with state := .ready }).post (stationLine st) .ready
  else s

/-- OFFLINE (R23). -/
def State.takeOffline (s : State) (st : StationId) : State :=
  let r := s.station st
  if r.state = .offline then s
  else
    let s1 := (s.putStation st { r with state := .offline, restRemaining := 0, idleTime := 0 }).post
      (stationLine st) .offline
    s1.handAll (s1.members st) .disarm

/-- UNLOCK (R35). -/
def State.unlockStation (s : State) (st : StationId) : State :=
  let r := s.station st
  if r.latch then (s.putStation st { r with latch := false }).testLock st else s

/-- STATION_COMMAND with command ONLINE (R22, R37). -/
def reqStationOnline (station : Byte) (s : State) : State × List Byte :=
  match finOf 8 station with
  | none => (s, replyBody .badValue)
  | some st => (s.bringOnline st, replyBody .ok)

/-- STATION_COMMAND with command OFFLINE (R23, R37). -/
def reqStationOffline (station : Byte) (s : State) : State × List Byte :=
  match finOf 8 station with
  | none => (s, replyBody .badValue)
  | some st => (s.takeOffline st, replyBody .ok)

/-- STATION_COMMAND with command START (R24, R25, R37). -/
def reqStationStart (station : Byte) (s : State) : State × List Byte :=
  match finOf 8 station with
  | none => (s, replyBody .badValue)
  | some st =>
    let (s1, taken) := s.startStation st
    (s1, replyBody (if taken then .ok else .busy))

/-- STATION_COMMAND with command STOP (R31, R37). -/
def reqStationStop (station : Byte) (s : State) : State × List Byte :=
  match finOf 8 station with
  | none => (s, replyBody .badValue)
  | some st => (s.stopStation st, replyBody .ok)

/-- STATION_COMMAND with command UNLOCK (R35, R37). -/
def reqStationUnlock (station : Byte) (s : State) : State × List Byte :=
  match finOf 8 station with
  | none => (s, replyBody .badValue)
  | some st => (s.unlockStation st, replyBody .ok)

/-! ## Lamp cells (R15, R36) -/

/-- A cell is claimed by a button other than `b`. -/
def State.claimedByButton (s : State) (cell : Cell) (b : Option ButtonId) : Bool :=
  allButtons.any fun i => some i ≠ b && (s.button i).cell = some cell

/-- A cell is claimed by a station other than `st`. -/
def State.claimedByStation (s : State) (cell : Cell) (st : Option StationId) : Bool :=
  allStations.any fun i => some i ≠ st && (s.station i).cell = some cell

/-- SET_STATION (R38). -/
def reqSetStation (station : Byte) (rest idle : Nat) (row column : Byte) (s : State) : State × List Byte :=
  match finOf 8 station, inRange 0 6000 rest, inRange 0 600 idle, cellOf row column with
  | some st, some rest, some idle, some cell =>
    let taken := match cell with
      | none => false
      | some c => s.claimedByButton c none || s.claimedByStation c (some st)
    if taken then (s, replyBody .inUse)
    else (s.putStation st { s.station st with restTime := rest, idleLimit := idle, cell := cell }, replyBody .ok)
  | _, _, _, _ => (s, replyBody .badValue)

/-- The member buttons of a station, in ascending order (R39). -/
def State.memberButtons (s : State) (st : StationId) : List ButtonId :=
  allButtons.filter fun b => (s.button b).station = some st

/-- READ_STATION (R39, Table 12-7). -/
def reqReadStation (station clear : Byte) (s : State) : State × List Byte :=
  match finOf 8 station, flagOf clear with
  | some st, some clr =>
    let r := s.station st
    let axes := s.members st
    let buttons := s.memberButtons st
    let body := le16 r.restTime ++ le16 r.idleLimit ++ cellCode r.cell ++ [byteOf (stationStateCode r.state)] ++
      le32 r.restRemaining ++ le32 r.idleTime ++ le16 r.shows ++ le16 r.refused ++
      [byteOf (flagByte [r.latch, s.lockoutStored st, s.buttonDemand st])] ++
      byteOf axes.length :: axes.flatMap (fun x => [byteOf x.val, byteOf (axisStateCode (s.axis x).state)]) ++
      byteOf buttons.length :: buttons.flatMap fun b =>
        [byteOf b.val, byteOf (roleCode (s.button b).role), byteOf (buttonStateCode (s.button b).state)]
    (if clr then s.putStation st { r with shows := 0, refused := 0 } else s, replyBody .ok body)
  | _, _ => (s, replyBody .badValue)

end Sys2Proof.Machine
end

