-- ==== Sys2Proof/Machine/Buttons.lean ====
section
/-! DEFINITION. The button unit (01_visitor_buttons.md): sampling, button states, roles, and the button requests. -/

namespace Sys2Proof.Machine

/-! ## Contacts (R2) -/

/-- The contact sample of a pin level under a polarity (R2). -/
def Polarity.sample : Polarity → Bool → Contact
  | .closedLow, high => if high then .opened else .closed
  | .closedHigh, high => if high then .closed else .opened

/-- The pin level at which a contact reads so under a polarity. -/
def Polarity.pin : Polarity → Contact → Bool
  | .closedLow, .opened => true
  | .closedLow, .closed => false
  | .closedHigh, .opened => false
  | .closedHigh, .closed => true

/-- Sets a button's input pin to the level at which its contact reads so. -/
def State.setButtonPin (s : State) (b : ButtonId) (c : Contact) : State :=
  { s with pins := { s.pins with buttons := s.pins.buttons.set b.val ((s.button b).polarity.pin c) b.isLt } }

/-! ## Demand (R12) -/

/-- The button unit hands a change of a station's button demand to the station's DEMAND axes, in ascending order (R12); it changes the
flag of an axis whose host demand is clear (R72). -/
def State.handDemand (s : State) (st : StationId) : State :=
  let now := s.buttonDemand st
  ((s.members st).filter fun x => !(s.axis x).hostDemand).foldl (fun t x => t.demandChange x now) s

/-- The change of button demand between two states of the button records, if there is one (R12). -/
def State.demandAfter (before after : State) (b : ButtonId) : State :=
  match (after.button b).station with
  | none => after
  | some st => if before.buttonDemand st = after.buttonDemand st then after else after.handDemand st

/-! ## Button states (1.2) -/

/-- The role action of a press (R5, R10 to R14). `before` is the state before the press. -/
def State.pressAction (before s : State) (b : ButtonId) : State :=
  let r := s.button b
  match r.role with
  | .roleNone => s
  | .roleShow =>
    match r.station with
    | none => s
    | some st =>
      let (s1, taken) := s.startStation st
      if taken then s1 else s1.post (buttonLine b) .buttonRefused
  | .roleHold =>
    match r.station with
    | none => s
    | some st =>
      let (s1, taken) := (before.demandAfter s b).demandPress st
      if taken then s1 else s1.post (buttonLine b) .buttonRefused
  | .roleAck => s.ackPress r.station
  | .roleStop => (stationsOf r.station).foldl (fun t st => t.stopStation st) s

/-- A debounced close of a settled, RELEASED button (R5). -/
def State.buttonPress (s : State) (b : ButtonId) : State :=
  let r := s.button b
  let s1 := (s.putButton b { r with level := some .closed, count := 0, state := .pressed, heldTime := 0 }).post
    (buttonLine b) .press
  s.pressAction s1 b

/-- The station a STUCK_BUTTON alert names (R7): the button's, or ALL. -/
def Button.alertStation (r : Button) : Option StationId := r.station

/-- A button enters STUCK (R7): it posts STUCK, raises its alert, and no longer counts for demand (R12). -/
def State.enterStuck (s : State) (b : ButtonId) : State :=
  let r := s.button b
  let s1 := (s.putButton b { r with state := .stuck }).post (buttonLine b) .stuck
  let s2 := (s1.raise .stuckButton .call b.val r.alertStation).1
  if r.role = .roleHold then s.demandAfter s2 b else s2

/-- A button enters HELD (R6); an ACK button clears an alert (R13). -/
def State.enterHeld (s : State) (b : ButtonId) : State :=
  let r := s.button b
  let s1 := (s.putButton b { r with state := .held }).post (buttonLine b) .hold
  if r.role = .roleAck then s1.ackHold r.station else s1

/-- The comparisons of the held time with the stuck limit and the hold threshold (R6). -/
def State.compareHeld (s : State) (b : ButtonId) : State :=
  let r := s.button b
  match r.state with
  | .pressed =>
    if s.buttonTiming.stuckLimit * 1000 ≤ r.heldTime then s.enterStuck b
    else if r.holdThreshold ≤ r.heldTime then s.enterHeld b
    else s
  | .held => if s.buttonTiming.stuckLimit * 1000 ≤ r.heldTime then s.enterStuck b else s
  | _ => s

/-- A debounced open (R8). -/
def State.buttonRelease (s : State) (b : ButtonId) : State :=
  let r := s.button b
  let s1 := (s.putButton b { r with level := some .opened, count := 0, state := .released, heldTime := 0 }).post
    (buttonLine b) .release
  match r.state with
  | .released => s1
  | .stuck => s1.clearCondition .stuckButton b.val r.alertStation
  | _ => if r.role = .roleHold then s.demandAfter s1 b else s1

/-- An unsettled button settles, silently (R4). A HOLD button that settles CLOSED counts for demand (R12). -/
def State.buttonSettle (s : State) (b : ButtonId) (c : Contact) : State :=
  let r := s.button b
  let s1 := s.putButton b
    { r with
      level := some c
      provisional := none
      count := 0
      state := if c = .closed then .pressed else .released
      heldTime := 0 }
  if r.role = .roleHold then s.demandAfter s1 b else s1

/-! ## The millisecond of a button (R2 to R6) -/

/-- The held-time step: while the debounced level stays CLOSED the held time rises and is compared (R6). -/
def State.countHeld (s : State) (b : ButtonId) : State :=
  let r := s.button b
  if r.state = .released then s
  else (s.putButton b { r with heldTime := satAdd 16777215 r.heldTime 1 }).compareHeld b

/-- A sample of a settled button (R3), with its state step and held-time step. -/
def State.sampleSettled (s : State) (b : ButtonId) (level sample : Contact) : State :=
  let r := s.button b
  if sample = level then (s.putButton b { r with count := 0 }).countHeld b
  else if s.buttonTiming.debounce ≤ r.count + 1 then
    (if sample = .closed then s.buttonPress b else s.buttonRelease b)
  else (s.putButton b { r with count := r.count + 1 }).countHeld b

/-- A sample of an unsettled button (R4). -/
def State.sampleUnsettled (s : State) (b : ButtonId) (sample : Contact) : State :=
  let r := s.button b
  let n := if r.provisional = some sample then r.count + 1 else 1
  if s.buttonTiming.debounce ≤ n then s.buttonSettle b sample
  else s.putButton b { r with provisional := some sample, count := n }

/-- One millisecond of one button (R2). -/
def State.sampleButton (s : State) (b : ButtonId) : State :=
  let r := s.button b
  let sample := r.polarity.sample (s.pins.buttons.get b)
  match r.level with
  | some level => s.sampleSettled b level sample
  | none => s.sampleUnsettled b sample

/-! ## Requests (1.5) -/

/-- SET_BUTTON (R16). -/
def reqSetButton (button polarity role station : Byte) (hold : Nat) (row column : Byte) (s : State) :
    State × List Byte :=
  match finOf 16 button, polarityOf polarity, roleOf role, stationRefOf station, inRange 100 10000 hold,
      cellOf row column with
  | some b, some pol, some ro, some st, some thr, some cell =>
    if st = none ∧ (ro = .roleShow ∨ ro = .roleHold) then (s, replyBody .badValue)
    else
      let r := s.button b
      if r.state ≠ .released then (s, replyBody .busy)
      else
        let taken := match cell with
          | none => false
          | some c => s.claimedByButton c (some b) || s.claimedByStation c none
        if taken then (s, replyBody .inUse)
        else
          let r1 : Button :=
            { r with polarity := pol, role := ro, station := st, holdThreshold := thr, cell := cell }
          let r2 : Button := if r.polarity = pol then r1 else { r1 with level := none, provisional := none, count := 0 }
          (s.putButton b r2, replyBody .ok)
  | _, _, _, _, _, _ => (s, replyBody .badValue)

/-- SET_BUTTON_TIMING (R17). -/
def reqSetButtonTiming (debounce : Byte) (stuck : Nat) (s : State) : State × List Byte :=
  match inRange 1 50 debounce.toNat, inRange 1 600 stuck with
  | some d, some l => ({ s with buttonTiming := { debounce := d, stuckLimit := l } }, replyBody .ok)
  | _, _ => (s, replyBody .badValue)

/-- A button's thirteen bytes in READ_BUTTONS (Table 12-9). -/
def Button.bytes (r : Button) : List Byte :=
  [byteOf (polarityCode r.polarity), byteOf (roleCode r.role), byteOf (stationCode r.station)] ++ le16 r.holdThreshold ++
    cellCode r.cell ++ [byteOf (buttonStateCode r.state), byteOf (levelCode r.level), byteOf r.count] ++ le24 r.heldTime

/-- READ_BUTTONS (R18). -/
def reqReadButtons (s : State) : State × List Byte :=
  (s, replyBody .ok (byteOf s.buttonTiming.debounce :: le16 s.buttonTiming.stuckLimit ++
    allButtons.flatMap fun b => (s.button b).bytes))

end Sys2Proof.Machine
end

