-- ==== Sys2Proof/Machine/AlertRequests.lean ====
section
/-! DEFINITION. The alert requests (8.8), and the STOP line's assertion and release (8.6). -/

namespace Sys2Proof.Machine

/-- A record's eighteen bytes (Table 12-8). -/
def Alert.bytes (r : Alert) : List Byte :=
  le16 r.id ++
    [byteOf (alertKindCode r.kind), byteOf (severityCode r.severity), byteOf (stationCode r.station), byteOf r.source,
      byteOf (flagCode r.acked), byteOf (conditionCode r.condition), byteOf r.level] ++
    le32 r.timeInLevel ++ [byteOf r.repeats] ++ le32 r.raiseTime.toNat

/-- The three beacon patterns' codes. -/
def State.patternBytes (s : State) : List Byte :=
  [byteOf (patternCode s.notePattern), byteOf (patternCode s.callPattern), byteOf (patternCode s.sounderPattern)]

/-- The RAISED counts of NOTE, CALL and LOCKOUT. -/
def State.raisedBytes (s : State) : List Byte :=
  [byteOf (s.raisedCount .note), byteOf (s.raisedCount .call), byteOf (s.raisedCount .lockout)]

/-- READ_ALERTS (R154). -/
def reqReadAlerts (first count : Byte) (s : State) : State × List Byte :=
  match inRange 0 15 first.toNat, inRange 1 8 count.toNat with
  | some i, some n =>
    let t := s.alerts
    let part := (t.records.drop i).take n
    (s, replyBody .ok
      (byteOf t.records.length :: s.raisedBytes ++ le16 t.nextId ++ le16 t.noteInterval ++ le16 t.callInterval ++
        le16 t.lockoutInterval ++ s.patternBytes ++ [byteOf (flagCode s.part.available.beacon), byteOf part.length] ++
        part.flatMap Alert.bytes))
  | _, _ => (s, replyBody .badValue)

/-- ACK_ALERT (R155). -/
def reqAckAlert (id : Nat) (s : State) : State × List Byte :=
  if id = 0 then (s, replyBody .badValue)
  else
    match s.recordOf id with
    | none => (s, replyBody .notFound)
    | some r => (s.acknowledge r, replyBody .ok)

/-- CLEAR_ALERT (R156). -/
def reqClearAlert (id : Nat) (s : State) : State × List Byte :=
  if id = 0 then (s, replyBody .badValue)
  else
    match s.recordOf id with
    | none => (s, replyBody .notFound)
    | some r =>
      if r.kind.isCondition && r.condition = some true then (s, replyBody .inUse)
      else (s.removeRecord r, replyBody .ok)

/-- A raise's outcome byte and id (R157). -/
def RaiseOutcome.bytes : RaiseOutcome → List Byte
  | .new id => 0#8 :: le16 id
  | .merged id => 1#8 :: le16 id
  | .notStored => 2#8 :: le16 0

/-- RAISE_ALERT (R157). -/
def reqRaiseAlert (severity station code : Byte) (s : State) : State × List Byte :=
  match severityOf severity, stationRefOf station with
  | some sev, some target =>
    let (s1, outcome) := s.raise .host sev code.toNat target
    (s1, replyBody .ok outcome.bytes)
  | _, _ => (s, replyBody .badValue)

/-- SET_ESCALATION (R158). -/
def reqSetEscalation (note call lockout : Nat) (s : State) : State × List Byte :=
  match inRange 10 3600 note, inRange 10 3600 call, inRange 10 3600 lockout with
  | some n, some c, some l =>
    ({ s with alerts := { s.alerts with noteInterval := n, callInterval := c, lockoutInterval := l } }, replyBody .ok)
  | _, _, _ => (s, replyBody .badValue)

end Sys2Proof.Machine
end

