-- ==== Sys2Proof/Machine/LampMatrix.lean ====
section
/-! DEFINITION. The lamp matrix (09_lamp_matrix.md): the overlay, the composed output, the blink clocks and the lamp requests. -/

namespace Sys2Proof.Machine

/-! ## The overlay (R162, R163) -/

/-- The record that claims a cell. -/
inductive Claimant where
  | button (b : ButtonId)
  | station (st : StationId)
  deriving DecidableEq, Repr

/-- The claimant of a cell (R162). -/
def State.claimant (s : State) (cell : Cell) : Option Claimant :=
  match allButtons.find? fun b => (s.button b).cell = some cell with
  | some b => some (.button b)
  | none => (allStations.find? fun st => (s.station st).cell = some cell).map .station

/-- The overlay value that a station's state gives its SHOW and HOLD buttons (R15). -/
def StationState.ringValue : StationState → Overlay
  | .ready => .on
  | .showing => .slow
  | .resting => .off
  | .locked => .none
  | .offline => .none

/-- A button's overlay value (R15). -/
def State.buttonOverlay (s : State) (b : ButtonId) : Overlay :=
  let r := s.button b
  match r.role with
  | .roleShow | .roleHold =>
    match r.station with
    | some st => (s.station st).state.ringValue
    | none => .none
  | .roleAck => if s.alerts.records.any fun a => !a.acked && a.inScope r.station then .fast else .none
  | .roleStop | .roleNone => .none

/-- A RAISED alert names the station or ALL (R36). -/
def State.raisedFor (s : State) (st : StationId) : Bool :=
  s.alerts.records.any fun a => !a.acked && (a.station = none || a.station = some st)

/-- A station's overlay value (R36). -/
def State.stationOverlay (s : State) (st : StationId) : Overlay :=
  if (s.station st).state = .locked then .fast else if s.raisedFor st then .slow else .none

/-- The overlay value of a cell (R163). -/
def State.overlayValue (s : State) (cell : Cell) : Overlay :=
  match s.claimant cell with
  | none => .none
  | some (.button b) => s.buttonOverlay b
  | some (.station st) => s.stationOverlay st

/-! ## The composed output (R161) -/

/-- A memory column of a scene. -/
def State.column (s : State) (n : SceneId) (c : Fin 32) : Byte := (s.lamps.scenes.get n).get c

/-- The memory column shown at a physical column: turned about the middle with the mirror on (R161). -/
def Lamps.shown (l : Lamps) (c : Fin 32) : Fin 32 := if l.mirror then ⟨31 - c.val, by omega⟩ else c

/-- The composed value of a cell (R161). -/
def State.composed (s : State) (cell : Cell) : Bool :=
  match s.overlayValue cell with
  | .on => true
  | .off => false
  | .slow => s.lamps.slow.on
  | .fast => s.lamps.fast.on
  | .none => (s.column s.lamps.display (s.lamps.shown cell.2)).getLsbD cell.1.val

/-- The lamp of a cell is lit: its composed value, while the lamps are available and no test runs (R159, R161, R165). Through the test every column
output is deasserted, so the drive of test item 6 on the rows lights no lamp (R159). -/
def State.lampLit (s : State) (cell : Cell) : Bool := s.part.available.lamps && !s.isTesting && s.composed cell

/-- The level that test item 6 drives on a row output for its own test, a free value (R159, R189; log entry 24). -/
def State.testRowDrive (s : State) (row : Fin 8) : Bool :=
  s.testItem = some 6 && Config.testRow s.part.uptime.toNat row.val

/-- The composed value of a physical column, row 0 in bit 0 (R167). -/
def State.composedColumn (s : State) (c : Fin 32) : Byte :=
  byteOf (flagByte ([0, 1, 2, 3, 4, 5, 6, 7].map fun r => s.composed (r, c)))

/-! ## Blink clocks (R164) -/

/-- A blink clock enters its other phase (R164). -/
def Blink.flip (b : Blink) : Blink := { on := !b.on, time := 0 }

/-- A clock's phase length in milliseconds (R164). -/
def phaseLength : BlinkClock → Nat
  | .slow => 500
  | .fast => 125

/-- One millisecond of a blink clock (R164). -/
def Blink.tick (b : Blink) (clock : BlinkClock) : Blink :=
  if phaseLength clock ≤ b.time + 1 then b.flip else { b with time := b.time + 1 }

/-- A clock's phase changes (R164). -/
def State.flipBlink (s : State) : BlinkClock → State
  | .slow => { s with lamps := { s.lamps with slow := s.lamps.slow.flip } }
  | .fast => { s with lamps := { s.lamps with fast := s.lamps.fast.flip } }

/-! ## Requests (9.5) -/

/-- Writes one memory column of a scene. -/
def State.putColumn (s : State) (n : SceneId) (c : Fin 32) (b : Byte) : State :=
  let scene := (s.lamps.scenes.get n).set c.val b c.isLt
  { s with lamps := { s.lamps with scenes := s.lamps.scenes.set n.val scene n.isLt } }

/-- The column pointer's next place (R166). -/
def nextColumn (c : Fin 32) : Fin 32 := if h : c.val < 31 then ⟨c.val + 1, by omega⟩ else c

/-- Writes a run of column bytes from a column pointer (R166). -/
def State.writeColumns (n : SceneId) : Fin 32 → List Byte → State → State
  | _, [], s => s
  | c, b :: rest, s => State.writeColumns n (nextColumn c) rest (s.putColumn n c b)

/-- WRITE_LAMPS (R166). -/
def reqWriteLamps (scene startColumn : Byte) (columns : List Byte) (s : State) : State × List Byte :=
  match finOf 4 scene, finOf 32 startColumn with
  | some n, some c =>
    if !s.part.available.lamps then (s, replyBody .fault)
    else
      (State.writeColumns n c columns s,
        replyBody .ok [byteOf columns.length, byteOf (flagCode (32 < c.val + columns.length))])
  | _, _ => (s, replyBody .badValue)

/-- A READ_LAMPS source: a scene, or OUTPUT (`none`) at 0x80. -/
def lampSourceOf (b : Byte) : Option (Option SceneId) :=
  if b = 0x80#8 then some none else (finOf 4 b).map some

/-- The columns of a run, cut at column 31 (R167). -/
def columnRun (first count : Nat) : List (Fin 32) :=
  (List.range (min count (32 - first))).filterMap fun i => if h : first + i < 32 then some ⟨first + i, h⟩ else none

/-- READ_LAMPS (R167). -/
def reqReadLamps (source startColumn count : Byte) (s : State) : State × List Byte :=
  match lampSourceOf source, finOf 32 startColumn, inRange 1 32 count.toNat with
  | some src, some c, some k =>
    if !s.part.available.lamps then (s, replyBody .fault)
    else
      let run := columnRun c.val k
      let shown := run.map fun i => match src with
        | some n => s.column n i
        | none => s.composedColumn i
      (s, replyBody .ok ([byteOf run.length, byteOf s.lamps.display.val, byteOf (flagCode s.lamps.mirror)] ++ shown))
  | _, _, _ => (s, replyBody .badValue)

/-- SHOW_SCENE (R168). -/
def reqShowScene (scene : Byte) (s : State) : State × List Byte :=
  match finOf 4 scene with
  | none => (s, replyBody .badValue)
  | some n =>
    if !s.part.available.lamps then (s, replyBody .fault)
    else ({ s with lamps := { s.lamps with display := n } }, replyBody .ok)

/-- SET_MIRROR (R168). -/
def reqSetMirror (flag : Byte) (s : State) : State × List Byte :=
  match flagOf flag with
  | none => (s, replyBody .badValue)
  | some f =>
    if !s.part.available.lamps then (s, replyBody .fault)
    else ({ s with lamps := { s.lamps with mirror := f } }, replyBody .ok)

end Sys2Proof.Machine
end

