-- ==== Sys2Proof/Machine/Arbiter.lean ====
section
/-! DEFINITION. The drive budget arbiter (06_drive_budget_and_paired_axes.md, 6.1 to 6.4): fits, grants, grant passes, urgency, and the
requests SET_BUDGET and READ_BUDGET. -/

namespace Sys2Proof.Machine

/-! ## Grants (R105, R106) -/

/-- An entry fits: the requested increase added to the total stays within B (R106). -/
def State.fits (s : State) (e : PendingEntry) : Bool := s.totalAllocation + e.increase ≤ s.arbiter.budget

/-- The priority order of a pass (R105). -/
def State.passOrder (s : State) : List AxisId :=
  match s.arbiter.policy with
  | .fixed => allAxes
  | .rotating => allAxes.map fun i => ⟨(s.arbiter.pointer.val + 1 + i.val) % 8, by omega⟩

/-- The run sum of an axis's pair: what its leader's allocation becomes at the grant (R110). -/
def State.runSum (s : State) (x : AxisId) : Nat :=
  (s.axis (leaderOf x)).cfg.runDraw + (s.axis (followerOf x)).cfg.runDraw

/-- A grant: the entry leaves the list, the pointer moves, and the axis takes its run draw in RUNNING (R67), or the pair's run begins
(R112). -/
def State.grant (s : State) (e : PendingEntry) : State :=
  let s1 : State :=
    { s with
      arbiter := { s.arbiter with waiting := s.arbiter.waiting.filter (·.axis ≠ e.axis), pointer := e.axis } }
  if e.pair then s1.putPair e.axis { s1.pair e.axis with run := true, runSum := s.runSum e.axis }
  else s1.enter e.axis .running fun a => { a with asLeft := false }

/-- Step 1 of a pass (R106): the oldest urgent entry alone, again and again while it fits. The answer holds the entries granted, newest
first, and whether the pass has ended with an urgent entry that does not fit. -/
def urgentGrants : Nat → State → List PendingEntry → State × List PendingEntry × Bool
  | 0, s, granted => (s, granted, true)
  | fuel + 1, s, granted =>
    match s.arbiter.waiting.find? (·.urgent) with
    | none => (s, granted, false)
    | some e => if s.fits e then urgentGrants fuel (s.grant e) (e :: granted) else (s, granted, true)

/-- Step 2 of a pass (R106): each entry in priority order that fits. -/
def orderedGrants : List AxisId → State → List PendingEntry → State × List PendingEntry
  | [], s, granted => (s, granted)
  | x :: rest, s, granted =>
    match s.arbiter.waiting.find? (·.axis = x) with
    | none => orderedGrants rest s granted
    | some e => if s.fits e then orderedGrants rest (s.grant e) (e :: granted) else orderedGrants rest s granted

/-- The grants of a pass, taken whole (R104 to R106), oldest first. The order is the one worked out when the pass begins. -/
def State.passGrants (s : State) : State × List PendingEntry :=
  match urgentGrants 9 s [] with
  | (s1, granted, true) => (s1, granted.reverse)
  | (s1, granted, false) =>
    let (s2, all) := orderedGrants s.passOrder s1 granted
    (s2, all.reverse)

/-- What follows a grant, once the pass has been taken whole (log entry 6): the look at the end stops (R67), or the loads of a pair's
members, the leader first (R112). -/
def State.afterGrant (s : State) (e : PendingEntry) : State :=
  if e.pair then ((s.loadMember e.axis .pending).loadMember (followerOf e.axis) .pending).settlePair e.axis
  else s.grantTrip e.axis

/-- The entries that joined the list in an event, put behind the ones that stood there and in ascending order of axis number (R101). No event
withdraws an axis that it then lets join again. -/
def State.sortJoined (before after : State) : State :=
  let stood := fun e : PendingEntry => before.arbiter.waiting.any (·.axis = e.axis)
  let joined := after.arbiter.waiting.filter (!stood ·)
  { after with
    arbiter :=
      { after.arbiter with
        waiting := after.arbiter.waiting.filter stood ++ allAxes.flatMap fun x => joined.filter (·.axis = x) } }

/-- The end of an event: a pass follows when R104 asks for one, because the event marked it or because the total allocation fell; what
follows the grants is an event of its own, and so on. -/
def settleEvent : Nat → State → State → State
  | 0, _, after => after
  | fuel + 1, before, after =>
    if after.passDue ∨ after.totalAllocation < before.totalAllocation then
      let (s1, granted) := { before.sortJoined after with passDue := false }.passGrants
      settleEvent fuel s1 (granted.foldl (fun t e => t.afterGrant e) s1)
    else after

/-- An event taken on the state before it, then its passes. -/
def State.settled (before after : State) : State := settleEvent Config.passFuel before after

/-! ## Urgency (R103) -/

/-- Entries whose waited time has reached the wait limit become urgent; each posts GRANT_WAIT once, and a pass follows. Those that
become urgent in one event post in the order of the list. DESIGN CHOICE (log entry 26). -/
def State.markUrgent (s : State) (due : PendingEntry → Bool) : State :=
  let hit := s.arbiter.waiting.filter fun e => due e && !e.urgent
  let s1 : State :=
    { s with
      arbiter :=
        { s.arbiter with waiting := s.arbiter.waiting.map fun e => if due e then { e with urgent := true } else e }
      passDue := s.passDue || !hit.isEmpty }
  hit.foldl (fun t e => t.post (axisLine e.axis) .grantWait) s1

/-- The entry's waited time has reached a non-zero wait limit (R103). -/
def Arbiter.reached (a : Arbiter) (e : PendingEntry) : Bool := a.waitLimit != 0 && a.waitLimit ≤ e.waited

/-- The event that the waited time of an axis's entry reaches the wait limit (R103). -/
def State.entryUrgent (s : State) (x : AxisId) : State :=
  if s.arbiter.waitLimit = 0 then s
  else
    let s1 : State :=
      { s with
        arbiter :=
          { s.arbiter with
            waiting := s.arbiter.waiting.map fun e =>
              if e.axis = x then { e with waited := max e.waited s.arbiter.waitLimit } else e } }
    s1.markUrgent (·.axis = x)

/-! ## Requests (6.4) -/

/-- SET_BUDGET (R107). -/
def reqSetBudget (budget policy : Byte) (wait : Nat) (s : State) : State × List Byte :=
  match inRange 1 63 budget.toNat, policyOf policy with
  | some b, some p =>
    if 10000 < wait then (s, replyBody .badValue)
    else if b < s.totalAllocation then (s, replyBody .overAllocated)
    else
      let due := s.passDue || s.arbiter.budget < b || p != s.arbiter.policy
      let s1 : State :=
        { s with arbiter := { s.arbiter with budget := b, policy := p, waitLimit := wait }, passDue := due }
      (s1.markUrgent s1.arbiter.reached, replyBody .ok)
  | _, _ => (s, replyBody .badValue)

/-- A pending entry's six bytes (Table 12-9). -/
def PendingEntry.bytes (e : PendingEntry) : List Byte :=
  [byteOf e.axis.val, byteOf (flagCode e.pair), byteOf e.increase] ++ le16 e.waited ++ [byteOf (flagCode e.urgent)]

/-- A pair context's two bytes (Table 12-9). -/
def PairCtx.bytes (p : PairCtx) : List Byte := [byteOf (flagByte [p.run, p.endFlag]), byteOf p.loops]

/-- READ_BUDGET (R108). -/
def reqReadBudget (s : State) : State × List Byte :=
  let a := s.arbiter
  let total := s.totalAllocation
  (s, replyBody .ok
    ([byteOf a.budget, byteOf (policyCode a.policy)] ++ le16 a.waitLimit ++
      [byteOf a.pointer.val, byteOf total, byteOf (a.budget - total)] ++
      allAxes.map (fun x => byteOf (s.allocation x)) ++
      ((s.pair 0).bytes ++ (s.pair 2).bytes ++ (s.pair 4).bytes ++ (s.pair 6).bytes) ++
      byteOf a.waiting.length :: a.waiting.flatMap PendingEntry.bytes))

end Sys2Proof.Machine
end

