-- ==== Sys2Proof/Machine/Cues.lean ====
section
/-! DEFINITION. The cue table (03_cue_table_and_chains.md): the validation walk and the four cue requests. -/

namespace Sys2Proof.Machine

/-! ## Availability (R40) -/

/-- The cue table is available: item 0 passed at the last cold reset (R40). -/
def State.cueTableSound (s : State) : Bool := !s.part.failure.getLsbD 0

/-! ## The validation walk (3.3) -/

/-- A chain fault (R44). -/
inductive ChainFault where
  | emptyEntry
  | cycle
  | tooLong
  | badProfile
  | zeroMove
  deriving DecidableEq, Repr

/-- A chain fault's code (R44). -/
def ChainFault.code : ChainFault → Nat
  | .emptyEntry => 1
  | .cycle => 2
  | .tooLong => 3
  | .badProfile => 4
  | .zeroMove => 5

/-- The profile lies in its running range (Table 3-2). -/
def Profile.runs (p : Profile) : Bool :=
  50 ≤ p.f && p.f ≤ 20000 && 50 ≤ p.v && p.v ≤ 20000 && p.f ≤ p.v && 1 ≤ p.a && p.a ≤ 2000

/-- A seek agrees with the sign of the steps: LOW with steps negative, HIGH with steps positive (Table 3-2). -/
def seekAgrees (steps : Int) : Option (StopSide × Int) → Bool
  | none => true
  | some (.low, _) => steps < 0
  | some (.high, _) => 0 < steps

/-- The faults of one entry, in the order of tests 3 to 5 (R43). -/
def CueBody.chainFault : CueBody → Option ChainFault
  | .empty => some .emptyEntry
  | .move steps p seek =>
    if !p.runs || !seekAgrees steps seek || 1000000 < steps.natAbs then some .badProfile
    else if steps = 0 then some .zeroMove
    else none
  | .moveTo _ p => if p.runs then none else some .badProfile
  | _ => none

/-- The walk from an index with the indices visited so far, in order (R43): the chain, or the fault and the index it reports. -/
def State.walkFrom (s : State) : Nat → CueId → List CueId → Except (ChainFault × CueId) (List CueId)
  | 0, i, _ => .error (.tooLong, i)
  | fuel + 1, i, visited =>
    if visited.contains i then .error (.cycle, i)
    else if Config.chainLimit ≤ visited.length then .error (.tooLong, i)
    else
      match (s.cue i).body.chainFault with
      | some f => .error (f, i)
      | none =>
        match (s.cue i).next with
        | .chainStop => .ok (visited ++ [i])
        | .entry j => s.walkFrom fuel j (visited ++ [i])

/-- The validation walk from a start index (R43). At the 33rd entry the walk has stopped, so the bound is never met. -/
def State.walk (s : State) (start : CueId) : Except (ChainFault × CueId) (List CueId) :=
  s.walkFrom (Config.chainLimit + 1) start []

/-- A CHAIN_FAULT reply (R44, R196). -/
def chainFaultBody (f : ChainFault × CueId) : List Byte :=
  replyBody .chainFault [byteOf f.1.code, byteOf f.2.val]

/-! ## A valid chain's figures (R45) -/

/-- A motion entry. -/
def CueBody.isMotion : CueBody → Bool
  | .move _ _ _ => true
  | .moveTo _ _ => true
  | _ => false

/-- A MOVE_TO entry. -/
def CueBody.isMoveTo : CueBody → Bool
  | .moveTo _ _ => true
  | _ => false

/-- An entry's part of the step sum. -/
def CueBody.stepSum : CueBody → Nat
  | .move steps _ _ => steps.natAbs
  | _ => 0

/-- An entry's part of the dwell sum. -/
def CueBody.dwellSum : CueBody → Nat
  | .dwell ms => ms
  | _ => 0

/-- The four figures of a valid chain: length, motion entries, step sum and dwell sum (R45). -/
def State.figures (s : State) (chain : List CueId) : Nat × Nat × Nat × Nat :=
  (chain.length, (chain.filter fun i => (s.cue i).body.isMotion).length,
    (chain.map fun i => (s.cue i).body.stepSum).sum, (chain.map fun i => (s.cue i).body.dwellSum).sum)

/-! ## Records (Table 12-4) -/

/-- A profile's six bytes. -/
def Profile.bytes (p : Profile) : List Byte := le16 p.f ++ le16 p.v ++ le16 p.a

/-- The fields of an entry's kind. -/
def CueBody.bytes : CueBody → List Byte
  | .empty => []
  | .move steps p none => leInt32 steps ++ p.bytes ++ [byteOf (seekCode none)]
  | .move steps p (some (side, home)) => leInt32 steps ++ p.bytes ++ [byteOf (seekCode (some side))] ++ leInt24 home
  | .moveTo target p => leInt24 target ++ p.bytes
  | .dwell ms => le16 ms
  | .scene n => [byteOf n.val]
  | .mark code => [byteOf code]

/-- An entry's record, index included. -/
def CueEntry.bytes (e : CueEntry) (i : CueId) : List Byte :=
  [byteOf i.val, byteOf (kindCode e.body), byteOf (cueRefCode e.next)] ++ e.body.bytes

/-- The body length that WRITE_CUE's kind and seek bytes ask for (R53, R195); any length for a kind that is no kind. -/
def cueLengthFits (kind : Byte) (fields : List Byte) : Bool :=
  match kind.toNat with
  | 0 => fields.length = 0
  | 1 =>
    let seek := (fields[10]?).getD 0#8
    if seek = 1#8 ∨ seek = 2#8 then fields.length = 14 else fields.length = 11
  | 2 => fields.length = 9
  | 3 => fields.length = 2
  | 4 => fields.length = 1
  | 5 => fields.length = 1
  | _ => true

/-- The entry that a kind byte and its field bytes stand for, when every field is in its range (Table 3-1, R195). -/
def cueBodyOf (kind : Byte) (fields : List Byte) : Option CueBody :=
  match kind.toNat, fields with
  | 0, [] => some .empty
  | 1, [s0, s1, s2, s3, f0, f1, v0, v1, a0, a1, seek] =>
    if seek = 0#8 then some (.move (s32 s0 s1 s2 s3) ⟨u16 f0 f1, u16 v0 v1, u16 a0 a1⟩ none) else none
  | 1, [s0, s1, s2, s3, f0, f1, v0, v1, a0, a1, seek, h0, h1, h2] =>
    if seek = 1#8 then
      some (.move (s32 s0 s1 s2 s3) ⟨u16 f0 f1, u16 v0 v1, u16 a0 a1⟩ (some (.low, s24 h0 h1 h2)))
    else if seek = 2#8 then
      some (.move (s32 s0 s1 s2 s3) ⟨u16 f0 f1, u16 v0 v1, u16 a0 a1⟩ (some (.high, s24 h0 h1 h2)))
    else none
  | 2, [t0, t1, t2, f0, f1, v0, v1, a0, a1] =>
    some (.moveTo (s24 t0 t1 t2) ⟨u16 f0 f1, u16 v0 v1, u16 a0 a1⟩)
  | 3, [d0, d1] => (inRange 1 60000 (u16 d0 d1)).map .dwell
  | 4, [n] => (finOf 4 n).map .scene
  | 5, [code] => some (.mark code.toNat)
  | _, _ => none

/-! ## Requests (3.6) -/

/-- WRITE_CUE (R53). -/
def reqWriteCue (index kind next : Byte) (fields : List Byte) (s : State) : State × List Byte :=
  if !cueLengthFits kind fields then (s, replyBody .badLength)
  else
    match finOf 128 index, cueRefOf next, cueBodyOf kind fields with
    | some i, some n, some body =>
      if body = .empty ∧ n ≠ .chainStop then (s, replyBody .badValue)
      else if !s.cueTableSound then (s, replyBody .fault)
      else if (s.cue i).pins ≠ 0 then (s, replyBody .inUse)
      else (s.putCue i { body := body, next := n, pins := 0 }, replyBody .ok)
    | _, _, _ => (s, replyBody .badValue)

/-- The indices of a run of the table, cut at entry 127. -/
def cueRun (first : CueId) (count : Nat) : List CueId :=
  (List.finRange 128).filter fun i => first.val ≤ i.val ∧ i.val < first.val + count

/-- READ_CUE (R54). -/
def reqReadCue (first count : Byte) (s : State) : State × List Byte :=
  match finOf 128 first, inRange 1 8 count.toNat with
  | some i, some n =>
    if !s.cueTableSound then (s, replyBody .fault)
    else
      let run := cueRun i n
      (s, replyBody .ok (byteOf run.length ::
        run.flatMap fun j => byteOf (s.cue j).pins :: (s.cue j).bytes j))
  | _, _ => (s, replyBody .badValue)

/-- VALIDATE_CHAIN (R56). -/
def reqValidateChain (start : Byte) (s : State) : State × List Byte :=
  match finOf 128 start with
  | none => (s, replyBody .badValue)
  | some i =>
    if !s.cueTableSound then (s, replyBody .fault)
    else
      match s.walk i with
      | .error f => (s, chainFaultBody f)
      | .ok chain =>
        let (length, motions, steps, dwells) := s.figures chain
        (s, replyBody .ok ([byteOf length, byteOf motions] ++ le32 steps ++ le32 dwells))

/-- ERASE_CUE (R55). -/
def reqEraseCue (first count : Byte) (s : State) : State × List Byte :=
  match finOf 128 first, inRange 1 128 count.toNat with
  | some i, some n =>
    if 128 < i.val + n then (s, replyBody .badValue)
    else if !s.cueTableSound then (s, replyBody .fault)
    else
      let run := cueRun i n
      match run.find? fun j => (s.cue j).pins ≠ 0 with
      | some j => (s, replyBody .inUse [byteOf j.val])
      | none => (run.foldl (fun t j => t.putCue j CueEntry.reset) s, replyBody .ok [byteOf n])
  | _, _ => (s, replyBody .badValue)

end Sys2Proof.Machine
end

