-- ==== Sys2Proof/Machine/AxisRequests.lean ====
section
/-! DEFINITION. The axis requests (4.2, 4.3, 4.11, 6.5): SET_AXIS, ARM_AXIS, DISARM_AXIS, TRIGGER_AXIS, DEMAND_AXIS, STOP_AXIS,
HALT_AXIS, SET_POSITION and READ_AXIS. -/

namespace Sys2Proof.Machine

/-! ## The scan range (R119) -/

/-- A channel is inside the scan range, counted with the wrap from A7 to A0 (R119). -/
def Scanner.inRange (sc : Scanner) (c : ChannelId) : Bool :=
  if sc.startCh ≤ sc.endCh then sc.startCh ≤ c && c ≤ sc.endCh else sc.startCh ≤ c || c ≤ sc.endCh

/-- The scanner guards a channel: it is on, and the channel lies in its range (R52). -/
def Scanner.covers (sc : Scanner) (c : ChannelId) : Bool := sc.state ≠ .off && sc.inRange c

/-! ## SET_AXIS (R60, R109) -/

/-- The flag byte of Table 12-5: pair, repeat, direction invert, end-stop polarity. A reserved bit that is set is refused (R195). -/
def axisFlagsOf (b : Byte) : Option (Bool × Bool × Bool × Polarity) :=
  if b.toNat < 16 then
    some (b.getLsbD 0, b.getLsbD 1, b.getLsbD 2, if b.getLsbD 3 then .closedHigh else .closedLow)
  else none

/-- The configuration that the fields of SET_AXIS stand for, when each lies in its range (Table 4-1). -/
def axisConfigOf (station mode flags runDraw holdDraw : Byte) (softLow softHigh : Int) (guard : Byte)
    (jamThreshold : Nat) (jamPersistence : Byte) : Option AxisConfig := do
  let st ← stationRefOf station
  let m ← modeOf mode
  let (pair, repeats, invert, polarity) ← axisFlagsOf flags
  let run ← inRange 1 15 runDraw.toNat
  let hold ← inRange 0 3 holdDraw.toNat
  let g ← guardOf guard
  let jam ← inRange 0 1023 jamThreshold
  let times ← inRange 1 15 jamPersistence.toNat
  if softLow ≤ softHigh ∧ hold ≤ run then
    some
      { station := st, mode := m, pair := pair, repeats := repeats, runDraw := run, holdDraw := hold, softLow := softLow,
        softHigh := softHigh, invert := invert, stopPolarity := polarity, guard := g, jamThreshold := jam,
        jamPersistence := times }
  else none

/-- Check 1 of R60 on a configuration for an axis, beyond the range of each field. -/
def State.configFits (s : State) (x : AxisId) (c : AxisConfig) : Bool :=
  c.softLow ≤ (s.axis x).position && (s.axis x).position ≤ c.softHigh &&
    (!c.pair ||
      (isLeader x && (c.mode = .block || c.mode = .rehearse) &&
        (s.axis (followerOf x)).cfg.station = c.station))

/-- Check 2 of R60. -/
def State.configBusy (s : State) (x : AxisId) (c : AxisConfig) : Bool :=
  (s.axis x).state ≠ .disarmed ||
    (c.pair && (s.axis (followerOf x)).state ≠ .disarmed) ||
    (s.paired x && !isLeader x && (s.axis x).cfg.station ≠ c.station) ||
    (s.paired x && isLeader x && !c.pair && s.isActive (followerOf x))

/-- An axis with a new configuration: the host demand is kept in DEMAND mode alone, and a change of end-stop polarity unsettles both stops
(R60, R78). -/
def Axis.reconfigure (a : Axis) (c : AxisConfig) : Axis :=
  let a1 := { a with cfg := c, hostDemand := a.hostDemand && c.mode = .demand }
  if a.cfg.stopPolarity = c.stopPolarity then a1
  else { a1 with lowLevel := none, highLevel := none, lowSample := none, highSample := none }

/-- The pair that an axis leads is dissolved: its context is cleared, and the total allocation stands. A follower that is ARMED keeps the allocation
that it brought to the pair, where its own mode would give it another by R58: REHEARSE in one of the two modes alone (R109, R100). DEDUCED (log
entry 15). `mode` is the pair's mode. -/
def State.dissolve (s : State) (x : AxisId) (mode : AxisMode) : State :=
  let y := followerOf x
  let f := s.axis y
  let differs := (mode = .rehearse : Bool) != (f.cfg.mode = .rehearse)
  (s.putPair x PairCtx.reset).putAxis y { f with asLeft := f.state = .armed && differs }

/-- Writes an axis's configuration. Turning a leader's pair flag off dissolves the pair (R109). -/
def State.configureAxis (s : State) (x : AxisId) (c : AxisConfig) : State :=
  let s1 := s.putAxis x ((s.axis x).reconfigure c)
  if (s.axis x).cfg.pair && !c.pair then s1.dissolve x (s.axis x).cfg.mode else s1

/-- SET_AXIS (R60). -/
def reqSetAxis (axis station mode flags runDraw holdDraw : Byte) (softLow softHigh : Int) (guard : Byte)
    (jamThreshold : Nat) (jamPersistence : Byte) (s : State) : State × List Byte :=
  match finOf 8 axis,
      axisConfigOf station mode flags runDraw holdDraw softLow softHigh guard jamThreshold jamPersistence with
  | some x, some c =>
    if !s.configFits x c then (s, replyBody .badValue)
    else if s.configBusy x c then (s, replyBody .busy)
    else (s.configureAxis x c, replyBody .ok)
  | _, _ => (s, replyBody .badValue)

/-! ## ARM_AXIS (R61, R49, R111) -/

/-- An axis becomes ARMED on a chain, in one step with its pins (R46, R61). -/
def State.armMember (s : State) (x : AxisId) (start : CueId) (chain : List CueId) : State :=
  (s.pinChain chain).enter x .armed fun a =>
    { a with
      chain := chain, start := some start, current := some (.entry start), segN := 0, remN := 0, rate := 0, acc := 0,
      dwell := 0, jamCount := 0, elapsed := 0, phase := .accel, seek := none, disposition := none,
      asLeft := false }

/-- A chain that is refused NOT_HOMED for its axis (R50). -/
def State.notHomed (s : State) (x : AxisId) (chain : List CueId) : Bool :=
  !(s.axis x).valid && chain.any fun i => (s.cue i).body.isMoveTo

/-- The budget cannot carry these axes (R51). -/
def State.noBudget (s : State) (xs : List AxisId) : Bool :=
  s.arbiter.budget < s.totalAllocation + (xs.map fun x => (s.axis x).cfg.holdDraw).sum ||
    s.arbiter.budget < (xs.map fun x => (s.axis x).cfg.runDraw).sum

/-- The scanner cannot guard an axis (R52). -/
def State.notGuarded (s : State) (x : AxisId) : Bool :=
  match (s.axis x).cfg.guard with
  | none => false
  | some c => !s.scanner.covers c

/-- Checks 3 to 5 of R49 on the members to be armed with their starts and chains, and the arming. The context of a pair is cleared
(R111). -/
def State.armWith (s : State) (x : AxisId) (members : List (AxisId × CueId × List CueId)) : State × List Byte :=
  if members.any fun m => s.notHomed m.1 m.2.2 then (s, replyBody .notHomed)
  else if !s.rehearses x && s.noBudget (members.map (·.1)) then (s, replyBody .noBudget)
  else if members.any fun m => s.notGuarded m.1 then (s, replyBody .notEnabled)
  else
    let s1 := members.foldl (fun t m => t.armMember m.1 m.2.1 m.2.2) s
    (if s.paired x then s1.putPair x PairCtx.reset else s1, replyBody .ok)

/-- The checks of R49. `second` is the follower start of a paired leader. -/
def State.armChecks (s : State) (x : AxisId) (start : CueId) (second : Option CueId) : State × List Byte :=
  if !s.part.available.motion then (s, replyBody .fault)
  else
    match s.walk start with
    | .error f => (s, chainFaultBody f)
    | .ok chain =>
      match second with
      | none => s.armWith x [(x, start, chain)]
      | some start2 =>
        match s.walk start2 with
        | .error f => (s, chainFaultBody f)
        | .ok chain2 => s.armWith x [(x, start, chain), (followerOf x, start2, chain2)]

/-- The follower start of ARM_AXIS: read for a paired leader alone, and then range-checked (R111). -/
def State.secondStart (s : State) (x : AxisId) (followerStart : Byte) : Option (Option CueId) :=
  if s.paired x && isLeader x then (finOf 128 followerStart).map some else some none

/-- Check 3 of R61. -/
def State.armBusy (s : State) (x : AxisId) : Bool :=
  (s.axis x).state ≠ .disarmed ||
    (s.paired x && (!isLeader x || (s.axis (followerOf x)).state ≠ .disarmed))

/-- ARM_AXIS (R61). -/
def reqArmAxis (axis start followerStart : Byte) (s : State) : State × List Byte :=
  match finOf 8 axis, finOf 128 start with
  | some x, some i =>
    match s.secondStart x followerStart, (s.axis x).cfg.station with
    | some second, some st =>
      if s.armBusy x then (s, replyBody .busy)
      else
        match (s.station st).state with
        | .offline => (s, replyBody .offline)
        | .locked => (s, replyBody .locked)
        | _ => s.armChecks x i second
    | _, _ => (s, replyBody .badValue)
  | _, _ => (s, replyBody .badValue)

/-! ## DISARM_AXIS and TRIGGER_AXIS -/

/-- The axes that a request naming one reaches: the axis, or both members of its pair (R111, R116, R117). -/
def State.reached (s : State) (x : AxisId) : List AxisId := if s.paired x then [leaderOf x, followerOf x] else [x]

/-- DISARM_AXIS (R62, R111). -/
def reqDisarmAxis (axis : Byte) (s : State) : State × List Byte :=
  match finOf 8 axis with
  | none => (s, replyBody .badValue)
  | some x =>
    let xs := s.reached x
    let armed := xs.filter fun y => (s.axis y).state = .armed
    if xs.any s.isActive || armed.isEmpty then (s, replyBody .busy)
    else (armed.foldl (fun t y => t.disarm y false) s, replyBody .ok)

/-- TRIGGER_AXIS is refused with BUSY (R63, R112). -/
def State.triggerBusy (s : State) (x : AxisId) : Bool :=
  (s.axis x).state ≠ .armed || (s.paired x && (!isLeader x || (s.axis (followerOf x)).state ≠ .armed))

/-- TRIGGER_AXIS acts on its station (R26). -/
def State.joinShow (s : State) (st : StationId) : State :=
  if (s.station st).state = .ready then s.enterShowing st
  else s.putStation st { s.station st with idleTime := 0 }

/-- TRIGGER_AXIS (R63, R26). -/
def reqTriggerAxis (axis : Byte) (s : State) : State × List Byte :=
  match finOf 8 axis with
  | none => (s, replyBody .badValue)
  | some x =>
    match (s.axis x).cfg.station with
    | none => (s, replyBody .busy)
    | some st =>
      if s.triggerBusy x ∨ ((s.station st).state ≠ .ready ∧ (s.station st).state ≠ .showing) then
        (s, replyBody .busy)
      else (((s.joinShow st).trigger x).testActivity st, replyBody .ok)

/-! ## DEMAND_AXIS, STOP_AXIS, HALT_AXIS, SET_POSITION -/

/-- DEMAND_AXIS (R85). -/
def reqDemandAxis (axis flag : Byte) (s : State) : State × List Byte :=
  match finOf 8 axis, flagOf flag with
  | some x, some f =>
    if s.mode x ≠ .demand then (s, replyBody .badValue)
    else
      let s1 := s.putAxis x { s.axis x with hostDemand := f }
      (if s1.demandFlag x = s.demandFlag x then s1 else s1.demandChange x (s1.demandFlag x), replyBody .ok)
  | _, _ => (s, replyBody .badValue)

/-- STOP_AXIS (R84, R116). -/
def reqStopAxis (axis : Byte) (s : State) : State × List Byte :=
  match finOf 8 axis with
  | none => (s, replyBody .badValue)
  | some x =>
    let active := (s.reached x).filter s.isActive
    if active.isEmpty then (s, replyBody .busy) else (s.handAll active .abandon, replyBody .ok)

/-- HALT_AXIS (R84, R117). -/
def reqHaltAxis (axis : Byte) (s : State) : State × List Byte :=
  match finOf 8 axis with
  | none => (s, replyBody .badValue)
  | some x => (s.haltAll (s.reached x), replyBody .ok)

/-- SET_POSITION (R82). -/
def reqSetPosition (axis : Byte) (position : Int) (s : State) : State × List Byte :=
  match finOf 8 axis with
  | none => (s, replyBody .badValue)
  | some x =>
    let a := s.axis x
    if position < a.cfg.softLow ∨ a.cfg.softHigh < position then (s, replyBody .badValue)
    else if a.state ≠ .disarmed ∧ a.state ≠ .armed then (s, replyBody .busy)
    else (s.putAxis x { a with position := position, valid := true }, replyBody .ok)

/-! ## READ_AXIS (R86) -/

/-- A configuration's fifteen bytes (Table 12-5). -/
def AxisConfig.bytes (c : AxisConfig) : List Byte :=
  [byteOf (stationCode c.station), byteOf (modeCode c.mode),
    byteOf (flagByte [c.pair, c.repeats, c.invert, c.stopPolarity = .closedHigh]), byteOf c.runDraw,
    byteOf c.holdDraw] ++
    leInt24 c.softLow ++ leInt24 c.softHigh ++ [byteOf (channelCode c.guard)] ++ le16 c.jamThreshold ++
    [byteOf c.jamPersistence]

/-- The READ_AXIS fields after the status (Table 12-6). -/
def State.axisBytes (s : State) (x : AxisId) : List Byte :=
  let a := s.axis x
  a.cfg.bytes ++
    [byteOf (axisStateCode a.state), byteOf (s.allocation x), byteOf (startCode a.start),
      byteOf (currentCode a.current)] ++
    le24 a.segN ++ le24 a.remN ++ [byteOf (dirCode a.dir), byteOf (seekCode a.seek)] ++ le16 a.rate ++ le16 a.acc ++
    [byteOf (phaseCode a.phase)] ++ leInt24 a.position ++
    [byteOf (flagByte [a.valid, a.hostDemand, s.demandFlag x, s.enOutput x, s.boostOutput x, a.dirLevel])] ++
    le16 a.dwell ++ [byteOf a.jamCount] ++ le24 a.elapsed ++ leInt24 a.virtual ++
    [byteOf (dispositionCode a.disposition), byteOf (stopCode a.lowLevel), byteOf (stopCode a.highLevel),
      byteOf a.chain.length] ++
    a.chain.map fun i => byteOf i.val

/-- READ_AXIS (R86). -/
def reqReadAxis (axis : Byte) (s : State) : State × List Byte :=
  match finOf 8 axis with
  | none => (s, replyBody .badValue)
  | some x => (s, replyBody .ok (s.axisBytes x))

end Sys2Proof.Machine
end

