-- ==== Sys2Proof/Machine/Scan.lean ====
section
/-! DEFINITION. The sense scanner (07_sense_scanner.md): the store of a result, the end of a scan, triggers, and the scanner requests. -/

namespace Sys2Proof.Machine

/-! ## The store of a result (7.4) -/

/-- The filter step (R129): floor rounds towards minus infinity. -/
def filterStep (seeded : Bool) (shift y x : Nat) : Nat :=
  if seeded then ((y : Int) + ((x : Int) - (y : Int)) / (2 ^ shift : Nat)).toNat else x

/-- A channel record after the raw value and the filter step (R128, R129). -/
def Channel.filter (r : Channel) (x : Nat) : Channel :=
  { r with raw := x, filtered := filterStep r.seeded r.shift r.filtered x, seeded := true }

/-- A channel record after the fresh and overrun flags (R130). -/
def Channel.mark (r : Channel) : Channel := { r with fresh := true, overrun := r.overrun || r.fresh }

/-- The class of the filtered value against the window (R131). -/
def Channel.classOf (r : Channel) : WindowClass :=
  if r.filtered < r.windowLow then .low else if r.windowHigh < r.filtered then .high else .inside

/-- The cause of an entry to a window state (R131). -/
def WindowClass.cause : WindowClass → Cause
  | .low => .windowLow
  | .inside => .windowIn
  | .high => .windowHigh

/-- The window step (R131): the record, and the class entered when the window state changes. -/
def Channel.windowStep (r : Channel) : Channel × Option WindowClass :=
  let c := r.classOf
  if r.window = none then ({ r with window := some c, candidate := none, candidateCount := 0 }, some c)
  else if r.window = some c then ({ r with candidate := none, candidateCount := 0 }, none)
  else
    let n := if r.candidate = some c then r.candidateCount + 1 else 1
    if n = r.persistence then ({ r with window := some c, candidate := none, candidateCount := 0 }, some c)
    else ({ r with candidate := some c, candidateCount := n }, none)

/-- An axis that a channel guards at this store (R132). -/
def State.guarded (s : State) (c : ChannelId) (x : AxisId) : Bool :=
  (s.axis x).state = .running && !s.rehearses x && (s.axis x).cfg.guard = some c

/-- An axis after the jam comparison of a filtered value (R132). -/
def Axis.compareJam (a : Axis) (y : Nat) : Axis :=
  { a with jamCount := if a.cfg.jamThreshold < y then a.jamCount + 1 else 0 }

/-- The jam guard of a store (R132): every guarded axis is compared, and those at their persistence halt, in ascending order. -/
def State.jamGuard (s : State) (c : ChannelId) : State :=
  let y := (s.channel c).filtered
  let xs := allAxes.filter (s.guarded c)
  let s1 := xs.foldl (fun t x => t.putAxis x ((t.axis x).compareJam y)) s
  let jammed := xs.filter fun x => (s1.axis x).cfg.jamPersistence ≤ (s1.axis x).jamCount
  jammed.foldl (fun t x => t.halt x .jam) s1

/-- The store of a result (R128): filter, flags, window, jam guard; a window cause goes before OVERRUN. -/
def State.store (s : State) (c : ChannelId) (x : Nat) : State :=
  let r := s.channel c
  let (r1, entered) := (r.filter x).mark.windowStep
  let s1 := s.putChannel c r1
  let s2 := match entered with
    | none => s1
    | some w => s1.post (channelLine c) w.cause
  let s3 := if r.fresh then s2.post (channelLine c) .overrun else s2
  s3.jamGuard c

/-! ## Scans (7.1) -/

/-- The channel after one, wrapping from A7 to A0 (R119). -/
def nextChannel (c : ChannelId) : ChannelId := ⟨(c.val + 1) % 8, by omega⟩

/-- Sets the scanner's state. -/
def State.setScanState (s : State) (st : ScanState) : State := { s with scanner := { s.scanner with state := st } }

/-- The end of a scan (R120). -/
def State.endScan (s : State) : State :=
  let s1 := s.post scannerLine .scanDone
  match s1.scanner.mode with
  | .once => s1.setScanState .idle
  | .continuous => s1.setScanState (.scanning s1.scanner.startCh)

/-- A conversion completes (R120); outside SCANNING none runs. -/
def State.conversionComplete (s : State) (x : Nat) : State :=
  match s.scanner.state with
  | .scanning c =>
    let s1 := s.store c x
    if c = s1.scanner.endCh then s1.endScan else s1.setScanState (.scanning (nextChannel c))
  | _ => s

/-! ## Timed triggers (7.3) -/

/-- The period timer expires and reloads (R125). It runs while the scanner is on with the PERIOD source. -/
def State.periodExpiry (s : State) : State :=
  if s.scanner.state ≠ .off ∧ s.scanner.source = .period then
    { s with scanner := { s.scanner with periodRemaining := some s.scanner.period } }.scanTrigger .period
  else s

/-- Sets the trigger line level (R127). -/
def State.setTriggerLevel (s : State) (high : Bool) : State :=
  { s with scanner := { s.scanner with triggerLevel := some high } }

/-- A falling edge of the trigger line (R127). -/
def State.triggerFallingEdge (s : State) : State := (s.setTriggerLevel false).scanTrigger .external

/-- One sample of the trigger line (R127). -/
def State.sampleTrigger (s : State) : State :=
  if s.scanner.triggerLevel = some true ∧ !s.pins.trigger then s.triggerFallingEdge
  else s.setTriggerLevel s.pins.trigger

/-! ## Requests (7.5) -/

/-- A sample time in microseconds (Table 7-1). -/
def sampleTimeOf (b : Byte) : Option Nat :=
  if b.toNat = 8 ∨ b.toNat = 16 ∨ b.toNat = 32 ∨ b.toNat = 64 then some b.toNat else none

/-- SET_SCAN (R134). -/
def reqSetScan (startChannel endChannel mode source : Byte) (period : Nat) (sampleTime : Byte) (s : State) :
    State × List Byte :=
  match finOf 8 startChannel, finOf 8 endChannel, scanModeOf mode, scanSourceOf source, inRange 1 1000 period,
      sampleTimeOf sampleTime with
  | some cs, some ce, some m, some src, some p, some t =>
    if s.scanner.state ≠ .off then (s, replyBody .busy)
    else
      ({ s with
          scanner :=
            { s.scanner with startCh := cs, endCh := ce, mode := m, source := src, period := p, sampleTime := t } },
        replyBody .ok)
  | _, _, _, _, _, _ => (s, replyBody .badValue)

/-- A channel record prepared for a new run (R121). -/
def Channel.prepare (r : Channel) : Channel :=
  { r with seeded := false, fresh := false, overrun := false, window := none, candidate := none, candidateCount := 0 }

/-- Every channel record prepared (R121). -/
def State.prepareChannels (s : State) : State := { s with channels := s.channels.map Channel.prepare }

/-- SCAN_ENABLE with the flag at 1 (R121). -/
def reqScanEnable (s : State) : State × List Byte :=
  if s.scanner.state = .off then
    if !s.part.available.scanner then (s, replyBody .fault)
    else
      let s1 := s.prepareChannels
      ({ s1 with
          scanner :=
            { s1.scanner with
              state := .idle
              periodRemaining := if s1.scanner.source = .period then some s1.scanner.period else none } },
        replyBody .ok)
  else (s, replyBody .ok)

/-- An axis that is not DISARMED has a guard channel (R122). -/
def State.guardHeld (s : State) : Bool :=
  allAxes.any fun x => (s.axis x).state ≠ .disarmed && (s.axis x).cfg.guard.isSome

/-- SCAN_ENABLE with the flag at 0 (R122). -/
def reqScanDisable (s : State) : State × List Byte :=
  if s.guardHeld then (s, replyBody .inUse)
  else ({ s with scanner := { s.scanner with state := .off, periodRemaining := none } }, replyBody .ok)

/-- SCAN_TRIGGER (R124). -/
def reqScanTrigger (s : State) : State × List Byte :=
  match s.scanner.state with
  | .off => (s, replyBody .notEnabled)
  | .idle =>
    if s.scanner.source = .software then (s.scanTrigger .software, replyBody .ok) else (s, replyBody .notEnabled)
  | .scanning _ => if s.scanner.source = .software then (s, replyBody .busy) else (s, replyBody .notEnabled)

/-- SET_CHANNEL (R135). -/
def reqSetChannel (channel shift : Byte) (windowLow windowHigh : Nat) (persistence : Byte) (s : State) :
    State × List Byte :=
  match finOf 8 channel, inRange 0 3 shift.toNat, inRange 0 1023 windowLow, inRange 0 1023 windowHigh,
      inRange 1 15 persistence.toNat with
  | some c, some k, some low, some high, some p =>
    if high < low then (s, replyBody .badValue)
    else if s.scanner.state ≠ .off then (s, replyBody .busy)
    else
      (s.putChannel c { s.channel c with shift := k, windowLow := low, windowHigh := high, persistence := p },
        replyBody .ok)
  | _, _, _, _, _ => (s, replyBody .badValue)

/-- A channel's flag byte: seeded, fresh, overrun (Table 12-9). -/
def Channel.flags (r : Channel) : Byte := byteOf (flagByte [r.seeded, r.fresh, r.overrun])

/-- A channel's nine bytes in READ_SENSE (Table 12-9). -/
def Channel.bytes (r : Channel) (c : ChannelId) : List Byte :=
  byteOf c.val :: le16 r.raw ++ le16 r.filtered ++
    [r.flags, byteOf (windowCode r.window), byteOf (candidateCode r.candidate), byteOf r.candidateCount]

/-- The scanner's six bytes of a notice and of READ_SENSE (Tables 12-9, 12-10). -/
def Scanner.bytes (sc : Scanner) : List Byte :=
  [byteOf (scanStateCode sc.state), byteOf (channelCode (currentChannel sc.state)), byteOf (scanModeCode sc.mode),
    byteOf (scanSourceCode sc.source), byteOf sc.startCh.val, byteOf sc.endCh.val]

/-- The index list of a request: each below `n`, none twice. -/
def indexList (n : Nat) (bytes : List Byte) : Option (List (Fin n)) :=
  match bytes.mapM (finOf n) with
  | none => none
  | some xs => if xs.Nodup then some xs else none

/-- Clears the fresh and overrun flags of channels (R136). -/
def State.clearFresh (s : State) (cs : List ChannelId) : State :=
  cs.foldl (fun t c => t.putChannel c { t.channel c with fresh := false, overrun := false }) s

/-- The scanner that READ_SENSE reports: its reset values while it is unavailable (R136), though a SET_SCAN taken then is kept (R134). -/
def State.sensedScanner (s : State) : Scanner := if s.part.available.scanner then s.scanner else Scanner.reset

/-- The channel record that READ_SENSE reports: its reset values while the scanner is unavailable (R136). -/
def State.sensedChannel (s : State) (c : ChannelId) : Channel :=
  if s.part.available.scanner then s.channel c else Channel.reset

/-- READ_SENSE (R136). -/
def reqReadSense (channels : List Byte) (s : State) : State × List Byte :=
  match indexList 8 channels with
  | none => (s, replyBody .badValue)
  | some cs =>
    (s.clearFresh cs, replyBody .ok
      (s.sensedScanner.bytes ++ byteOf cs.length :: cs.flatMap fun c => (s.sensedChannel c).bytes c))

end Sys2Proof.Machine
end

