-- ==== Sys2Proof/Machine/Events.lean ====
section
/-! DEFINITION. The event table (10_event_lines_and_notices.md): route actions, candidates, the notice and its body, and the event
requests. -/

namespace Sys2Proof.Machine

/-- Every event line, line 0 first. -/
def allLines : List LineId := List.finRange 43

/-! ## Route actions (R172) -/

/-- A route's action, taken by the block that owns the thing it acts on (R172). -/
def State.routeActs (s : State) (l : LineId) : RouteAction → State
  | .nothing => s
  | .startStation st => (s.startStation st).1
  | .scan => s.scanTrigger .software
  | .raiseAlert severity station => (s.raise .routed severity l.val station).1

/-! ## The choice of a line (R174, R175) -/

/-- A notice candidate (R174). Outside service no notice is sent (R169). -/
def State.candidate (s : State) (l : LineId) : Bool :=
  let ln := s.line l
  s.serving && ln.flag && ln.enable && !ln.announced && s.noticeLevel < ln.level

/-- The better of a choice so far and a later line: the higher level wins, and the lower number among equals (R174). -/
def State.better (s : State) (best : Option LineId) (l : LineId) : Option LineId :=
  if s.candidate l then
    match best with
    | none => some l
    | some m => if (s.line m).level < (s.line l).level then some l else some m
  else best

/-- The line that the event table chooses (R174). -/
def State.chosenLine (s : State) : Option LineId := allLines.foldl s.better none

/-! ## The notice (R176, Table 12-10) -/

/-- The availability byte as the last test ended: motion, lamps, scanner, beacon (Table 12-2). -/
def Availability.byte (v : Availability) : Byte := byteOf (flagByte [v.motion, v.lamps, v.scanner, v.beacon])

/-- An axis line's details. -/
def Details.axisBytes (d : Details) : List Byte :=
  [byteOf (flagByte [d.mark.isSome, d.chainEnd.isSome, d.pairEnd.isSome]), byteOf (d.mark.getD 0)] ++
    le24 (d.chainEnd.getD 0) ++ [byteOf (d.pairEnd.getD 0)]

/-- The alert line's details. -/
def Details.alertBytes (d : Details) : List Byte :=
  match d.alert with
  | none => List.replicate 10 0#8
  | some r =>
    1#8 :: le16 r.id ++
      [byteOf (alertKindCode r.kind), byteOf (severityCode r.severity), byteOf (stationCode r.station), byteOf r.source,
        byteOf (flagCode r.acked), byteOf r.level, byteOf r.repeats]

/-- The system line's details. -/
def Details.startByte (d : Details) : Byte :=
  match d.start with
  | none => 0#8
  | some k => byteOf (startKindCode k)

/-- A button's snapshot. -/
def Button.snapshot (r : Button) : List Byte :=
  [byteOf (buttonStateCode r.state), byteOf (levelCode r.level)] ++ le24 r.heldTime ++
    [byteOf (roleCode r.role), byteOf (stationCode r.station)]

/-- An axis's snapshot (Table 12-10). An absent current cue is sent as 0xFE, as in a reply. DEDUCED (log entry 22). -/
def State.axisSnapshot (s : State) (x : AxisId) : List Byte :=
  let a := s.axis x
  [byteOf (axisStateCode a.state), byteOf (currentCode a.current)] ++ leInt24 a.position ++
    [byteOf (flagCode a.valid)] ++ le24 a.segN ++ le24 a.remN ++
    [byteOf (s.allocation x), byteOf (dispositionCode a.disposition)]

/-- A channel's snapshot. -/
def Channel.snapshot (r : Channel) : List Byte :=
  le16 r.raw ++ le16 r.filtered ++ [byteOf (windowCode r.window), r.flags]

/-- A station's snapshot. -/
def Station.snapshot (r : Station) : List Byte :=
  byteOf (stationStateCode r.state) :: le32 r.restRemaining ++ le16 r.shows ++ le16 r.refused ++
    [byteOf (flagCode r.latch)]

/-- The alert table's snapshot. -/
def State.alertSnapshot (s : State) : List Byte :=
  byteOf s.alerts.records.length :: s.raisedBytes ++ s.patternBytes

/-- The system's snapshot. -/
def State.systemSnapshot (s : State) : List Byte :=
  [s.part.progress, s.part.failure, s.part.available.byte, byteOf s.link.gapCount, byteOf s.link.sumCount,
    byteOf s.link.overrunCount] ++ le32 s.part.uptime.toNat

/-- The details and the snapshot of a line, by its class (Table 12-10). -/
def State.lineFields (s : State) (l : LineId) : List Byte :=
  let d := (s.line l).details
  match lineClass l with
  | .button => (s.button ⟨l.val % 16, by omega⟩).snapshot
  | .axis => d.axisBytes ++ s.axisSnapshot ⟨l.val % 8, by omega⟩
  | .channel => (s.channel ⟨l.val % 8, by omega⟩).snapshot
  | .station => (s.station ⟨l.val % 8, by omega⟩).snapshot
  | .scanner => s.scanner.bytes
  | .alert => d.alertBytes ++ s.alertSnapshot
  | .system => d.startByte :: s.systemSnapshot

/-- A notice's body: line number, level, cause set, then the line's fields (Table 12-10). -/
def State.noticeBody (s : State) (l : LineId) : List Byte :=
  [byteOf l.val, byteOf (s.line l).level] ++ le16 (s.line l).causes.toNat ++ s.lineFields l

/-- A notice: tag 0, kind 0xFE (Table 12-1). -/
def State.notice (s : State) (l : LineId) : Frame := { tag := 0#8, kind := 0xFE#8, body := s.noticeBody l }

/-! ## Requests (10.4) -/

/-- A route action with its parameters; a parameter byte that the action does not use must be 0 (R177, R195). -/
def routeOf (action p1 p2 : Byte) : Option RouteAction :=
  match action.toNat with
  | 0 => if p1 = 0#8 ∧ p2 = 0#8 then some .nothing else none
  | 1 => if p2 = 0#8 then (finOf 8 p1).map .startStation else none
  | 2 => if p1 = 0#8 ∧ p2 = 0#8 then some .scan else none
  | 3 =>
    match severityOf p1, stationRefOf p2 with
    | some sev, some st => some (.raiseAlert sev st)
    | _, _ => none
  | _ => none

/-- A route that would act again on the causes it posts (R173). -/
def selfRoute (l : LineId) (route : RouteAction) (mask : BitVec 16) : Bool :=
  (lineClass l = .station && mask.getLsbD Cause.stationRefused.bit) ||
    (lineClass l = .alert && match route with | .raiseAlert _ _ => true | _ => false)

/-- SET_EVENT (R177). -/
def reqSetEvent (line enable level action p1 p2 : Byte) (mask : BitVec 16) (s : State) : State × List Byte :=
  match finOf 43 line, flagOf enable, inRange 0 7 level.toNat, routeOf action p1 p2 with
  | some l, some en, some lv, some route =>
    if !maskFits l mask.toNat || selfRoute l route mask then (s, replyBody .badValue)
    else
      (s.putLine l { s.line l with enable := en, level := lv, action := route, mask := mask }, replyBody .ok)
  | _, _, _, _ => (s, replyBody .badValue)

/-- SET_NOTICE_LEVEL (R178). -/
def reqSetNoticeLevel (level : Byte) (s : State) : State × List Byte :=
  match inRange 0 7 level.toNat with
  | none => (s, replyBody .badValue)
  | some v => ({ s with noticeLevel := v }, replyBody .ok)

/-- A cleared line (R179). -/
def Line.clear (ln : Line) : Line :=
  { ln with flag := false, causes := 0#16, announced := false, details := Details.absent }

/-- CLEAR_EVENTS (R179). -/
def reqClearEvents (lines : List Byte) (s : State) : State × List Byte :=
  match indexList 43 lines with
  | none => (s, replyBody .badValue)
  | some ls =>
    (ls.foldl (fun t l => t.putLine l (t.line l).clear) s,
      replyBody .ok [byteOf (ls.filter fun l => (s.line l).flag).length])

/-- READ_EVENTS (R181). -/
def reqReadEvents (s : State) : State × List Byte :=
  let flagged := allLines.filter fun l => (s.line l).flag
  (s, replyBody .ok
    (byteOf s.noticeLevel :: byteOf flagged.length :: flagged.flatMap fun l =>
      let ln := s.line l
      byteOf l.val :: le16 ln.causes.toNat ++ [byteOf (flagByte [ln.announced, ln.enable]), byteOf ln.level]))

end Sys2Proof.Machine
end

