-- ==== Sys2Proof/Machine/Startup.lean ====
section
/-! DEFINITION. The two starts and the start-up test (11.4), the STOP line (8.6), and HELLO, STATUS and RESTART (11.5). -/

namespace Sys2Proof.Machine

/-! ## The STOP line (R150, R77) -/

/-- The assertion of the STOP line: every axis halts, and the STOP_LINE alert is raised (R77, R150). -/
def State.applyStop (s : State) : State := ((s.haltAll allAxes).raise .stopLine .lockout 0 none).1

/-- The release of the STOP line clears its record's condition (R150). -/
def State.applyRelease (s : State) : State := s.clearCondition .stopLine 0 none

/-- The STOP line takes a debounced level (R150). A change is applied, unless the test runs: its end applies an assertion (R191). -/
def State.setStopLine (s : State) (asserted : Bool) : State :=
  let s1 := { s with stopLine := { s.stopLine with level := some asserted } }
  if s.isTesting ∨ s.stopLine.level = some asserted then s1
  else if asserted then s1.applyStop
  else s1.applyRelease

/-- One sample of the STOP input: asserted while low; five agreeing samples settle the line (R150). -/
def State.sampleStop (s : State) : State :=
  let sample := !s.pins.stop
  let n := if s.stopLine.sample = some sample then min Config.stopSamples (s.stopLine.run + 1) else 1
  let s1 := { s with stopLine := { s.stopLine with sample := some sample, run := n } }
  if Config.stopSamples ≤ n then s1.setStopLine sample else s1

/-! ## The two starts (R189, R194) -/

/-- A cold reset (R189): every value of the part is its reset value. The input pins and the waiting commands are the world's. -/
def State.coldReset (s : State) : State := State.cold s.pins s.pending

/-- What a warm restart keeps: the cue entries and the scenes as they stood when RESTART was taken (R40, R159), or as they stand where no
RESTART has been taken (log entry 18). -/
def State.keptNow (s : State) : RestartCopy := s.kept.getD { cues := s.cues, scenes := s.lamps.scenes }

/-- A warm restart (R194): the cue contents and the lamp scenes of the taking of RESTART and the uptime are kept, and so are bits 0 and 1 of the
failure word (R189). An edit taken between RESTART and the end of its reply is lost (R40, R159; log entry 18).
The availabilities hold until the test ends (R190), but for the beacon's, which Table 8-1 resets. -/
def State.warmRestart (s : State) : State :=
  let c := State.cold s.pins s.pending
  { c with
    part :=
      { condition := .testing, startKind := .warm, progress := 0#8, failure := s.part.failure &&& 3#8,
        available := { s.part.available with beacon := true }, uptime := s.part.uptime }
    cues := s.keptNow.cues.map fun e => { e with pins := 0 }
    lamps := { c.lamps with scenes := s.keptNow.scenes } }

/-! ## The start-up test (R189 to R191) -/

/-- A word with a bit set. -/
def setBit (w : Byte) (i : Nat) : Byte := w ||| (1#8 <<< i)

/-- The availabilities that a failure word gives (R190). -/
def availabilityOf (failure : Byte) : Availability :=
  { motion := !failure.getLsbD 0 && !failure.getLsbD 5
    lamps := !failure.getLsbD 1 && !failure.getLsbD 6
    scanner := !failure.getLsbD 3 && !failure.getLsbD 4
    beacon := !failure.getLsbD 7 }

/-- The items that a failure word shows failed, ascending. -/
def failedItems (failure : Byte) : List Nat := [0, 1, 2, 3, 4, 5, 6, 7].filter fun i => failure.getLsbD i

/-- The end of the test (R191): availability and condition, the SELF_TEST alerts, an asserted STOP line, STARTED. -/
def State.testEnd (s : State) : State :=
  let condition : PartCondition := if s.part.failure.getLsbD 2 then .failed else .inService
  let s1 : State :=
    { s with part := { s.part with condition := condition, available := availabilityOf s.part.failure } }
  let s2 := (failedItems s.part.failure).foldl (fun t i => (t.raise .selfTest .call i none).1) s1
  let s3 := if s.stopLine.level = some true then s2.applyStop else s2
  s3.post systemLine .started fun d => { d with start := some s.part.startKind }

/-- A test item ends (R189): the lowest item due is performed, and after the last the test ends. -/
def State.testItemDone (s : State) (failed : Bool) : State :=
  if s.isTesting then
    match s.part.remaining with
    | [] => s
    | i :: rest =>
      let p := s.part
      let s1 : State :=
        { s with
          part :=
            { p with progress := setBit p.progress i, failure := if failed then setBit p.failure i else p.failure } }
      if rest.isEmpty then s1.testEnd else s1
  else s

/-! ## HELLO, STATUS and RESTART (11.5) -/

/-- HELLO (R192). -/
def reqHello (s : State) : State × List Byte :=
  (s, replyBody .ok
    (byteOf Config.vendorCode :: le16 Config.partCode ++
      [byteOf Config.revisionLetter, byteOf (conditionOfPartCode s.part.condition), byteOf (startKindCode s.part.startKind),
        s.part.progress, s.part.failure] ++
      le32 s.part.uptime.toNat))

/-- The STOP line level's code: UNSETTLED 2. -/
def stopLineCode : Option Bool → Nat
  | some false => 0
  | some true => 1
  | none => 2

/-- The availability byte of STATUS: none while the test runs (R193). -/
def State.statusAvailability (s : State) : Byte := if s.isTesting then 0#8 else s.part.available.byte

/-- STATUS, with the fields that R193 and Table 12-9 list; R153's beacon patterns are not among them. DEDUCED (log entry 23). -/
def reqStatus (clear : Byte) (s : State) : State × List Byte :=
  match flagOf clear with
  | none => (s, replyBody .badValue)
  | some clr =>
    let body : List Byte :=
      [byteOf (conditionOfPartCode s.part.condition), byteOf (startKindCode s.part.startKind), s.part.progress,
        s.part.failure, s.statusAvailability, byteOf s.link.gapCount, byteOf s.link.sumCount, byteOf s.link.overrunCount,
        byteOf s.arbiter.budget, byteOf s.totalAllocation, byteOf (stopLineCode s.stopLine.level),
        byteOf (s.storedCount .note), byteOf (s.raisedCount .note), byteOf (s.storedCount .call),
        byteOf (s.raisedCount .call), byteOf (s.storedCount .lockout), byteOf (s.raisedCount .lockout)] ++
      le32 s.part.uptime.toNat
    (if clr then { s with link := { s.link with gapCount := 0, sumCount := 0, overrunCount := 0 } } else s,
      replyBody .ok body)

/-- RESTART (R194): answered OK; the warm restart begins when the transmitter ends that reply. What it will keep is what stands now (R40, R159);
a further RESTART, taken while that reply is sent, changes nothing of it. -/
def reqRestart (s : State) : State × List Byte := ({ s with kept := some s.keptNow }, replyBody .ok)

end Sys2Proof.Machine
end

