-- ==== Sys2Proof/WellFormed.lean ====
section
/-! DEFINITION. Which commands can stand on the link: a frame's body holds at most 248 bytes (R182), and a BAD_KIND_REQUEST is
a frame whose kind is no request kind of Table 11-3 (R187). Every other operand is in range by its type. -/

namespace Sys2Proof

/-- The request kinds of Table 11-3, by code. -/
def requestCodes : List Nat :=
  [0x01, 0x02, 0x03, 0x10, 0x11, 0x12, 0x13, 0x20, 0x21, 0x22, 0x28, 0x29, 0x2A, 0x30, 0x31, 0x32, 0x33] ++
  [0x40, 0x41, 0x42, 0x43, 0x44, 0x45, 0x46, 0x47, 0x48, 0x50, 0x51, 0x60, 0x61, 0x62, 0x63, 0x64] ++
  [0x70, 0x71, 0x72, 0x73, 0x74, 0x78, 0x79, 0x7A, 0x7B]

/-- The bytes a body may hold: LEN − 2 with LEN at most 250 (R182). -/
def maxBody : Nat := 248

/-- The command can be given: its body fits a frame, and a bad kind is a bad kind. -/
def Instr.wellFormed : Instr → Bool
  | .badKindRequest _ kind body => !requestCodes.contains kind.toNat && body.length ≤ maxBody
  | .clearEvents _ lines => lines.length ≤ maxBody
  | .writeCue _ _ _ _ fields => fields.length + 3 ≤ maxBody
  | .readSense _ channels => channels.length ≤ maxBody
  | .writeLamps _ _ _ columns => columns.length + 2 ≤ maxBody
  | _ => true

end Sys2Proof
end

