-- ==== Sys2Proof/Machine/Requests.lean ====
section
/-! DEFINITION. Serving a request frame (R187): the link's checks, the body fields of Table 12-3, and the reply. -/

namespace Sys2Proof.Machine

/-! ## The length check (R187, check 3; Table 12-3) -/

/-- The body lengths that a request kind allows (Table 12-3). -/
def lengthFits (kind : Byte) (n : Nat) : Bool :=
  match kind.toNat with
  | 0x01 | 0x03 | 0x11 | 0x22 | 0x51 | 0x62 => n = 0
  | 0x02 | 0x13 | 0x32 | 0x42 | 0x43 | 0x45 | 0x46 | 0x48 | 0x61 | 0x7A | 0x7B => n = 1
  | 0x29 | 0x2A | 0x31 | 0x33 | 0x44 | 0x70 | 0x71 | 0x72 => n = 2
  | 0x21 | 0x41 | 0x73 | 0x79 => n = 3
  | 0x47 | 0x50 => n = 4
  | 0x74 => n = 6
  | 0x28 | 0x60 | 0x63 => n = 7
  | 0x10 | 0x20 => n = 8
  | 0x40 => n = 16
  | 0x12 => 1 ≤ n && n ≤ 43
  | 0x30 => n = 3 || n = 4 || n = 5 || n = 12 || n = 14 || n = 17
  | 0x64 => 1 ≤ n && n ≤ 8
  | 0x78 => 3 ≤ n && n ≤ 34
  | _ => false

/-! ## The fields of each body (Table 12-3) -/

/-- STATION_COMMAND: the station and the command's code (R37). -/
def stationCommand (station command : Byte) (s : State) : State × List Byte :=
  match command.toNat with
  | 0 => reqStationOnline station s
  | 1 => reqStationOffline station s
  | 2 => reqStationStart station s
  | 3 => reqStationStop station s
  | 4 => reqStationUnlock station s
  | _ => (s, replyBody .badValue)

/-- SCAN_ENABLE: 1 enables, 0 disables (R121, R122). -/
def scanSwitch (flag : Byte) (s : State) : State × List Byte :=
  match flagOf flag with
  | some true => reqScanEnable s
  | some false => reqScanDisable s
  | none => (s, replyBody .badValue)

/-- A body that has not the fields of its kind, which the length check has turned away. -/
def wrongLength (s : State) : State × List Byte := (s, replyBody .badLength)

/-- Requests of the link and the event table. -/
def linkAction (kind : Byte) (body : List Byte) (s : State) : State × List Byte :=
  if kind = 0x01#8 then
    match body with
    | [] => reqHello s
    | _ => wrongLength s
  else if kind = 0x02#8 then
    match body with
    | [clear] => reqStatus clear s
    | _ => wrongLength s
  else if kind = 0x03#8 then
    match body with
    | [] => reqRestart s
    | _ => wrongLength s
  else if kind = 0x10#8 then
    match body with
    | [line, enable, level, action, p1, p2, m0, m1] => reqSetEvent line enable level action p1 p2 (BitVec.ofNat 16 (u16 m0 m1)) s
    | _ => wrongLength s
  else if kind = 0x11#8 then
    match body with
    | [] => reqReadEvents s
    | _ => wrongLength s
  else if kind = 0x12#8 then reqClearEvents body s
  else if kind = 0x13#8 then
    match body with
    | [level] => reqSetNoticeLevel level s
    | _ => wrongLength s
  else wrongLength s

/-- Requests of the buttons, the stations and the cue table. -/
def hallAction (kind : Byte) (body : List Byte) (s : State) : State × List Byte :=
  if kind = 0x20#8 then
    match body with
    | [b, polarity, role, st, h0, h1, row, column] => reqSetButton b polarity role st (u16 h0 h1) row column s
    | _ => wrongLength s
  else if kind = 0x21#8 then
    match body with
    | [debounce, s0, s1] => reqSetButtonTiming debounce (u16 s0 s1) s
    | _ => wrongLength s
  else if kind = 0x22#8 then
    match body with
    | [] => reqReadButtons s
    | _ => wrongLength s
  else if kind = 0x28#8 then
    match body with
    | [st, r0, r1, i0, i1, row, column] => reqSetStation st (u16 r0 r1) (u16 i0 i1) row column s
    | _ => wrongLength s
  else if kind = 0x29#8 then
    match body with
    | [st, command] => stationCommand st command s
    | _ => wrongLength s
  else if kind = 0x2A#8 then
    match body with
    | [st, clear] => reqReadStation st clear s
    | _ => wrongLength s
  else if kind = 0x30#8 then
    match body with
    | index :: k :: next :: fields => reqWriteCue index k next fields s
    | _ => wrongLength s
  else if kind = 0x31#8 then
    match body with
    | [first, count] => reqReadCue first count s
    | _ => wrongLength s
  else if kind = 0x32#8 then
    match body with
    | [start] => reqValidateChain start s
    | _ => wrongLength s
  else if kind = 0x33#8 then
    match body with
    | [first, count] => reqEraseCue first count s
    | _ => wrongLength s
  else wrongLength s

/-- Requests of the axes and the arbiter. -/
def axisAction (kind : Byte) (body : List Byte) (s : State) : State × List Byte :=
  if kind = 0x40#8 then
    match body with
    | [x, st, mode, flags, run, hold, l0, l1, l2, h0, h1, h2, guard, j0, j1, times] => reqSetAxis x st mode flags run hold (s24 l0 l1 l2) (s24 h0 h1 h2) guard (u16 j0 j1) times s
    | _ => wrongLength s
  else if kind = 0x41#8 then
    match body with
    | [x, start, start2] => reqArmAxis x start start2 s
    | _ => wrongLength s
  else if kind = 0x42#8 then
    match body with
    | [x] => reqDisarmAxis x s
    | _ => wrongLength s
  else if kind = 0x43#8 then
    match body with
    | [x] => reqTriggerAxis x s
    | _ => wrongLength s
  else if kind = 0x44#8 then
    match body with
    | [x, flag] => reqDemandAxis x flag s
    | _ => wrongLength s
  else if kind = 0x45#8 then
    match body with
    | [x] => reqStopAxis x s
    | _ => wrongLength s
  else if kind = 0x46#8 then
    match body with
    | [x] => reqHaltAxis x s
    | _ => wrongLength s
  else if kind = 0x47#8 then
    match body with
    | [x, p0, p1, p2] => reqSetPosition x (s24 p0 p1 p2) s
    | _ => wrongLength s
  else if kind = 0x48#8 then
    match body with
    | [x] => reqReadAxis x s
    | _ => wrongLength s
  else if kind = 0x50#8 then
    match body with
    | [budget, policy, w0, w1] => reqSetBudget budget policy (u16 w0 w1) s
    | _ => wrongLength s
  else if kind = 0x51#8 then
    match body with
    | [] => reqReadBudget s
    | _ => wrongLength s
  else wrongLength s

/-- Requests of the scanner, the alert table and the lamp matrix. -/
def senseAction (kind : Byte) (body : List Byte) (s : State) : State × List Byte :=
  if kind = 0x60#8 then
    match body with
    | [cs, ce, mode, source, p0, p1, t] => reqSetScan cs ce mode source (u16 p0 p1) t s
    | _ => wrongLength s
  else if kind = 0x61#8 then
    match body with
    | [flag] => scanSwitch flag s
    | _ => wrongLength s
  else if kind = 0x62#8 then
    match body with
    | [] => reqScanTrigger s
    | _ => wrongLength s
  else if kind = 0x63#8 then
    match body with
    | [c, shift, l0, l1, h0, h1, times] => reqSetChannel c shift (u16 l0 l1) (u16 h0 h1) times s
    | _ => wrongLength s
  else if kind = 0x64#8 then reqReadSense body s
  else if kind = 0x70#8 then
    match body with
    | [first, count] => reqReadAlerts first count s
    | _ => wrongLength s
  else if kind = 0x71#8 then
    match body with
    | [i0, i1] => reqAckAlert (u16 i0 i1) s
    | _ => wrongLength s
  else if kind = 0x72#8 then
    match body with
    | [i0, i1] => reqClearAlert (u16 i0 i1) s
    | _ => wrongLength s
  else if kind = 0x73#8 then
    match body with
    | [severity, st, code] => reqRaiseAlert severity st code s
    | _ => wrongLength s
  else if kind = 0x74#8 then
    match body with
    | [n0, n1, c0, c1, l0, l1] => reqSetEscalation (u16 n0 n1) (u16 c0 c1) (u16 l0 l1) s
    | _ => wrongLength s
  else if kind = 0x78#8 then
    match body with
    | scene :: c :: columns => reqWriteLamps scene c columns s
    | _ => wrongLength s
  else if kind = 0x79#8 then
    match body with
    | [source, c, count] => reqReadLamps source c count s
    | _ => wrongLength s
  else if kind = 0x7A#8 then
    match body with
    | [scene] => reqShowScene scene s
    | _ => wrongLength s
  else if kind = 0x7B#8 then
    match body with
    | [flag] => reqSetMirror flag s
    | _ => wrongLength s
  else wrongLength s

/-- A request's own checks and action (R187, check 6). -/
def requestAction (kind : Byte) (body : List Byte) (s : State) : State × List Byte :=
  if kind.toNat < 0x20 then linkAction kind body s
  else if kind.toNat < 0x40 then hallAction kind body s
  else if kind.toNat < 0x60 then axisAction kind body s
  else senseAction kind body s

/-! ## Serving (R187) -/

/-- HELLO and STATUS, served in every part condition. -/
def servedAlways (kind : Byte) : Bool := kind = 1#8 || kind = 2#8

/-- The status with which the link's own checks 1 to 5 refuse a frame, if they do (R187). -/
def State.linkRefusal (s : State) (f : Frame) : Option Status :=
  if f.tag = 0#8 then some .badValue
  else if !requestCodes.contains f.kind.toNat then some .badKind
  else if !lengthFits f.kind f.body.length then some .badLength
  else if s.part.condition = .testing ∧ !servedAlways f.kind then some .starting
  else if s.part.condition = .failed ∧ !servedAlways f.kind ∧ f.kind ≠ 3#8 then some .fault
  else none

/-- A request frame taken: the state after it and the reply's body (R187). -/
def State.serve (s : State) (f : Frame) : State × List Byte :=
  match s.linkRefusal f with
  | some st => (s, replyBody st)
  | none => requestAction f.kind f.body s

/-- A reply's kind: the request's plus 0x80, or 0xFF for a kind outside 0x01..0x7F (R187). -/
def replyKind (kind : Byte) : Byte := if 1 ≤ kind.toNat ∧ kind.toNat ≤ 0x7F then kind + 0x80#8 else 0xFF#8

/-- The reply frame to a request frame (R182, R187). -/
def replyFrame (f : Frame) (body : List Byte) : Frame := { tag := f.tag, kind := replyKind f.kind, body := body }

/-- The reply whose end begins a warm restart: RESTART answered OK (R194). -/
def Frame.isRestartReply (f : Frame) : Bool := f.kind = 0x83#8 && f.body = replyBody .ok

end Sys2Proof.Machine
end

