-- ==== Sys2Proof/Machine/Link.lean ====
section
/-! DEFINITION. The gallery link (11.1 to 11.3): receiving, the holder, the reply slot and the transmitter; and what ends every event of
the part: its grant passes, the link's next moves, and the route actions its arrivals have handed over. -/

namespace Sys2Proof.Machine

/-! ## Frames on the line (R182) -/

/-- The sum byte of LEN, TAG, KIND and BODY (R182). -/
def sumByte (bytes : List Byte) : Byte := 0#8 - bytes.foldl (· + ·) 0#8

/-- A frame's bytes as they are sent, SYNC first (R182, Table 12-1). -/
def Frame.bytes (f : Frame) : List Byte :=
  let inner := byteOf (f.body.length + 2) :: f.tag :: f.kind :: f.body
  Config.sync :: inner ++ [sumByte inner]

/-! ## Receiving (11.2) -/

/-- A good frame goes to the receive holder, or is an overrun (R186). -/
def State.acceptFrame (s : State) (f : Frame) : State :=
  match s.link.holder with
  | none => { s with link := { s.link with holder := some f } }
  | some _ => { s with link := { s.link with overrunCount := satAdd 255 s.link.overrunCount 1 } }

/-- Puts the receiver back to HUNTING. -/
def State.hunt (s : State) : State := { s with link := { s.link with receiver := none, gapTime := 0 } }

/-- Puts the receiver IN_FRAME with these bytes since SYNC. -/
def State.assemble (s : State) (bytes : List Byte) : State :=
  { s with link := { s.link with receiver := some bytes, gapTime := 0 } }

/-- The test of a whole frame (R185): `bytes` are LEN, TAG, KIND, BODY and SUM. -/
def State.frameComplete (s : State) (bytes : List Byte) : State :=
  if bytes.foldl (· + ·) 0#8 = 0#8 then
    match bytes with
    | _ :: tag :: kind :: rest => s.acceptFrame { tag := tag, kind := kind, body := rest.dropLast }
    | _ => s
  else
    { s with link := { s.link with sumCount := satAdd 255 s.link.sumCount 1 } }.post systemLine .frameError

/-- A character with a good stop bit arrives (R183). -/
def State.takeByte (s : State) (c : Byte) : State :=
  match s.link.receiver with
  | none => if c = Config.sync then s.assemble [] else s
  | some [] => if 2 ≤ c.toNat ∧ c.toNat ≤ 250 then s.assemble [c] else s.hunt
  | some (len :: rest) =>
    if rest.length < len.toNat then s.assemble (len :: rest ++ [c])
    else s.hunt.frameComplete (len :: rest ++ [c])

/-- A character arrives; one whose stop bit reads low is dropped (R183). -/
def State.byteReceived (s : State) (c : Byte) (stopBit : Bool) : State := if stopBit then s.takeByte c else s

/-- The gap time reaches its limit (R184). -/
def State.gapExpiry (s : State) : State :=
  match s.link.receiver with
  | none => s
  | some _ => { s.hunt with link := { s.hunt.link with gapCount := satAdd 255 s.link.gapCount 1 } }

/-! ## Requests, replies and notices (11.3, R175) -/

/-- Takes the request in the holder when the reply slot is empty, with the passes it brings (R187). -/
def State.takeHeld (s : State) : State :=
  match s.link.slot, s.link.holder with
  | none, some f =>
    let s1 : State := { s with link := { s.link with holder := none } }
    let (s2, body) := s1.serve f
    let s3 := s1.settled s2
    { s3 with link := { s3.link with slot := some (replyFrame f body) } }
  | _, _ => s

/-- A FREE transmitter begins the reply in the slot (R188). -/
def State.beginReply (s : State) : State :=
  match s.link.tx, s.link.slot with
  | .free, some f => { s with link := { s.link with tx := .sendingReply f, slot := none } }
  | _, _ => s

/-- With the transmitter FREE and the slot empty, the chosen line is announced and its notice begun (R174, R175). -/
def State.chooseNotice (s : State) : State :=
  match s.link.tx, s.link.slot, s.chosenLine with
  | .free, none, some l =>
    let f := s.notice l
    let s1 := s.putLine l { s.line l with announced := true }
    { s1 with link := { s1.link with tx := .sendingNotice f } }
  | _, _, _ => s

/-- The link's next moves: a held request, the reply in the slot, the request held behind it, then a notice (R187, R188, R175). -/
def State.pump (s : State) : State := s.takeHeld.beginReply.takeHeld.chooseNotice

/-- The transmitter ends a frame (R188). -/
def State.freeTransmitter (s : State) : State := { s with link := { s.link with tx := .free } }

/-! ## Events -/

/-- The route actions handed over act one after another, each an event of its own (R172, log entry 7). -/
def drain : Nat → State → State
  | 0, s => s
  | fuel + 1, s =>
    match s.handed with
    | [] => s
    | (l, act) :: rest =>
      let s1 : State := { s with handed := rest }
      drain fuel (s1.settled (s1.routeActs l act)).pump

/-- An event of the part: the change itself, its grant passes (R104), the link's next moves, then the route actions. -/
def State.runEvent (s : State) (g : State → State) : State := drain Config.routeFuel (s.settled (g s)).pump

/-- A request command: its frame completes with a good sum (R185) and goes to the holder (R186). -/
def State.request (s : State) (tag kind : Byte) (body : List Byte) : State :=
  s.runEvent fun t => t.acceptFrame { tag := tag, kind := kind, body := body }

/-- The transmitter ends its frame (R188); the end of RESTART's reply begins the warm restart, with no notice chosen and no request taken
(R194). -/
def State.transmitEnd (s : State) : State :=
  match s.link.tx with
  | .free => s
  | .sendingReply f => if f.isRestartReply then s.warmRestart else s.runEvent State.freeTransmitter
  | .sendingNotice _ => s.runEvent State.freeTransmitter

end Sys2Proof.Machine
end

