-- ==== Sys2Proof/Machine/Tick.lean ====
section
/-! DEFINITION. One millisecond of the timebase (0.5), which the block takes when no command waits (log entries 1 and 2): every timer counts
on the state at the start of the millisecond, and then the blocks take their samples and act on their expiries, each as an event. -/

namespace Sys2Proof.Machine

/-! ## The counts of a millisecond -/

/-- A station's timers: the rest (R28) and, while `idle`, the idle time (R29). -/
def Station.count (r : Station) (idle : Bool) : Station :=
  { r with
    restRemaining := if r.state = .resting then r.restRemaining - 1 else r.restRemaining
    idleTime := if idle then satAdd 600000 r.idleTime 1 else r.idleTime }

/-- What an axis counts before its own millisecond: the rehearsal elapsed time (R83); STEP is quiet until a tick (R90). -/
def Axis.count (a : Axis) (rehearses : Bool) : Axis :=
  { a with
    elapsed := if rehearses && a.state.active then satAdd 16777215 a.elapsed 1 else a.elapsed
    stepPulses := 0 }

/-- An entry's waited time (R103). -/
def PendingEntry.count (e : PendingEntry) : PendingEntry := { e with waited := satAdd 65535 e.waited 1 }

/-- A record's time in level (R145). -/
def Alert.count (r : Alert) : Alert :=
  if r.acked then r else { r with timeInLevel := satAdd 3600000 r.timeInLevel 1 }

/-- The link's gap time while IN_FRAME (R184). -/
def Link.count (k : Link) : Link := if k.receiver.isSome then { k with gapTime := k.gapTime + 1 } else k

/-- The scanner's period timer (R125). -/
def Scanner.count (sc : Scanner) : Scanner := { sc with periodRemaining := sc.periodRemaining.map (· - 1) }

/-- The timers that run in every part condition: the uptime (R189) and the gap time (R184). -/
def State.countAlways (s : State) : State :=
  { s with part := { s.part with uptime := s.part.uptime + 1#32 }, link := s.link.count }

/-- The timers that wait for the end of the start-up test (R189, R191). -/
def State.countBlocks (s : State) : State :=
  { s with
    stations := Vector.ofFn fun st => (s.station st).count (s.idleRuns st)
    axes := Vector.ofFn fun x => (s.axis x).count (s.rehearses x)
    arbiter := { s.arbiter with waiting := s.arbiter.waiting.map PendingEntry.count }
    scanner := s.scanner.count
    alerts := { s.alerts with records := s.alerts.records.map Alert.count }
    lamps := { s.lamps with slow := s.lamps.slow.tick .slow, fast := s.lamps.fast.tick .fast } }

/-! ## Samples and expiries -/

/-- Takes an event when it is due. -/
def State.runWhen (s : State) (due : Bool) (g : State → State) : State := if due then s.runEvent g else s

/-- The end-stop reading of a pin level under a polarity: with CLOSED_LOW a low pin is TRIPPED (R78). -/
def Polarity.trips : Polarity → Bool → Bool
  | .closedLow, high => !high
  | .closedHigh, high => high

/-- The pin of an end stop. -/
def State.stopPin (s : State) (x : AxisId) : StopSide → Bool
  | .low => s.pins.lowStops.get x
  | .high => s.pins.highStops.get x

/-- The last sample of an end stop. -/
def Axis.lastSample (a : Axis) : StopSide → Option Bool
  | .low => a.lowSample
  | .high => a.highSample

/-- Keeps a sample of an end stop. -/
def Axis.withSample (a : Axis) (side : StopSide) (sample : Bool) : Axis :=
  match side with
  | .low => { a with lowSample := some sample }
  | .high => { a with highSample := some sample }

/-- A level taken by a stop is a trip of a moving axis (R78). -/
def State.tripDue (s : State) (x : AxisId) (side : StopSide) (level : Bool) : Bool :=
  level && (s.axis x).stopLevel side ≠ some true && (s.axis x).state.moving && !s.rehearses x

/-- One sample of an end stop: two successive samples that agree settle the level (R78). The answer is true for a trip. -/
def State.sampleEndStop (s : State) (x : AxisId) (side : StopSide) : State × Bool :=
  let a := s.axis x
  let sample := a.cfg.stopPolarity.trips (s.stopPin x side)
  let s1 := s.putAxis x (a.withSample side sample)
  if a.lastSample side = some sample then
    (s1.runWhen (a.stopLevel side ≠ some sample) fun t => t.endStopChange x side sample, s.tripDue x side sample)
  else (s1, false)

/-- The dwell count of an axis's millisecond (R68), and the expiry of a dwell that it brings to 0. -/
def State.countDwell (s : State) (x : AxisId) : State :=
  let a := s.axis x
  if a.state = .dwelling then
    (s.putAxis x { a with dwell := a.dwell - 1 }).runWhen (a.dwell ≤ 1) fun t => t.dwellExpiry x
  else s

/-- An axis's millisecond: its end stops, its dwell, then its ramp tick (R78, R87). A tripped axis takes no tick, and a segment loaded in this
millisecond has its first tick in the next. -/
def State.axisMillisecond (s : State) (x : AxisId) (movedAtStart : Bool) : State :=
  let (s1, trip1) := s.sampleEndStop x .low
  let (s2, trip2) := s1.sampleEndStop x .high
  let s3 := s2.countDwell x
  s3.runWhen (movedAtStart && !trip1 && !trip2 && (s3.axis x).state.moving) fun t => t.rampTick x

/-- A station's expiries: the rest (R28) and the idle timeout (R30). -/
def State.stationMillisecond (s : State) (st : StationId) : State :=
  let s1 := s.runWhen ((s.station st).state = .resting && (s.station st).restRemaining = 0) fun t => t.restExpiry st
  let r := s1.station st
  s1.runWhen (r.idleLimit ≠ 0 && r.idleLimit * 1000 ≤ r.idleTime) fun t => t.idleTimeout st

/-- A record's escalation is due (R145). -/
def State.escalationDue (s : State) (id : Nat) : Bool :=
  match s.recordOf id with
  | none => false
  | some r => !r.acked && r.level < 3 && s.intervalMs r.severity ≤ r.timeInLevel

/-- The sampling and the expiries of the blocks once the start-up test has ended. `moved` holds the axes that were RUNNING or STOPPING when
the millisecond began. -/
def State.blocksMillisecond (s : State) (moved : List AxisId) : State :=
  let s1 := s.runEvent State.sampleTrigger
  let s2 := s1.runWhen (s1.scanner.periodRemaining = some 0) State.periodExpiry
  let s3 := if s2.serving then allButtons.foldl (fun t b => t.runEvent fun u => u.sampleButton b) s2 else s2
  let s4 := allAxes.foldl (fun t x => t.axisMillisecond x (moved.contains x)) s3
  let s5 := s4.runEvent fun t => t.markUrgent t.arbiter.reached
  let s6 := allStations.foldl State.stationMillisecond s5
  (s6.alerts.records.map (·.id)).foldl (fun t id => t.runWhen (t.escalationDue id) fun u => u.escalate id) s6

/-- One millisecond of the timebase. Route actions left over from the last command act first. -/
def State.tick (s : State) : State :=
  let s0 := drain Config.routeFuel s
  let moved := allAxes.filter fun x => (s0.axis x).state.moving
  let s1 := if s0.isTesting then s0.countAlways else s0.countAlways.countBlocks
  let s2 := s1.runWhen (Config.gapLimit ≤ s1.link.gapTime) State.gapExpiry
  let s3 := s2.runEvent State.sampleStop
  if s3.isTesting then s3 else s3.blocksMillisecond moved

end Sys2Proof.Machine
end

