-- ==== Sys2Proof/Machine/ExecEvents.lean ====
section
/-! DEFINITION. The meanings of the event commands. A command says that its event happens: a timer event brings its timer to the limit, a
contact event puts the input pin where the contact reads so (log entries 4 and 9). An event that cannot happen in the state changes
nothing. -/

namespace Sys2Proof.Machine

/-- What a command answers. -/
abbrev Result := Host.Outcome State Fault Refusal

/-- An event taken when it can happen. -/
def State.eventWhen (s : State) (possible : Bool) (g : State → State) : Result :=
  .next (if possible then s.runEvent g else s)

/-! ## Starts and the test -/

/-- COLD_RESET (R189). -/
def execColdReset (s : State) : Result := .next s.coldReset

/-- The transmitter is sending the reply whose end begins a warm restart (R194). -/
def State.restartReplyUnderWay (s : State) : Bool :=
  match s.link.tx with
  | .sendingReply f => f.isRestartReply
  | _ => false

/-- WARM_RESTART (R194): it begins where the transmitter ends RESTART's reply, and nowhere else. -/
def execWarmRestart (s : State) : Result := .next (if s.restartReplyUnderWay then s.warmRestart else s)

/-- TEST_ITEM_DONE (R189). -/
def execTestItemDone (failed : Bool) (s : State) : Result := s.eventWhen s.isTesting fun t => t.testItemDone failed

/-! ## Buttons (1.2) -/

/-- The contact that a flag names. -/
def contactOf (closed : Bool) : Contact := if closed then .closed else .opened

/-- BUTTON_SETTLE (R4). -/
def execButtonSettle (b : ButtonId) (closed : Bool) (s : State) : Result :=
  s.eventWhen (s.serving && (s.button b).level = none) fun t =>
    (t.setButtonPin b (contactOf closed)).buttonSettle b (contactOf closed)

/-- BUTTON_PRESS (R5). -/
def execButtonPress (b : ButtonId) (s : State) : Result :=
  s.eventWhen (s.serving && (s.button b).state = .released && (s.button b).level = some .opened) fun t =>
    (t.setButtonPin b .closed).buttonPress b

/-- Brings a button's held time up to a value. -/
def State.holdFor (s : State) (b : ButtonId) (ms : Nat) : State :=
  s.putButton b { s.button b with heldTime := max (s.button b).heldTime ms }

/-- BUTTON_HOLD (R6). -/
def execButtonHold (b : ButtonId) (s : State) : Result :=
  s.eventWhen (s.serving && (s.button b).state = .pressed) fun t =>
    (t.holdFor b (t.button b).holdThreshold).compareHeld b

/-- BUTTON_STUCK (R7). -/
def execButtonStuck (b : ButtonId) (s : State) : Result :=
  s.eventWhen (s.serving && ((s.button b).state = .pressed || (s.button b).state = .held)) fun t =>
    (t.holdFor b (t.buttonTiming.stuckLimit * 1000)).compareHeld b

/-- BUTTON_RELEASE (R8). -/
def execButtonRelease (b : ButtonId) (s : State) : Result :=
  s.eventWhen (s.serving && (s.button b).state ≠ .released) fun t => (t.setButtonPin b .opened).buttonRelease b

/-! ## Stations (2.4) -/

/-- REST_EXPIRY (R28). -/
def execRestExpiry (st : StationId) (s : State) : Result :=
  s.eventWhen ((s.station st).state = .resting) fun t => t.restExpiry st

/-- IDLE_TIMEOUT (R30). -/
def execIdleTimeout (st : StationId) (s : State) : Result :=
  s.eventWhen ((s.station st).idleLimit ≠ 0 && s.idleRuns st) fun t => t.idleTimeout st

/-! ## The STOP line and the end stops -/

/-- Puts the STOP input where the line reads so, with its five agreeing samples (R150). -/
def State.driveStop (s : State) (asserted : Bool) : State :=
  { s with
    pins := { s.pins with stop := !asserted }
    stopLine := { s.stopLine with sample := some asserted, run := Config.stopSamples } }

/-- STOP_LINE_ASSERT (R150, R77). -/
def execStopLineAssert (s : State) : Result := s.eventWhen true fun t => (t.driveStop true).setStopLine true

/-- STOP_LINE_RELEASE (R150). -/
def execStopLineRelease (s : State) : Result := s.eventWhen true fun t => (t.driveStop false).setStopLine false

/-- The pin level at which an end stop reads so under a polarity (R78). -/
def Polarity.stopPin : Polarity → Bool → Bool
  | .closedLow, tripped => !tripped
  | .closedHigh, tripped => tripped

/-- Puts an end-stop input where the stop reads so, with its last sample (R78). -/
def State.driveEndStop (s : State) (x : AxisId) (side : StopSide) (tripped : Bool) : State :=
  let pin := (s.axis x).cfg.stopPolarity.stopPin tripped
  let pins : Pins := match side with
    | .low => { s.pins with lowStops := s.pins.lowStops.set x.val pin x.isLt }
    | .high => { s.pins with highStops := s.pins.highStops.set x.val pin x.isLt }
  { s with pins := pins }.putAxis x ((s.axis x).withSample side tripped)

/-- END_STOP_CHANGE (R78 to R80). -/
def execEndStopChange (x : AxisId) (side : StopSide) (tripped : Bool) (s : State) : Result :=
  s.eventWhen (!s.isTesting) fun t => (t.driveEndStop x side tripped).endStopChange x side tripped

/-! ## Axes and arbiter -/

/-- DWELL_EXPIRY (R68). -/
def execDwellExpiry (x : AxisId) (s : State) : Result :=
  s.eventWhen ((s.axis x).state = .dwelling) fun t => t.dwellExpiry x

/-- RAMP_TICK (R87). -/
def execRampTick (x : AxisId) (s : State) : Result := s.eventWhen (s.axis x).state.moving fun t => t.rampTick x

/-- ENTRY_URGENT (R103). -/
def execEntryUrgent (x : AxisId) (s : State) : Result :=
  s.eventWhen (s.arbiter.waiting.any (·.axis = x)) fun t => t.entryUrgent x

/-! ## The scanner -/

/-- CONVERSION_COMPLETE (R120, R128). -/
def execConversionComplete (result : BitVec 10) (s : State) : Result :=
  s.eventWhen (s.scanner.state ≠ .off && s.scanner.state ≠ .idle) fun t => t.conversionComplete result.toNat

/-- PERIOD_EXPIRY (R125). -/
def execPeriodExpiry (s : State) : Result :=
  s.eventWhen (s.scanner.state ≠ .off && s.scanner.source = .period) State.periodExpiry

/-- TRIGGER_FALLING_EDGE (R127): the line was HIGH at the sample before and reads LOW. -/
def execTriggerFallingEdge (s : State) : Result :=
  s.eventWhen (!s.isTesting) fun t => { t with pins := { t.pins with trigger := false } }.triggerFallingEdge

/-! ## Alerts and lamps -/

/-- ESCALATION (R145). -/
def execEscalation (id : BitVec 16) (s : State) : Result :=
  s.eventWhen (!s.isTesting) fun t => t.escalate id.toNat

/-- BLINK_PHASE_CHANGE (R164). -/
def execBlinkPhaseChange (clock : BlinkClock) (s : State) : Result :=
  s.eventWhen (!s.isTesting) fun t => t.flipBlink clock

/-! ## The link -/

/-- BYTE_RECEIVED (R183). -/
def execByteReceived (c : Byte) (stopBit : Bool) (s : State) : Result :=
  s.eventWhen true fun t => t.byteReceived c stopBit

/-- GAP_EXPIRY (R184). -/
def execGapExpiry (s : State) : Result := s.eventWhen s.link.receiver.isSome State.gapExpiry

/-- TRANSMIT_END (R188, R194). -/
def execTransmitEnd (s : State) : Result := .next s.transmitEnd

/-- BAD_KIND_REQUEST (R187): a good frame of no request kind. -/
def execBadKindRequest (tag kind : Byte) (body : List Byte) (s : State) : Result := .next (s.request tag kind body)

end Sys2Proof.Machine
end

