-- ==== Sys2Proof/Machine/ExecRequests.lean ====
section
/-! DEFINITION. The meanings of the request commands. Each is a good request frame whose reception completes: its kind (Table 11-3) and its
body (Table 12-3) go to the receive holder, and the link serves it from there (R185 to R187). -/

namespace Sys2Proof.Machine

/-- HELLO (R192). -/
def execHello (tag : Byte) (s : State) : Result := .next (s.request tag 0x01#8 [])

/-- STATUS (R193). -/
def execStatus (tag clear : Byte) (s : State) : Result := .next (s.request tag 0x02#8 [clear])

/-- RESTART (R194). -/
def execRestart (tag : Byte) (s : State) : Result := .next (s.request tag 0x03#8 [])

/-- SET_EVENT (R177). -/
def execSetEvent (tag line enable level action param1 param2 : Byte) (mask : BitVec 16) (s : State) : Result :=
  .next (s.request tag 0x10#8 ([line, enable, level, action, param1, param2] ++ le16 mask.toNat))

/-- READ_EVENTS (R181). -/
def execReadEvents (tag : Byte) (s : State) : Result := .next (s.request tag 0x11#8 [])

/-- CLEAR_EVENTS (R179). -/
def execClearEvents (tag : Byte) (lines : List Byte) (s : State) : Result := .next (s.request tag 0x12#8 lines)

/-- SET_NOTICE_LEVEL (R178). -/
def execSetNoticeLevel (tag level : Byte) (s : State) : Result := .next (s.request tag 0x13#8 [level])

/-- SET_BUTTON (R16). -/
def execSetButton (tag button polarity role station : Byte) (hold : BitVec 16) (row column : Byte) (s : State) :
    Result :=
  .next (s.request tag 0x20#8 ([button, polarity, role, station] ++ le16 hold.toNat ++ [row, column]))

/-- SET_BUTTON_TIMING (R17). -/
def execSetButtonTiming (tag debounce : Byte) (stuck : BitVec 16) (s : State) : Result :=
  .next (s.request tag 0x21#8 (debounce :: le16 stuck.toNat))

/-- READ_BUTTONS (R18). -/
def execReadButtons (tag : Byte) (s : State) : Result := .next (s.request tag 0x22#8 [])

/-- SET_STATION (R38). -/
def execSetStation (tag station : Byte) (rest idle : BitVec 16) (row column : Byte) (s : State) : Result :=
  .next (s.request tag 0x28#8 ([station] ++ le16 rest.toNat ++ le16 idle.toNat ++ [row, column]))

/-- STATION_COMMAND ONLINE (R22). -/
def execStationCommandOnline (tag station : Byte) (s : State) : Result := .next (s.request tag 0x29#8 [station, 0#8])

/-- STATION_COMMAND OFFLINE (R23). -/
def execStationCommandOffline (tag station : Byte) (s : State) : Result := .next (s.request tag 0x29#8 [station, 1#8])

/-- STATION_COMMAND START (R24). -/
def execStationCommandStart (tag station : Byte) (s : State) : Result := .next (s.request tag 0x29#8 [station, 2#8])

/-- STATION_COMMAND STOP (R31). -/
def execStationCommandStop (tag station : Byte) (s : State) : Result := .next (s.request tag 0x29#8 [station, 3#8])

/-- STATION_COMMAND UNLOCK (R35). -/
def execStationCommandUnlock (tag station : Byte) (s : State) : Result := .next (s.request tag 0x29#8 [station, 4#8])

/-- READ_STATION (R39). -/
def execReadStation (tag station clear : Byte) (s : State) : Result := .next (s.request tag 0x2A#8 [station, clear])

/-- WRITE_CUE (R53). -/
def execWriteCue (tag index kind nextIndex : Byte) (fields : List Byte) (s : State) : Result :=
  .next (s.request tag 0x30#8 (index :: kind :: nextIndex :: fields))

/-- READ_CUE (R54). -/
def execReadCue (tag first count : Byte) (s : State) : Result := .next (s.request tag 0x31#8 [first, count])

/-- VALIDATE_CHAIN (R56). -/
def execValidateChain (tag start : Byte) (s : State) : Result := .next (s.request tag 0x32#8 [start])

/-- ERASE_CUE (R55). -/
def execEraseCue (tag first count : Byte) (s : State) : Result := .next (s.request tag 0x33#8 [first, count])

/-- SET_AXIS (R60, R109). -/
def execSetAxis (tag axis station mode flags runDraw holdDraw : Byte) (softLow softHigh : BitVec 24) (guard : Byte) (jamThreshold : BitVec 16) (jamPersistence : Byte) (s : State) :
    Result :=
  .next (s.request tag 0x40#8 ([axis, station, mode, flags, runDraw, holdDraw] ++
      le24 softLow.toNat ++ le24 softHigh.toNat ++ [guard] ++ le16 jamThreshold.toNat ++ [jamPersistence]))

/-- ARM_AXIS (R61, R49, R111). -/
def execArmAxis (tag axis start followerStart : Byte) (s : State) : Result :=
  .next (s.request tag 0x41#8 [axis, start, followerStart])

/-- DISARM_AXIS (R62, R111). -/
def execDisarmAxis (tag axis : Byte) (s : State) : Result := .next (s.request tag 0x42#8 [axis])

/-- TRIGGER_AXIS (R63, R112). -/
def execTriggerAxis (tag axis : Byte) (s : State) : Result := .next (s.request tag 0x43#8 [axis])

/-- DEMAND_AXIS (R85). -/
def execDemandAxis (tag axis flag : Byte) (s : State) : Result := .next (s.request tag 0x44#8 [axis, flag])

/-- STOP_AXIS (R84, R116). -/
def execStopAxis (tag axis : Byte) (s : State) : Result := .next (s.request tag 0x45#8 [axis])

/-- HALT_AXIS (R84, R117). -/
def execHaltAxis (tag axis : Byte) (s : State) : Result := .next (s.request tag 0x46#8 [axis])

/-- SET_POSITION (R82). -/
def execSetPosition (tag axis : Byte) (position : BitVec 24) (s : State) : Result :=
  .next (s.request tag 0x47#8 (axis :: le24 position.toNat))

/-- READ_AXIS (R86). -/
def execReadAxis (tag axis : Byte) (s : State) : Result := .next (s.request tag 0x48#8 [axis])

/-- SET_BUDGET (R107). -/
def execSetBudget (tag budget policy : Byte) (wait : BitVec 16) (s : State) : Result :=
  .next (s.request tag 0x50#8 ([budget, policy] ++ le16 wait.toNat))

/-- READ_BUDGET (R108). -/
def execReadBudget (tag : Byte) (s : State) : Result := .next (s.request tag 0x51#8 [])

/-- SET_SCAN (R134). -/
def execSetScan (tag startChannel endChannel mode source : Byte) (period : BitVec 16) (sampleTime : Byte) (s : State) :
    Result :=
  .next (s.request tag 0x60#8 ([startChannel, endChannel, mode, source] ++ le16 period.toNat ++ [sampleTime]))

/-- SCAN_ENABLE with the flag at 1 (R121). -/
def execScanEnable (tag : Byte) (s : State) : Result := .next (s.request tag 0x61#8 [1#8])

/-- SCAN_ENABLE with the flag at 0 (R122). -/
def execScanDisable (tag : Byte) (s : State) : Result := .next (s.request tag 0x61#8 [0#8])

/-- SCAN_TRIGGER (R124). -/
def execScanTrigger (tag : Byte) (s : State) : Result := .next (s.request tag 0x62#8 [])

/-- SET_CHANNEL (R135). -/
def execSetChannel (tag channel shift : Byte) (windowLow windowHigh : BitVec 16) (persistence : Byte) (s : State) :
    Result :=
  .next (s.request tag 0x63#8 ([channel, shift] ++ le16 windowLow.toNat ++ le16 windowHigh.toNat ++ [persistence]))

/-- READ_SENSE (R136). -/
def execReadSense (tag : Byte) (channels : List Byte) (s : State) : Result := .next (s.request tag 0x64#8 channels)

/-- READ_ALERTS (R154). -/
def execReadAlerts (tag first count : Byte) (s : State) : Result := .next (s.request tag 0x70#8 [first, count])

/-- ACK_ALERT (R155). -/
def execAckAlert (tag : Byte) (id : BitVec 16) (s : State) : Result := .next (s.request tag 0x71#8 (le16 id.toNat))

/-- CLEAR_ALERT (R156). -/
def execClearAlert (tag : Byte) (id : BitVec 16) (s : State) : Result := .next (s.request tag 0x72#8 (le16 id.toNat))

/-- RAISE_ALERT (R157). -/
def execRaiseAlert (tag severity station code : Byte) (s : State) : Result :=
  .next (s.request tag 0x73#8 [severity, station, code])

/-- SET_ESCALATION (R158). -/
def execSetEscalation (tag : Byte) (note call lockout : BitVec 16) (s : State) : Result :=
  .next (s.request tag 0x74#8 (le16 note.toNat ++ le16 call.toNat ++ le16 lockout.toNat))

/-- WRITE_LAMPS (R166). -/
def execWriteLamps (tag scene startColumn : Byte) (columns : List Byte) (s : State) : Result :=
  .next (s.request tag 0x78#8 (scene :: startColumn :: columns))

/-- READ_LAMPS (R167). -/
def execReadLamps (tag source startColumn count : Byte) (s : State) : Result :=
  .next (s.request tag 0x79#8 [source, startColumn, count])

/-- SHOW_SCENE (R168). -/
def execShowScene (tag scene : Byte) (s : State) : Result := .next (s.request tag 0x7A#8 [scene])

/-- SET_MIRROR (R168). -/
def execSetMirror (tag flag : Byte) (s : State) : Result := .next (s.request tag 0x7B#8 [flag])

end Sys2Proof.Machine
end

