-- ==== Sys2Proof/Machine/Dispatch.lean ====
section
/-! DEFINITION. One arm for each command, each a direct call of its meaning. -/

namespace Sys2Proof.Machine

def exec (i : Instr) (s : State) : Host.Outcome State Fault Refusal :=
  match i with
  | .coldReset => Sys2Proof.Machine.execColdReset s
  | .warmRestart => Sys2Proof.Machine.execWarmRestart s
  | .testItemDone failed => Sys2Proof.Machine.execTestItemDone failed s
  | .buttonSettle b closed => Sys2Proof.Machine.execButtonSettle b closed s
  | .buttonPress b => Sys2Proof.Machine.execButtonPress b s
  | .buttonHold b => Sys2Proof.Machine.execButtonHold b s
  | .buttonStuck b => Sys2Proof.Machine.execButtonStuck b s
  | .buttonRelease b => Sys2Proof.Machine.execButtonRelease b s
  | .restExpiry st => Sys2Proof.Machine.execRestExpiry st s
  | .idleTimeout st => Sys2Proof.Machine.execIdleTimeout st s
  | .stopLineAssert => Sys2Proof.Machine.execStopLineAssert s
  | .stopLineRelease => Sys2Proof.Machine.execStopLineRelease s
  | .endStopChange x side tripped => Sys2Proof.Machine.execEndStopChange x side tripped s
  | .dwellExpiry x => Sys2Proof.Machine.execDwellExpiry x s
  | .rampTick x => Sys2Proof.Machine.execRampTick x s
  | .entryUrgent x => Sys2Proof.Machine.execEntryUrgent x s
  | .conversionComplete result => Sys2Proof.Machine.execConversionComplete result s
  | .periodExpiry => Sys2Proof.Machine.execPeriodExpiry s
  | .triggerFallingEdge => Sys2Proof.Machine.execTriggerFallingEdge s
  | .escalation id => Sys2Proof.Machine.execEscalation id s
  | .blinkPhaseChange clock => Sys2Proof.Machine.execBlinkPhaseChange clock s
  | .byteReceived c stopBit => Sys2Proof.Machine.execByteReceived c stopBit s
  | .gapExpiry => Sys2Proof.Machine.execGapExpiry s
  | .transmitEnd => Sys2Proof.Machine.execTransmitEnd s
  | .badKindRequest tag kind body => Sys2Proof.Machine.execBadKindRequest tag kind body s
  | .hello tag => Sys2Proof.Machine.execHello tag s
  | .status tag clear => Sys2Proof.Machine.execStatus tag clear s
  | .restart tag => Sys2Proof.Machine.execRestart tag s
  | .setEvent tag line enable level action param1 param2 mask => Sys2Proof.Machine.execSetEvent tag line enable level action param1 param2 mask s
  | .readEvents tag => Sys2Proof.Machine.execReadEvents tag s
  | .clearEvents tag lines => Sys2Proof.Machine.execClearEvents tag lines s
  | .setNoticeLevel tag level => Sys2Proof.Machine.execSetNoticeLevel tag level s
  | .setButton tag button polarity role station hold row column => Sys2Proof.Machine.execSetButton tag button polarity role station hold row column s
  | .setButtonTiming tag debounce stuck => Sys2Proof.Machine.execSetButtonTiming tag debounce stuck s
  | .readButtons tag => Sys2Proof.Machine.execReadButtons tag s
  | .setStation tag station rest idle row column => Sys2Proof.Machine.execSetStation tag station rest idle row column s
  | .stationCommandOnline tag station => Sys2Proof.Machine.execStationCommandOnline tag station s
  | .stationCommandOffline tag station => Sys2Proof.Machine.execStationCommandOffline tag station s
  | .stationCommandStart tag station => Sys2Proof.Machine.execStationCommandStart tag station s
  | .stationCommandStop tag station => Sys2Proof.Machine.execStationCommandStop tag station s
  | .stationCommandUnlock tag station => Sys2Proof.Machine.execStationCommandUnlock tag station s
  | .readStation tag station clear => Sys2Proof.Machine.execReadStation tag station clear s
  | .writeCue tag index kind nextIndex fields => Sys2Proof.Machine.execWriteCue tag index kind nextIndex fields s
  | .readCue tag first count => Sys2Proof.Machine.execReadCue tag first count s
  | .validateChain tag start => Sys2Proof.Machine.execValidateChain tag start s
  | .eraseCue tag first count => Sys2Proof.Machine.execEraseCue tag first count s
  | .setAxis tag axis station mode flags runDraw holdDraw softLow softHigh guard jamThreshold jamPersistence => Sys2Proof.Machine.execSetAxis tag axis station mode flags runDraw holdDraw softLow softHigh guard jamThreshold jamPersistence s
  | .armAxis tag axis start followerStart => Sys2Proof.Machine.execArmAxis tag axis start followerStart s
  | .disarmAxis tag axis => Sys2Proof.Machine.execDisarmAxis tag axis s
  | .triggerAxis tag axis => Sys2Proof.Machine.execTriggerAxis tag axis s
  | .demandAxis tag axis flag => Sys2Proof.Machine.execDemandAxis tag axis flag s
  | .stopAxis tag axis => Sys2Proof.Machine.execStopAxis tag axis s
  | .haltAxis tag axis => Sys2Proof.Machine.execHaltAxis tag axis s
  | .setPosition tag axis position => Sys2Proof.Machine.execSetPosition tag axis position s
  | .readAxis tag axis => Sys2Proof.Machine.execReadAxis tag axis s
  | .setBudget tag budget policy wait => Sys2Proof.Machine.execSetBudget tag budget policy wait s
  | .readBudget tag => Sys2Proof.Machine.execReadBudget tag s
  | .setScan tag startChannel endChannel mode source period sampleTime => Sys2Proof.Machine.execSetScan tag startChannel endChannel mode source period sampleTime s
  | .scanEnable tag => Sys2Proof.Machine.execScanEnable tag s
  | .scanDisable tag => Sys2Proof.Machine.execScanDisable tag s
  | .scanTrigger tag => Sys2Proof.Machine.execScanTrigger tag s
  | .setChannel tag channel shift windowLow windowHigh persistence => Sys2Proof.Machine.execSetChannel tag channel shift windowLow windowHigh persistence s
  | .readSense tag channels => Sys2Proof.Machine.execReadSense tag channels s
  | .readAlerts tag first count => Sys2Proof.Machine.execReadAlerts tag first count s
  | .ackAlert tag id => Sys2Proof.Machine.execAckAlert tag id s
  | .clearAlert tag id => Sys2Proof.Machine.execClearAlert tag id s
  | .raiseAlert tag severity station code => Sys2Proof.Machine.execRaiseAlert tag severity station code s
  | .setEscalation tag note call lockout => Sys2Proof.Machine.execSetEscalation tag note call lockout s
  | .writeLamps tag scene startColumn columns => Sys2Proof.Machine.execWriteLamps tag scene startColumn columns s
  | .readLamps tag source startColumn count => Sys2Proof.Machine.execReadLamps tag source startColumn count s
  | .showScene tag scene => Sys2Proof.Machine.execShowScene tag scene s
  | .setMirror tag flag => Sys2Proof.Machine.execSetMirror tag flag s

end Sys2Proof.Machine
end

