-- ==== Sys2Proof/Safety.lean ====
section
/-! DEFINITION. The words in which claims about the part are made: when a request is taken at once, what an event and a request leave,
and the forms that the event lines, the channel records and the alert table keep. -/

namespace Sys2Proof.Machine

/-! ## Outcomes -/

/-- A step is safe when it answers a next state. -/
def Safe (o : Host.Outcome State Fault Refusal) : Prop := ∃ t, o = .next t

/-- The link takes a request at once (R186, R187): the holder and the reply slot are empty, and no grant pass is still due (R104). -/
def State.unoccupied (s : State) : Prop := s.link.holder = none ∧ s.link.slot = none ∧ s.passDue = false

/-- The part in service takes a request at once. -/
def State.attentive (s : State) : Prop := s.part.condition = .inService ∧ s.unoccupied

/-- A reply placed in an empty slot, or begun at once by a FREE transmitter (R187, R188). -/
def State.answer (s : State) (f : Frame) : State :=
  match s.link.tx with
  | .free => { s with link := { s.link with tx := .sendingReply f } }
  | _ => { s with link := { s.link with slot := some f } }

/-- A reply of a status and its fields, placed (R187, R196). -/
def State.reply (s : State) (tag kind : Byte) (st : Status) (fields : List Byte := []) : State :=
  s.answer { tag := tag, kind := kind, body := replyBody st fields }

/-- What an event leaves whose own change takes `s` to `after`: its grant passes (R104), the link's next moves (R175, R187, R188), then
the route actions (R172). -/
def State.eventOutcome (s after : State) : State := drain Config.routeFuel (s.settled after).pump

/-- What a request leaves whose own change takes `s` to `after`: its grant passes, its reply, then the route actions. -/
def State.requestOutcome (s after : State) (tag kind : Byte) (body : List Byte) : State :=
  drain Config.routeFuel ((s.settled after).answer { tag := tag, kind := kind, body := body })

/-- The part in service takes a request at once, and no route action waits to act. -/
def State.listening (s : State) : Prop := s.attentive ∧ s.handed = []

/-- What a request leaves, by its status and the fields of its reply. -/
def State.replyOutcome (s after : State) (tag kind : Byte) (st : Status) (fields : List Byte := []) : State :=
  s.requestOutcome after tag kind (replyBody st fields)

/-! ## A calm millisecond -/

/-- The level that an end-stop sample reads now (R78). -/
def State.stopSample (s : State) (x : AxisId) (side : StopSide) : Bool :=
  (s.axis x).cfg.stopPolarity.trips (s.stopPin x side)

/-- The contact that a button sample reads now (R2). -/
def State.buttonSample (s : State) (b : ButtonId) : Contact := (s.button b).polarity.sample (s.pins.buttons.get b)

/-- The run of agreeing STOP samples after the next one (R150). -/
def State.stopRun (s : State) : Nat :=
  if s.stopLine.sample = some (!s.pins.stop) then min 5 (s.stopLine.run + 1) else 1

/-- The next millisecond is calm in the part in service: nothing waits on the link, no timer reaches its limit, no sample completes a debounce
that changes a level, and no axis moves. -/
def State.calm (s : State) : Prop :=
  s.part.condition = .inService ∧ s.unoccupied ∧ s.handed = [] ∧ s.chosenLine = none ∧
  (s.link.receiver ≠ none → s.link.gapTime + 1 < 21) ∧
  (5 ≤ s.stopRun → s.stopLine.level = some (!s.pins.stop)) ∧
  (s.scanner.triggerLevel = some true → s.pins.trigger = true) ∧
  (∀ n, s.scanner.periodRemaining = some n → 2 ≤ n) ∧
  (∀ b, ∃ l, (s.button b).level = some l ∧
    (s.buttonSample b = l ∨ (s.button b).count + 1 < s.buttonTiming.debounce) ∧
    ((s.button b).state = .pressed → (s.button b).heldTime + 1 < (s.button b).holdThreshold) ∧
    ((s.button b).state = .pressed ∨ (s.button b).state = .held →
      (s.button b).heldTime + 1 < s.buttonTiming.stuckLimit * 1000)) ∧
  (∀ x, (s.axis x).state.moving = false ∧ ((s.axis x).state = .dwelling → 2 ≤ (s.axis x).dwell) ∧
    ∀ side, (s.axis x).lastSample side = some (s.stopSample x side) →
      (s.axis x).stopLevel side = some (s.stopSample x side)) ∧
  (∀ e ∈ s.arbiter.waiting, e.urgent = true ∨ s.arbiter.waitLimit = 0 ∨ e.waited + 1 < s.arbiter.waitLimit) ∧
  (∀ st, ((s.station st).state = .resting → 2 ≤ (s.station st).restRemaining) ∧
    ((s.station st).idleLimit = 0 ∨ (s.station st).idleTime + 1 < (s.station st).idleLimit * 1000)) ∧
  ∀ r ∈ s.alerts.records, r.acked = true ∨ 3 ≤ r.level ∨ r.timeInLevel + 1 < s.intervalMs r.severity

/-! ## Forms -/

/-- An event line's form (R170, Table 10-3): with its flag clear it has no causes, no announced mark and no details; with its flag set it
has a cause; its causes are causes of its class. -/
def Line.formed (ln : Line) (l : LineId) : Prop :=
  (ln.flag = false → ln.causes = 0#16 ∧ ln.announced = false ∧ ln.details = Details.absent) ∧
    (ln.flag = true → ln.causes ≠ 0#16) ∧ ln.causes.toNat < 2 ^ (lineClass l).causeCount

/-- Every event line has its form. -/
def State.linesFormed (s : State) : Prop := ∀ l, (s.line l).formed l

/-- A channel's values lie in their ranges (Table 7-3, R129). -/
def Channel.inBounds (r : Channel) : Prop := r.raw ≤ 1023 ∧ r.filtered ≤ 1023

/-- Every channel's values lie in their ranges. -/
def State.channelsInBounds (s : State) : Prop := ∀ c, (s.channel c).inBounds

/-- A profile's fields fit the table (Table 3-1). -/
def Profile.held (p : Profile) : Prop := p.f ≤ 65535 ∧ p.v ≤ 65535 ∧ p.a ≤ 65535

/-- A signed value that three bytes hold. -/
def signed24 (z : Int) : Prop := -8388608 ≤ z ∧ z ≤ 8388607

/-- A cue entry's fields are such as the table holds (Table 3-1). -/
def CueBody.held : CueBody → Prop
  | .empty => True
  | .move steps p seek =>
    -2147483648 ≤ steps ∧ steps ≤ 2147483647 ∧ p.held ∧ ∀ side home, seek = some (side, home) → signed24 home
  | .moveTo target p => signed24 target ∧ p.held
  | .dwell ms => 1 ≤ ms ∧ ms ≤ 60000
  | .scene _ => True
  | .mark code => code ≤ 255

/-- An axis configuration's fields lie in their ranges (Table 4-1). -/
def AxisConfig.held (c : AxisConfig) : Prop :=
  1 ≤ c.runDraw ∧ c.runDraw ≤ 15 ∧ c.holdDraw ≤ 3 ∧ c.holdDraw ≤ c.runDraw ∧ signed24 c.softLow ∧ signed24 c.softHigh ∧
    c.softLow ≤ c.softHigh ∧ c.jamThreshold ≤ 1023 ∧ 1 ≤ c.jamPersistence ∧ c.jamPersistence ≤ 15

/-- The three fields that identify a record (R138). -/
def Alert.identity (r : Alert) : AlertKind × Nat × Option StationId := (r.kind, r.source, r.station)

/-- The alert table's form (R138): at most 16 records, no two with one identity, ids 1..65,535 of which no two are the same, and a next id
that none holds. -/
def AlertTable.formed (t : AlertTable) : Prop :=
  t.records.length ≤ 16 ∧ (t.records.map Alert.identity).Nodup ∧ (t.records.map (·.id)).Nodup ∧
    (∀ r ∈ t.records, 1 ≤ r.id ∧ r.id ≤ 65535) ∧ 1 ≤ t.nextId ∧ t.nextId ≤ 65535 ∧
    ∀ r ∈ t.records, r.id ≠ t.nextId

/-! ## What every run keeps -/

/-- The pin counts (R46, R47): a DISARMED axis has no armed chain, no chain holds an entry twice, and an entry's pin count is the number of axes
whose armed chain holds it. -/
def State.pinsCounted (s : State) : Prop :=
  (∀ x, (s.axis x).state = .disarmed → (s.axis x).chain = []) ∧ (∀ x, (s.axis x).chain.Nodup) ∧
    ∀ i, (s.cue i).pins = (allAxes.filter fun x => i ∈ (s.axis x).chain).length

/-- The armed chains (R46, R61, R70): the chain of an axis that is not DISARMED is what the walk from its start cue finds now, and its current
cue is END or an entry of it. -/
def State.chainsWalked (s : State) : Prop :=
  ∀ x, (s.axis x).state ≠ .disarmed → ∃ i, (s.axis x).start = some i ∧ s.walk i = .ok (s.axis x).chain ∧
    ((s.axis x).current = some .chainStop ∨ ∃ j ∈ (s.axis x).chain, (s.axis x).current = some (.entry j))

/-- The pairs (R109, R110, R113, R116): a leader with its pair flag on runs in BLOCK or REHEARSE mode and shares its follower's station; a pair's
run is set while a member is RUNNING, DWELLING or STOPPING, and only while one is active; no member is PAUSED or about to be. -/
def State.pairsFormed (s : State) : Prop :=
  ∀ x, isLeader x = true →
    let run := (s.pair x).run
    ((s.axis x).cfg.pair = false → run = false) ∧
    (run = true → s.isActive x = true ∨ s.isActive (followerOf x) = true) ∧
    ((s.axis x).cfg.pair = true →
      ((s.axis x).cfg.mode = .block ∨ (s.axis x).cfg.mode = .rehearse) ∧
      (s.axis (followerOf x)).cfg.station = (s.axis x).cfg.station ∧
      ∀ m, m = x ∨ m = followerOf x →
        (s.axis m).state ≠ .paused ∧ ((s.axis m).state = .stopping → (s.axis m).disposition ≠ some .pause) ∧
        ((s.axis m).state = .running ∨ (s.axis m).state = .dwelling ∨ (s.axis m).state = .stopping → run = true))

/-- The pending list (R101, R102): at most one entry for an axis, each for a PENDING axis or for a pair both of whose members are PENDING before
their run, with the increase their draws ask for; and no axis is PENDING without an entry of its own or of its pair's leader. -/
def State.pendingListed (s : State) : Prop :=
  (s.arbiter.waiting.map (·.axis)).Nodup ∧
  (∀ e ∈ s.arbiter.waiting,
    e.pair = s.paired e.axis ∧ e.increase = s.requestedIncrease e.axis ∧ (s.axis e.axis).state = .pending ∧
    (e.pair = true →
      isLeader e.axis = true ∧ (s.axis (followerOf e.axis)).state = .pending ∧ (s.pair e.axis).run = false)) ∧
  ∀ x, (s.axis x).state = .pending → ∃ e ∈ s.arbiter.waiting, e.axis = s.waitKey x

/-- The guards (R52, R122): the scanner is on, with the guard channel in its range, for every axis that is not DISARMED and has one. -/
def State.guardsCovered (s : State) : Prop :=
  ∀ x c, (s.axis x).state ≠ .disarmed → (s.axis x).cfg.guard = some c → s.scanner.covers c = true

/-- The soft limits (R64, R82): every position lies within its axis's limits, and what is left of a loaded segment leads to no place outside
them. A pair's members load only at their grant (R112). -/
def State.withinLimits (s : State) : Prop :=
  ∀ x,
    let a := s.axis x
    a.cfg.softLow ≤ a.position ∧ a.position ≤ a.cfg.softHigh ∧
    (s.rehearses x = false →
      a.state = .running ∨ a.state = .stopping ∨ a.state = .paused ∨ (a.state = .pending ∧ s.paired x = false) →
      a.remN ≤ a.cfg.room a.position a.dir)

/-- What every step keeps, taken together. -/
def State.coherent (s : State) : Prop :=
  s.pinsCounted ∧ s.chainsWalked ∧ s.pairsFormed ∧ s.pendingListed ∧ s.guardsCovered ∧ s.withinLimits

/-- The drive budget (R100, R60, R110): the total allocation is at most B, no hold draw is above its run draw, and the run sum that the
leader of a run carries is at least the hold draws it will fall back to. -/
def State.withinBudget (s : State) : Prop :=
  s.totalAllocation ≤ s.arbiter.budget ∧ (∀ x, (s.axis x).cfg.holdDraw ≤ (s.axis x).cfg.runDraw) ∧
    ∀ x, isLeader x = true → (s.pair x).run = true → s.rehearses x = false →
      (s.axis x).heldDraw + (s.axis (followerOf x)).heldDraw ≤ (s.pair x).runSum

end Sys2Proof.Machine
end

