-- ==== Sys2Proof/Certificates/Slice0/Obligations.lean ====
section
/-! DEFINITION. The statements about the part, each from the rules of spec/ that its entry of OBLIGATIONS.json cites. -/

open Sys2Proof Sys2Proof.Machine


/-! ## Steps -/

/-- A step takes the command at the front of the queue and runs it on the state with the queue's rest (log entry 1). -/
def Obligations.StepRunsFrontCommand : Prop :=
  ∀ (c : Instr) (rest : List Instr) (s : State), s.pending = c :: rest → step s = exec c { s with pending := rest }

/-- With no command waiting, a step is one millisecond of the timebase: the uptime rises by 1 and wraps after 2^32 − 1, and the
rest of the part record, the input pins and the queue stand. That an empty queue is a millisecond is the model's choice (log
entry 1). In a calm part in service the millisecond is its counts and samples alone: the debounce of a button, of an end stop
and of the STOP line (R3, R78, R150), the held time (R6), the rest (R28), the idle time (R29), the dwell (R68), the elapsed
time of a rehearsal (R83), the waited time (R103), the period (R125), the time in level (R145), the blink clocks (R164) and the
gap time (R184); nothing else of the part moves. -/
def Obligations.EmptyQueueIsOneMillisecond : Prop :=
  (∀ s : State, s.pending = [] → ∃ t : State, step s = .next t ∧
    t.part = { s.part with uptime := s.part.uptime + 1#32 } ∧ t.pins = s.pins ∧ t.pending = []) ∧
  (∀ s : State, s.pending = [] → s.calm → ∃ t : State, step s = .next t ∧
    t =
      { s with
        part := { s.part with uptime := s.part.uptime + 1#32 }
        buttons := t.buttons
        stations := t.stations
        axes := t.axes
        arbiter :=
          { s.arbiter with waiting := s.arbiter.waiting.map fun e => { e with waited := min 65535 (e.waited + 1) } }
        scanner :=
          { s.scanner with
            periodRemaining := s.scanner.periodRemaining.map fun n => n - 1
            triggerLevel := some s.pins.trigger }
        alerts :=
          { s.alerts with
            records := s.alerts.records.map fun r =>
              if r.acked then r else { r with timeInLevel := min 3600000 (r.timeInLevel + 1) } }
        lamps :=
          { s.lamps with
            slow :=
              if 500 ≤ s.lamps.slow.time + 1 then { on := !s.lamps.slow.on, time := 0 }
              else { s.lamps.slow with time := s.lamps.slow.time + 1 }
            fast :=
              if 125 ≤ s.lamps.fast.time + 1 then { on := !s.lamps.fast.on, time := 0 }
              else { s.lamps.fast with time := s.lamps.fast.time + 1 } }
        link :=
          { s.link with gapTime := if s.link.receiver.isSome then s.link.gapTime + 1 else s.link.gapTime }
        stopLine := { s.stopLine with sample := some (!s.pins.stop), run := s.stopRun } } ∧
    (∀ b, t.button b =
      { s.button b with
        count := if (s.button b).level = some (s.buttonSample b) then 0 else (s.button b).count + 1
        heldTime :=
          if (s.button b).state = .released then (s.button b).heldTime else min 16777215 ((s.button b).heldTime + 1) }) ∧
    (∀ st, t.station st =
      { s.station st with
        restRemaining :=
          if (s.station st).state = .resting then (s.station st).restRemaining - 1 else (s.station st).restRemaining
        idleTime :=
          if s.idleRuns st then min 600000 ((s.station st).idleTime + 1) else (s.station st).idleTime }) ∧
    ∀ x, t.axis x =
      { s.axis x with
        lowSample := some (s.stopSample x .low)
        highSample := some (s.stopSample x .high)
        dwell := if (s.axis x).state = .dwelling then (s.axis x).dwell - 1 else (s.axis x).dwell
        elapsed :=
          if s.rehearses x ∧ s.isActive x then min 16777215 ((s.axis x).elapsed + 1) else (s.axis x).elapsed
        stepPulses := 0 })

/-- No command stops the part and none touches the queue of waiting commands: every command of every state answers a next state
with the queue it found. That an event command outside its states answers the state unchanged is the model's choice (log entry
9). -/
def Obligations.ExecKeepsTheQueue : Prop :=
  ∀ (c : Instr) (s : State), (∃ t : State, exec c s = .next t) ∧ ∀ t : State, exec c s = .next t → t.pending = s.pending

/-! ## Invariants -/

/-- Every step keeps the form of every event line (R170). -/
def Obligations.StepKeepsLineForm : Prop :=
  ∀ s t : State, s.linesFormed → step s = .next t → t.linesFormed

/-- Every step keeps the raw and the filtered value of every channel within 0..1023 (R129). -/
def Obligations.StepKeepsChannelBounds : Prop :=
  ∀ s t : State, s.channelsInBounds → step s = .next t → t.channelsInBounds

/-- Every step keeps the alert table's form: at most 16 records, no two of one identity, distinct ids, a free next id (R138).
-/
def Obligations.StepKeepsAlertTableForm : Prop :=
  ∀ s t : State, s.alerts.formed → step s = .next t → t.alerts.formed

/-- Every step keeps the pin counts: each entry's count is the number of axes that are not DISARMED and whose armed chain holds
the entry (R46, R47). -/
def Obligations.StepKeepsPinCounts : Prop :=
  ∀ s t : State, s.pinsCounted → step s = .next t → t.pinsCounted

/-- Every step from a coherent state leaves the pairs in their form and every armed chain as the walk finds it: no entry of an
armed chain changes, and the current cue never leaves the chain (R46, R70, R109, R116). With the other statements on coherent
states this makes `State.coherent` an invariant. -/
def Obligations.StepKeepsPairsAndChains : Prop :=
  ∀ s t : State, s.coherent → step s = .next t → t.pairsFormed ∧ t.chainsWalked

/-- Every step from a coherent state leaves a pending list that holds exactly the PENDING axes and the leaders of PENDING
pairs, each once and with the increase its draws ask for (R101, R102). -/
def Obligations.StepKeepsPendingList : Prop :=
  ∀ s t : State, s.coherent → step s = .next t → t.pendingListed

/-- Every step from a coherent state leaves the scanner on, with the guard channel in its scan range, for every axis that is
not DISARMED and has a guard channel (R122, R52). -/
def Obligations.StepKeepsGuards : Prop :=
  ∀ s t : State, s.coherent → step s = .next t → t.guardsCovered

/-- Every step from a coherent state leaves every position within its axis's soft limits, and no loaded segment that would lead
out of them (R82, R64). -/
def Obligations.StepKeepsSoftLimits : Prop :=
  ∀ s t : State, s.coherent → step s = .next t → t.withinLimits

/-- Every step from a coherent state leaves the total allocation at or below the budget total B (R100), the dissolution of a
pair included (R109), where the model keeps the total as log entry 15 says. -/
def Obligations.StepKeepsBudget : Prop :=
  ∀ s t : State, s.coherent → s.withinBudget → step s = .next t → t.withinBudget

/-- What the statements on steps keep holds after reset. -/
def Obligations.ResetMeetsInvariants : Prop :=
  State.reset.linesFormed ∧ State.reset.channelsInBounds ∧ State.reset.alerts.formed ∧ State.reset.coherent ∧
    State.reset.withinBudget

/-! ## Starts and the start-up test -/

/-- The reset value of every part of the state that the spec tables (Tables 1-1 to 11-1 and the start-up words). A cold reset
leaves every value of the part at its reset value, from any state; the input pins and the queue are the world's (log entries 4
and 1). The fields that the model adds beside the tables' (log entries 3, 13, 15 and 18) are `available`, the two stop samples,
the restart wait, the mark `asLeft`, the STOP line's samples, a pair's `runSum` and `kept`. -/
def Obligations.ResetAndColdReset : Prop :=
  ((∀ b, State.reset.button b =
      { polarity := .closedLow, role := .roleNone, station := none, holdThreshold := 1000, cell := none, level := none,
        provisional := none, count := 0, state := .released, heldTime := 0 }) ∧
    State.reset.buttonTiming = { debounce := 10, stuckLimit := 120 } ∧
    (∀ st, State.reset.station st =
      { restTime := 50, idleLimit := 0, cell := none, state := .offline, restRemaining := 0, idleTime := 0, shows := 0,
        refused := 0, latch := false }) ∧
    (∀ i, State.reset.cue i = { body := .empty, next := .chainStop, pins := 0 }) ∧
    (∀ x, State.reset.axis x =
      { cfg :=
          { station := none, mode := .block, pair := false, repeats := false, runDraw := 4, holdDraw := 1,
            softLow := -8388608, softHigh := 8388607, invert := false, stopPolarity := .closedLow, guard := none,
            jamThreshold := 1023, jamPersistence := 3 }
        state := .disarmed, chain := [], start := none, current := none, segN := 0, remN := 0, dir := .up, seek := none,
        rate := 0, acc := 0, phase := .accel, position := 0, valid := false, dwell := 0, restartWait := false,
        hostDemand := false, jamCount := 0, elapsed := 0, virtual := 0, disposition := none, lowLevel := none,
        highLevel := none, lowSample := none, highSample := none, dirLevel := false, stepPulses := 0, asLeft := false }) ∧
    State.reset.arbiter = { budget := 16, policy := .fixed, waitLimit := 2000, pointer := 7, waiting := [] } ∧
    State.reset.totalAllocation = 0 ∧
    (∀ x, State.reset.pair x = { run := false, endFlag := false, loops := 0, runSum := 0 }) ∧
    State.reset.scanner =
      { startCh := 0, endCh := 0, mode := .once, source := .software, period := 100, sampleTime := 16, state := .off,
        periodRemaining := none, triggerLevel := none } ∧
    (∀ c, State.reset.channel c =
      { raw := 0, filtered := 0, seeded := false, fresh := false, overrun := false, shift := 0, windowLow := 0,
        windowHigh := 1023, persistence := 1, window := none, candidate := none, candidateCount := 0 }) ∧
    State.reset.alerts =
      { records := [], nextId := 1, noteInterval := 300, callInterval := 120, lockoutInterval := 60 } ∧
    State.reset.stopLine = { level := none, sample := none, run := 0 } ∧
    (∀ n c, State.reset.column n c = 0#8) ∧ State.reset.lamps.display = 0 ∧ State.reset.lamps.mirror = false ∧
    State.reset.lamps.slow = { on := true, time := 0 } ∧ State.reset.lamps.fast = { on := true, time := 0 } ∧
    State.reset.noticeLevel = 0 ∧
    (∀ l, State.reset.line l =
      { flag := false, causes := 0#16, announced := false,
        details := { mark := none, chainEnd := none, pairEnd := none, alert := none, start := none },
        enable := decide (l = 42), level := if l = 42 then 7 else 1, action := .nothing, mask := 0#16 }) ∧
    State.reset.link =
      { receiver := none, gapTime := 0, holder := none, slot := none, tx := .free, gapCount := 0, sumCount := 0,
        overrunCount := 0 } ∧
    State.reset.part =
      { condition := .testing, startKind := .cold, progress := 0#8, failure := 0#8, uptime := 0#32,
        available := { motion := false, lamps := false, scanner := false, beacon := true } } ∧
    State.reset.kept = none) ∧
  (∀ s : State, exec .coldReset s = .next { State.reset with pins := s.pins, pending := s.pending })

/-- The end of the reply OK to RESTART begins a warm restart: every value takes its reset value, but for the cue entries
without their pins and the lamp scenes, both as they stood when RESTART was taken (R40, R159; log entry 18), the uptime, bits 0
and 1 of the failure word, the availabilities (log entry 3), the input pins (log entry 4) and the queue (log entry 1).
WARM_RESTART elsewhere changes nothing (log entry 9). -/
def Obligations.WarmRestartKeepsCuesScenesUptime : Prop :=
  ∀ s : State,
    (∀ tag : Byte, s.link.tx = .sendingReply { tag := tag, kind := 0x83#8, body := [0#8] } →
      let taken : RestartCopy := s.kept.getD { cues := s.cues, scenes := s.lamps.scenes }
      exec .warmRestart s = exec .transmitEnd s ∧
      exec .warmRestart s = .next
        { State.reset with
          part :=
            { State.reset.part with
              startKind := .warm
              failure := s.part.failure &&& 3#8
              available := { s.part.available with beacon := true }
              uptime := s.part.uptime }
          cues := taken.cues.map fun e => { e with pins := 0 }
          lamps := { State.reset.lamps with scenes := taken.scenes }
          pins := s.pins
          pending := s.pending }) ∧
    ((∀ tag : Byte, s.link.tx ≠ .sendingReply { tag := tag, kind := 0x83#8, body := [0#8] }) →
      exec .warmRestart s = .next s)

/-- The end of a test item sets its progress bit, and its failure bit when it failed; after the last item due the test ends
(R189, R191). Outside the test, and with no item due left, there is no item to end (log entry 9). The end of the test sets the
availabilities and the part condition from the failure word, and nothing else of the part record (R190); then it raises one
SELF_TEST alert for each failure bit in ascending order, applies a STOP line that is asserted, and posts STARTED with the start
kind (R191). -/
def Obligations.TestItemAndTestEnd : Prop :=
  (∀ (failed : Bool) (s : State),
      (s.part.condition ≠ .testing → exec (.testItemDone failed) s = .next s) ∧
      (s.part.condition = .testing → ∀ (i : Nat) (rest : List Nat), s.part.remaining = i :: rest →
        exec (.testItemDone failed) s = .next (s.eventOutcome
          (let p : Part :=
              { s.part with
                progress := s.part.progress ||| (1#8 <<< i)
                failure := if failed then s.part.failure ||| (1#8 <<< i) else s.part.failure }
           if rest = [] then { s with part := p }.testEnd else { s with part := p }))) ∧
      (s.part.condition = .testing → s.part.remaining = [] → exec (.testItemDone failed) s = .next (s.eventOutcome s))) ∧
  (∀ s : State,
      s.part.remaining =
        (if s.part.startKind = .cold then [0, 1, 2, 3, 4, 5, 6, 7] else [2, 3, 4, 5, 6, 7]).filter
          fun i => !s.part.progress.getLsbD i) ∧
  (∀ s : State,
      let ended : Part :=
        { s.part with
          condition := if s.part.failure.getLsbD 2 then .failed else .inService
          available :=
            { motion := !(s.part.failure.getLsbD 0 || s.part.failure.getLsbD 5)
              lamps := !(s.part.failure.getLsbD 1 || s.part.failure.getLsbD 6)
              scanner := !(s.part.failure.getLsbD 3 || s.part.failure.getLsbD 4)
              beacon := !s.part.failure.getLsbD 7 } }
      let tested := ([0, 1, 2, 3, 4, 5, 6, 7].filter fun i => s.part.failure.getLsbD i).foldl
        (fun t i => (t.raise .selfTest .call i none).1) { s with part := ended }
      let stopped :=
        if s.stopLine.level = some true then
          ((allAxes.foldl (fun t x => t.halt x .halted) tested).raise .stopLine .lockout 0 none).1
        else tested
      s.testEnd.part = ended ∧
      s.testEnd = stopped.post systemLine .started (fun d => { d with start := some s.part.startKind }))

/-- An event command whose event cannot happen in the state changes nothing (log entry 9). -/
def Obligations.ImpossibleEventsChangeNothing : Prop :=
  ∀ s : State,
    (∀ b closed, s.part.condition ≠ .inService ∨ (s.button b).level ≠ none → exec (.buttonSettle b closed) s = .next s) ∧
    (∀ b, s.part.condition ≠ .inService ∨ (s.button b).state ≠ .released ∨ (s.button b).level ≠ some .opened →
      exec (.buttonPress b) s = .next s) ∧
    (∀ b, s.part.condition ≠ .inService ∨ (s.button b).state ≠ .pressed → exec (.buttonHold b) s = .next s) ∧
    (∀ b, s.part.condition ≠ .inService ∨ ((s.button b).state ≠ .pressed ∧ (s.button b).state ≠ .held) →
      exec (.buttonStuck b) s = .next s) ∧
    (∀ b, s.part.condition ≠ .inService ∨ (s.button b).state = .released → exec (.buttonRelease b) s = .next s) ∧
    (∀ st, (s.station st).state ≠ .resting → exec (.restExpiry st) s = .next s) ∧
    (∀ st, (s.station st).idleLimit = 0 ∨ s.idleRuns st = false → exec (.idleTimeout st) s = .next s) ∧
    (∀ x side tripped, s.part.condition = .testing → exec (.endStopChange x side tripped) s = .next s) ∧
    (∀ x, (s.axis x).state ≠ .dwelling → exec (.dwellExpiry x) s = .next s) ∧
    (∀ x, (s.axis x).state ≠ .running ∧ (s.axis x).state ≠ .stopping → exec (.rampTick x) s = .next s) ∧
    (∀ x, (∀ e ∈ s.arbiter.waiting, e.axis ≠ x) → exec (.entryUrgent x) s = .next s) ∧
    (∀ result, s.scanner.state = .off ∨ s.scanner.state = .idle → exec (.conversionComplete result) s = .next s) ∧
    (s.scanner.state = .off ∨ s.scanner.source ≠ .period → exec .periodExpiry s = .next s) ∧
    (s.part.condition = .testing →
      exec .triggerFallingEdge s = .next s ∧ (∀ id, exec (.escalation id) s = .next s) ∧
        ∀ clock, exec (.blinkPhaseChange clock) s = .next s) ∧
    (s.link.receiver = none → exec .gapExpiry s = .next s) ∧
    (s.link.tx = .free → exec .transmitEnd s = .next s)

/-! ## The end of an event -/

/-- An event that marks no pass, lowers no allocation and hands no route action over leaves its own change and at most a
notice: with the holder and the slot empty, a FREE transmitter takes the chosen line's notice and the line is announced (R174,
R175). The chosen line is the candidate of the highest level, and of the lowest number among equals; a candidate has its flag
set, is enabled and not announced, and has a level above the notice level (R174). The bodies are those of Table 12-10; that an
absent current cue goes out as 0xFE is log entry 22, and that a boolean byte of its own goes out as 0 or 1 log entry 25. -/
def Obligations.EventEndsWithTheBestNotice : Prop :=
  (∀ s after : State, after.passDue = false → ¬ after.totalAllocation < s.totalAllocation → after.handed = [] →
      after.link.holder = none → after.link.slot = none →
      (after.link.tx ≠ .free → s.eventOutcome after = after) ∧
      (after.link.tx = .free → after.chosenLine = none → s.eventOutcome after = after) ∧
      (∀ l, after.link.tx = .free → after.chosenLine = some l →
        s.eventOutcome after =
          { after.putLine l { after.line l with announced := true } with
            link := { after.link with tx := .sendingNotice { tag := 0#8, kind := 0xFE#8, body := after.noticeBody l } } })) ∧
  (∀ s : State,
      (∀ l, s.chosenLine = some l →
        s.candidate l = true ∧
          ∀ m, s.candidate m = true → (s.line m).level < (s.line l).level ∨ ((s.line m).level = (s.line l).level ∧ l ≤ m)) ∧
      (s.chosenLine = none → ∀ m, s.candidate m = false)) ∧
  (∀ (s : State) (l : LineId), s.candidate l = true ↔
      s.part.condition = .inService ∧ (s.line l).flag = true ∧ (s.line l).enable = true ∧ (s.line l).announced = false ∧
        s.noticeLevel < (s.line l).level) ∧
  (∀ s : State,
      let head := fun l : LineId => [byteOf l.val, byteOf (s.line l).level] ++ le16 (s.line l).causes.toNat
      (∀ b : ButtonId, s.noticeBody (buttonLine b) = head (buttonLine b) ++
        ([byteOf (buttonStateCode (s.button b).state), byteOf (levelCode (s.button b).level)] ++
          le24 (s.button b).heldTime ++
          [byteOf (roleCode (s.button b).role), byteOf (stationCode (s.button b).station)])) ∧
      (∀ x : AxisId, s.noticeBody (axisLine x) = head (axisLine x) ++
        ((let d := (s.line (axisLine x)).details
          [byteOf (flagByte [d.mark.isSome, d.chainEnd.isSome, d.pairEnd.isSome]), byteOf (d.mark.getD 0)] ++
            le24 (d.chainEnd.getD 0) ++ [byteOf (d.pairEnd.getD 0)]) ++
          ([byteOf (axisStateCode (s.axis x).state), byteOf (currentCode (s.axis x).current)] ++
            leInt24 (s.axis x).position ++ [byteOf (flagCode (s.axis x).valid)] ++ le24 (s.axis x).segN ++
            le24 (s.axis x).remN ++ [byteOf (s.allocation x), byteOf (dispositionCode (s.axis x).disposition)]))) ∧
      (∀ c : ChannelId, s.noticeBody (channelLine c) = head (channelLine c) ++
        (le16 (s.channel c).raw ++ le16 (s.channel c).filtered ++
          [byteOf (windowCode (s.channel c).window),
            byteOf (flagByte [(s.channel c).seeded, (s.channel c).fresh, (s.channel c).overrun])])) ∧
      (∀ st : StationId, s.noticeBody (stationLine st) = head (stationLine st) ++
        (byteOf (stationStateCode (s.station st).state) :: le32 (s.station st).restRemaining ++
          le16 (s.station st).shows ++ le16 (s.station st).refused ++ [byteOf (flagCode (s.station st).latch)])) ∧
      s.noticeBody scannerLine = head scannerLine ++
        [byteOf (scanStateCode s.scanner.state), byteOf (channelCode (currentChannel s.scanner.state)),
          byteOf (scanModeCode s.scanner.mode), byteOf (scanSourceCode s.scanner.source), byteOf s.scanner.startCh.val,
          byteOf s.scanner.endCh.val] ∧
      s.noticeBody alertLine = head alertLine ++
        ((match (s.line alertLine).details.alert with
          | none => List.replicate 10 0#8
          | some r => 1#8 :: le16 r.id ++
            [byteOf (alertKindCode r.kind), byteOf (severityCode r.severity), byteOf (stationCode r.station),
              byteOf r.source, byteOf (flagCode r.acked), byteOf r.level, byteOf r.repeats]) ++
          (byteOf s.alerts.records.length ::
            [byteOf (s.raisedCount .note), byteOf (s.raisedCount .call), byteOf (s.raisedCount .lockout)] ++
            [byteOf (patternCode s.notePattern), byteOf (patternCode s.callPattern),
              byteOf (patternCode s.sounderPattern)])) ∧
      s.noticeBody systemLine = head systemLine ++
        ((match (s.line systemLine).details.start with
          | none => 0#8
          | some k => byteOf (startKindCode k)) ::
          ([s.part.progress, s.part.failure,
            byteOf (flagByte
              [s.part.available.motion, s.part.available.lamps, s.part.available.scanner, s.part.available.beacon]),
            byteOf s.link.gapCount, byteOf s.link.sumCount, byteOf s.link.overrunCount] ++ le32 s.part.uptime.toNat)))

/-- The arrival of a cause in service (R170): the flag is set; a cause new to the set is added and the line loses its announced
mark, and a known one leaves both; the details take the value; the route's action is handed over when the cause is in the mask;
and no other line changes. Outside service the event table discards the cause. The oldest action handed over acts, with its
passes and the link's next moves, before the next (R172; log entry 7): START_STATION is a station start, whose axes are
triggered in ascending order (log entry 19), SCAN a trigger of the SOFTWARE source, which starts a scan in IDLE alone (R123),
and RAISE_ALERT a raise of a ROUTED alert whose source is the line. -/
def Obligations.ArrivalIsTakenWhole : Prop :=
  (∀ (s : State) (l : LineId) (c : Cause) (d : Details → Details),
    (s.part.condition ≠ .inService → s.post l c d = s) ∧
    (s.part.condition = .inService →
      ((s.post l c d).line l).flag = true ∧
      ((s.post l c d).line l).causes = (s.line l).causes ||| (1#16 <<< c.bit) ∧
      ((s.post l c d).line l).announced = ((s.line l).announced && (s.line l).causes.getLsbD c.bit) ∧
      ((s.post l c d).line l).details = d (s.line l).details ∧
      ((s.post l c d).line l).enable = (s.line l).enable ∧ ((s.post l c d).line l).level = (s.line l).level ∧
      (s.post l c d).handed =
        (if (s.line l).mask.getLsbD c.bit then s.handed ++ [(l, (s.line l).action)] else s.handed) ∧
      ∀ m, m ≠ l → (s.post l c d).line m = s.line m)) ∧
  (∀ (s : State) (n : Nat) (l : LineId) (act : RouteAction) (rest : List (LineId × RouteAction)),
    s.handed = (l, act) :: rest →
    drain (n + 1) s =
      drain n ({ s with handed := rest }.settled ({ s with handed := rest }.routeActs l act)).pump) ∧
  (∀ (s : State) (l : LineId),
    s.routeActs l .nothing = s ∧
    s.routeActs l .scan =
      (if s.scanner.source = .software ∧ s.scanner.state = .idle then
        { s with scanner := { s.scanner with state := .scanning s.scanner.startCh } }
       else s) ∧
    (∀ st : StationId,
      let chosen := allAxes.filter (s.startSelects st)
      ((s.station st).state = .ready → chosen ≠ [] →
        s.routeActs l (.startStation st) =
          (chosen.foldl (fun t x => t.trigger x)
            ((s.putStation st
              { s.station st with
                state := .showing, idleTime := 0, shows := min 65535 ((s.station st).shows + 1) }).post
              (stationLine st) .showing)).testActivity st) ∧
      ((s.station st).state ≠ .ready ∨ chosen = [] →
        s.routeActs l (.startStation st) =
          (s.putStation st { s.station st with refused := min 65535 ((s.station st).refused + 1) }).post
            (stationLine st) .stationRefused)) ∧
    (∀ (sev : Severity) (target : Option StationId),
      let mine := fun r : Alert => r.kind = .routed ∧ r.source = l.val ∧ r.station = target
      (∀ r, s.alerts.records.find? (fun q => mine q) = some r →
        s.routeActs l (.raiseAlert sev target) = s.mergeAlert r sev) ∧
      ((∀ r ∈ s.alerts.records, ¬ mine r) → s.alerts.records.length < 16 →
        s.routeActs l (.raiseAlert sev target) = s.appendAlert .routed sev l.val target) ∧
      (∀ v, (∀ r ∈ s.alerts.records, ¬ mine r) → 16 ≤ s.alerts.records.length →
        s.alerts.records.find? (fun r => r.severity = .note && r.acked) = some v →
        s.routeActs l (.raiseAlert sev target) = (s.removeRecord v).appendAlert .routed sev l.val target) ∧
      ((∀ r ∈ s.alerts.records, ¬ mine r) → 16 ≤ s.alerts.records.length →
        (∀ r ∈ s.alerts.records, r.severity = .note → r.acked = false) →
        s.routeActs l (.raiseAlert sev target) = s.loseAlert .routed sev l.val target)))

/-! ## Buttons -/

/-- A button that settles takes its debounced level silently; a HOLD button's demand follows (R4, R12). A debounced open posts
RELEASE; a STUCK button's alert loses its condition, and a HOLD button's demand follows otherwise (R8, R12). A PRESSED button
whose held time reaches its threshold below the stuck limit posts HOLD, and an ACK button clears an alert (R6, R13). At the
stuck limit BUTTON_HOLD and BUTTON_STUCK come to the same. A PRESSED or HELD button whose held time reaches the stuck limit
posts STUCK and raises its alert, and no longer counts for demand (R6, R7, R12). What becomes of the record of a STUCK button
that is released, where R7 meets R148, is log entry 27. -/
def Obligations.ButtonSettleReleaseHoldAndStuck : Prop :=
  (∀ (b : ButtonId) (closed : Bool) (s : State), s.part.condition = .inService → (s.button b).level = none →
      exec (.buttonSettle b closed) s = .next (s.eventOutcome
        (let c : Contact := if closed then .closed else .opened
         let u := s.setButtonPin b c
         let v := u.putButton b
          { s.button b with
            level := some c, provisional := none, count := 0, state := if closed then .pressed else .released,
            heldTime := 0 }
         if (s.button b).role = .roleHold then u.demandAfter v b else v))) ∧
  (∀ (b : ButtonId) (s : State), s.part.condition = .inService → (s.button b).state ≠ .released →
      exec (.buttonRelease b) s = .next (s.eventOutcome
        (let u := s.setButtonPin b .opened
         let p := (u.putButton b { s.button b with level := some .opened, count := 0, state := .released, heldTime := 0 }).post
          (buttonLine b) .release
         if (s.button b).state = .stuck then p.clearCondition .stuckButton b.val (s.button b).station
         else if (s.button b).role = .roleHold then u.demandAfter p b else p))) ∧
  (∀ (b : ButtonId) (s : State), s.part.condition = .inService → (s.button b).state = .pressed →
      let held := max (s.button b).heldTime (s.button b).holdThreshold
      let p := (s.putButton b { s.button b with heldTime := held, state := .held }).post (buttonLine b) .hold
      (held < s.buttonTiming.stuckLimit * 1000 →
        exec (.buttonHold b) s = .next (s.eventOutcome
          (if (s.button b).role = .roleAck then p.ackHold (s.button b).station else p))) ∧
      (s.buttonTiming.stuckLimit * 1000 ≤ held →
        exec (.buttonHold b) s = .next (s.eventOutcome
          ((s.putButton b { s.button b with heldTime := held }).enterStuck b)))) ∧
  (∀ (b : ButtonId) (s : State), s.part.condition = .inService →
      (s.button b).state = .pressed ∨ (s.button b).state = .held →
      exec (.buttonStuck b) s = .next (s.eventOutcome
        (let held := max (s.button b).heldTime (s.buttonTiming.stuckLimit * 1000)
         let u := s.putButton b { s.button b with heldTime := held }
         let p := (u.putButton b { s.button b with heldTime := held, state := .stuck }).post (buttonLine b) .stuck
         let q := (p.raise .stuckButton .call b.val (s.button b).station).1
         if (s.button b).role = .roleHold then u.demandAfter q b else q)))

/-- A debounced close posts PRESS and takes the role's action (R5, R10 to R14). A SHOW press is a station start (R24), a HOLD
press a demand press: in READY the station's ARMED DEMAND axes are triggered and the show is counted, in SHOWING they are
triggered and the press is taken even when there is none, and elsewhere, or in READY with none, the press is refused (R11). A
refused press counts the refusal and posts REFUSED on both lines (R10, R25). The axes are triggered in ascending order, and ALL
stations are stopped S0 first (log entry 19). An ACK press acknowledges, of the RAISED records in scope, the oldest of the
highest severity (R13); an ACK hold removes the oldest ACKNOWLEDGED record in scope that is of no condition kind, of whatever
severity (R13, R149). -/
def Obligations.ButtonPressTakesItsRole : Prop :=
  (∀ (b : ButtonId) (s : State), s.part.condition = .inService → (s.button b).state = .released →
    (s.button b).level = some .opened →
    let u := s.setButtonPin b .closed
    let p := (u.putButton b { s.button b with level := some .closed, count := 0, state := .pressed, heldTime := 0 }).post
      (buttonLine b) .press
    let refusal := fun (t : State) (st : StationId) =>
      ((t.putStation st { t.station st with refused := min 65535 ((t.station st).refused + 1) }).post (stationLine st)
        .stationRefused).post (buttonLine b) .buttonRefused
    let shown := fun (t : State) (st : StationId) =>
      (t.putStation st
        { t.station st with state := .showing, idleTime := 0, shows := min 65535 ((t.station st).shows + 1) }).post
        (stationLine st) .showing
    let triggered := fun (t : State) (xs : List AxisId) => xs.foldl (fun v x => v.trigger x) t
    ((s.button b).role = .roleNone → exec (.buttonPress b) s = .next (s.eventOutcome p)) ∧
    (∀ st, (s.button b).role = .roleShow → (s.button b).station = some st →
      let chosen := allAxes.filter fun x =>
        (p.axis x).cfg.station = some st ∧ (p.axis x).state = .armed ∧ (p.mode x = .single ∨ p.mode x = .block) ∧
          (p.paired x = true → isLeader x = true ∧ (p.axis (followerOf x)).state = .armed)
      exec (.buttonPress b) s = .next (s.eventOutcome
        (if (p.station st).state = .ready ∧ chosen ≠ [] then (triggered (shown p st) chosen).testActivity st
         else refusal p st))) ∧
    (∀ st, (s.button b).role = .roleHold → (s.button b).station = some st →
      let q := u.demandAfter p b
      let chosen := allAxes.filter fun x =>
        (q.axis x).cfg.station = some st ∧ (q.axis x).state = .armed ∧ q.mode x = .demand
      ((q.station st).state = .ready → chosen ≠ [] →
        exec (.buttonPress b) s = .next (s.eventOutcome ((triggered (shown q st) chosen).testActivity st))) ∧
      ((q.station st).state = .ready → chosen = [] →
        exec (.buttonPress b) s = .next (s.eventOutcome (refusal q st))) ∧
      ((q.station st).state = .showing →
        exec (.buttonPress b) s = .next (s.eventOutcome ((triggered q chosen).testActivity st))) ∧
      ((q.station st).state ≠ .ready → (q.station st).state ≠ .showing →
        exec (.buttonPress b) s = .next (s.eventOutcome (refusal q st)))) ∧
    ((s.button b).role = .roleAck → exec (.buttonPress b) s = .next (s.eventOutcome
      (match p.ackChoice (s.button b).station with
        | none => p
        | some r => p.acknowledge r))) ∧
    (∀ st, (s.button b).role = .roleStop → (s.button b).station = some st →
      exec (.buttonPress b) s = .next (s.eventOutcome (p.stopStation st))) ∧
    ((s.button b).role = .roleStop → (s.button b).station = none →
      exec (.buttonPress b) s = .next (s.eventOutcome
        (([0, 1, 2, 3, 4, 5, 6, 7] : List StationId).foldl (fun t st => t.stopStation st) p)))) ∧
  (∀ (s : State) (scope : Option StationId),
    let mine := fun r : Alert => scope = none ∨ r.station = none ∨ r.station = scope
    let clearable := fun r : Alert => r.acked = true ∧ r.kind ≠ .stuckButton ∧ r.kind ≠ .stopLine ∧ mine r
    (s.ackChoice scope = none ↔ ∀ r ∈ s.alerts.records, r.acked = false → ¬ mine r) ∧
    (∀ r, s.ackChoice scope = some r →
      ∃ older newer, s.alerts.records = older ++ r :: newer ∧ r.acked = false ∧ mine r ∧
        (∀ q ∈ older, q.acked = false → mine q → severityCode q.severity < severityCode r.severity) ∧
        ∀ q ∈ newer, q.acked = false → mine q → severityCode q.severity ≤ severityCode r.severity) ∧
    (∀ older r newer, s.alerts.records = older ++ r :: newer → clearable r → (∀ q ∈ older, ¬ clearable q) →
      s.ackHold scope = s.removeRecord r) ∧
    ((∀ r ∈ s.alerts.records, ¬ clearable r) → s.ackHold scope = s))

/-- SET_BUTTON in its order of checks: ranges, a station for SHOW and HOLD, a RELEASED button, a free cell; a change of
polarity unsettles the button (R16, R4). SET_STATION writes its three fields together when they lie in their ranges and no
other record claims the cell (R38). SET_BUTTON_TIMING, SET_ESCALATION and SET_NOTICE_LEVEL write their settings together when
each lies in its range, and are answered BAD_VALUE with nothing written otherwise (R17, R158, R178). -/
def Obligations.ButtonStationAndOtherSettings : Prop :=
  (∀ (tag button polarity role station : Byte) (hold : BitVec 16) (row column : Byte) (s : State) (b : ButtonId)
      (pol : Polarity) (ro : Role) (st : Option StationId) (cell : Option Cell),
      s.listening → tag ≠ 0#8 → button.toNat = b.val → polarityOf polarity = some pol → roleOf role = some ro →
      stationRefOf station = some st → cellOf row column = some cell → 100 ≤ hold.toNat → hold.toNat ≤ 10000 →
      exec (.setButton tag button polarity role station hold row column) s = .next
        (if st = none ∧ (ro = .roleShow ∨ ro = .roleHold) then s.reply tag 0xA0#8 .badValue
         else if (s.button b).state ≠ .released then s.reply tag 0xA0#8 .busy
         else if ∃ c, cell = some c ∧
            ((∃ i, i ≠ b ∧ (s.button i).cell = some c) ∨ ∃ i, (s.station i).cell = some c) then
          s.reply tag 0xA0#8 .inUse
         else
          (s.putButton b
            (let r : Button :=
              { s.button b with
                polarity := pol, role := ro, station := st, holdThreshold := hold.toNat, cell := cell }
             if (s.button b).polarity = pol then r else { r with level := none, provisional := none, count := 0 })).reply
            tag 0xA0#8 .ok)) ∧
  (∀ (tag station : Byte) (rest idle : BitVec 16) (row column : Byte) (s : State) (st : StationId) (cell : Option Cell),
      s.listening → tag ≠ 0#8 → station.toNat = st.val → cellOf row column = some cell →
      exec (.setStation tag station rest idle row column) s = .next
        (if 6000 < rest.toNat ∨ 600 < idle.toNat then s.reply tag 0xA8#8 .badValue
         else if ∃ c, cell = some c ∧
            ((∃ i, (s.button i).cell = some c) ∨ ∃ i, i ≠ st ∧ (s.station i).cell = some c) then
          s.reply tag 0xA8#8 .inUse
         else
          (s.putStation st
            { s.station st with restTime := rest.toNat, idleLimit := idle.toNat, cell := cell }).reply tag 0xA8#8 .ok)) ∧
  (∀ (tag : Byte) (s : State), s.listening → tag ≠ 0#8 →
     (∀ (debounce : Byte) (stuck : BitVec 16),
       exec (.setButtonTiming tag debounce stuck) s = .next
         (if 1 ≤ debounce.toNat ∧ debounce.toNat ≤ 50 ∧ 1 ≤ stuck.toNat ∧ stuck.toNat ≤ 600 then
           { s with buttonTiming := { debounce := debounce.toNat, stuckLimit := stuck.toNat } }.reply tag 0xA1#8 .ok
          else s.reply tag 0xA1#8 .badValue)) ∧
     (∀ note call lockout : BitVec 16,
       exec (.setEscalation tag note call lockout) s = .next
         (if 10 ≤ note.toNat ∧ note.toNat ≤ 3600 ∧ 10 ≤ call.toNat ∧ call.toNat ≤ 3600 ∧
             10 ≤ lockout.toNat ∧ lockout.toNat ≤ 3600 then
           { s with
             alerts :=
               { s.alerts with
                 noteInterval := note.toNat, callInterval := call.toNat, lockoutInterval := lockout.toNat } }.reply
             tag 0xF4#8 .ok
          else s.reply tag 0xF4#8 .badValue)) ∧
     (∀ level : Byte,
       exec (.setNoticeLevel tag level) s = .next
         (if level.toNat ≤ 7 then { s with noticeLevel := level.toNat }.reply tag 0x93#8 .ok
          else s.reply tag 0x93#8 .badValue)))

/-! ## Stations -/

/-- The rest expires: the station goes to READY and posts READY (R28). The idle timeout posts IDLE_TIMEOUT and hands ABANDON to
each PAUSED member in ascending order (R30). STATION_COMMAND START: taken in READY when it selects an axis, it counts the show,
posts SHOWING and triggers the selected axes in ascending order, and the activity test follows; otherwise it counts the
refusal, posts REFUSED and is answered BUSY (R24, R25, R27). STATION_COMMAND ONLINE and OFFLINE: in OFFLINE, ONLINE goes to
READY or, under the lock condition, to LOCKED; OFFLINE elsewhere ends the rest and hands DISARM to the members; each is
answered OK and does nothing where it has nothing to do (R22, R23). STATION_COMMAND STOP hands ABANDON to each active member in
ascending order, in every state; UNLOCK clears a set latch and tests the lock condition, and changes nothing when the latch is
clear. Both are answered OK (R31, R35). -/
def Obligations.StationCommandsRestAndIdle : Prop :=
  (∀ (st : StationId) (s : State), (s.station st).state = .resting →
      exec (.restExpiry st) s = .next (s.eventOutcome
        ((s.putStation st { s.station st with state := .ready, restRemaining := 0 }).post (stationLine st) .ready))) ∧
  (∀ (st : StationId) (s : State), (s.station st).idleLimit ≠ 0 → s.idleRuns st = true →
      exec (.idleTimeout st) s = .next (s.eventOutcome
        ((s.post (stationLine st) .idleTimeout).handAll
          (allAxes.filter fun x => (s.axis x).cfg.station = some st ∧ (s.axis x).state = .paused) .abandon))) ∧
  (∀ (tag station : Byte) (st : StationId) (s : State), s.attentive → tag ≠ 0#8 → station.toNat = st.val →
      let chosen := allAxes.filter (s.startSelects st)
      ((s.station st).state = .ready → chosen ≠ [] →
        exec (.stationCommandStart tag station) s = .next (s.replyOutcome
          ((chosen.foldl (fun t x => t.trigger x)
            ((s.putStation st
              { s.station st with
                state := .showing, idleTime := 0, shows := min 65535 ((s.station st).shows + 1) }).post
              (stationLine st) .showing)).testActivity st) tag 0xA9#8 .ok)) ∧
      ((s.station st).state ≠ .ready ∨ chosen = [] →
        exec (.stationCommandStart tag station) s = .next (s.replyOutcome
          ((s.putStation st { s.station st with refused := min 65535 ((s.station st).refused + 1) }).post
            (stationLine st) .stationRefused) tag 0xA9#8 .busy))) ∧
  (∀ (tag station : Byte) (st : StationId) (s : State), s.attentive → tag ≠ 0#8 → station.toNat = st.val →
      exec (.stationCommandOnline tag station) s = .next (s.replyOutcome
        (if (s.station st).state ≠ .offline then s
         else if s.lockCondition st then
          (s.putStation st { s.station st with state := .locked, idleTime := 0 }).post (stationLine st) .locked
         else (s.putStation st { s.station st with state := .ready }).post (stationLine st) .ready) tag 0xA9#8 .ok) ∧
      exec (.stationCommandOffline tag station) s = .next (s.replyOutcome
        (if (s.station st).state = .offline then s
         else
          ((s.putStation st { s.station st with state := .offline, restRemaining := 0, idleTime := 0 }).post
            (stationLine st) .offline).handAll (allAxes.filter fun x => (s.axis x).cfg.station = some st) .disarm)
        tag 0xA9#8 .ok)) ∧
  (∀ (tag station : Byte) (st : StationId) (s : State), s.attentive → tag ≠ 0#8 → station.toNat = st.val →
      exec (.stationCommandStop tag station) s = .next (s.replyOutcome
        (s.handAll ((allAxes.filter fun x => (s.axis x).cfg.station = some st).filter s.isActive) .abandon)
        tag 0xA9#8 .ok) ∧
      exec (.stationCommandUnlock tag station) s = .next (s.replyOutcome
        (if (s.station st).latch then (s.putStation st { s.station st with latch := false }).testLock st else s)
        tag 0xA9#8 .ok))

/-- The test of a station's lock condition (R32): OFFLINE stands; READY, SHOWING and RESTING go to LOCKED while the condition
holds, post LOCKED, and hand DISARM to the member axes (R33), in ascending order (log entry 19); LOCKED unlocks when the
condition no longer holds: it goes to RESTING with its full rest, or to READY where the rest time is 0, posts the one it enters,
and hands nothing to its members (R34). The activity test: a SHOWING station with no active member leaves its show in the same
way, and nothing else happens (R27). -/
def Obligations.LockAndActivityTests : Prop :=
  ∀ (st : StationId) (s : State),
    let r := s.station st
    let lock := (∃ a ∈ s.alerts.records, a.severity = .lockout ∧ (a.station = none ∨ a.station = some st)) ∨
      r.latch = true
    let members := allAxes.filter fun x => (s.axis x).cfg.station = some st
    let active := fun x : AxisId => (s.axis x).state ≠ .disarmed ∧ (s.axis x).state ≠ .armed
    let rested :=
      if r.restTime = 0 then (s.putStation st { r with state := .ready }).post (stationLine st) .ready
      else
        (s.putStation st { r with state := .resting, restRemaining := r.restTime * 100, idleTime := 0 }).post
          (stationLine st) .resting
    let t := s.testLock st
    (r.state = .offline → t = s) ∧
    (r.state = .locked → lock → t = s) ∧
    (r.state = .locked → ¬ lock → t = rested) ∧
    (r.state ≠ .locked → ¬ lock → t = s) ∧
    (r.state ≠ .offline → r.state ≠ .locked → lock →
      t = members.foldl (fun u x => u.handDisposition x .disarm)
        ((s.putStation st { r with state := .locked, restRemaining := 0, idleTime := 0 }).post (stationLine st) .locked) ∧
      (t.station st).state = .locked ∧ (t.station st).restRemaining = 0 ∧ (t.station st).idleTime = 0 ∧
      ∀ x, t.axis x = s.axis x ∨ (s.axis x).cfg.station = some st) ∧
    (r.state = .showing → (∀ x ∈ members, ¬ active x) → s.testActivity st = rested) ∧
    (r.state ≠ .showing ∨ (∃ x ∈ members, active x) → s.testActivity st = s)

/-! ## The cue table -/

/-- The bytes of a cue entry's fields read back as the entry, for every kind and every value the table holds (R53, Table 12-4).
-/
def Obligations.CueRecordRoundTrip : Prop :=
  ∀ body : CueBody, body.held → cueBodyOf (byteOf (kindCode body)) body.bytes = some body

/-- WRITE_CUE of a record that the table can hold, in its order of checks: an EMPTY entry carries END, the table is available,
the entry is not pinned; then the whole entry is replaced (R53). ERASE_CUE erases a whole run of unpinned entries or none, and
leaves every other entry (R55). -/
def Obligations.WriteCueAndEraseCue : Prop :=
  (∀ (tag index : Byte) (i : CueId) (body : CueBody) (next : CueRef) (s : State), s.listening → tag ≠ 0#8 →
      index.toNat = i.val → body.held →
      exec (.writeCue tag index (byteOf (kindCode body)) (byteOf (cueRefCode next)) body.bytes) s = .next
        (if body = .empty ∧ next ≠ .chainStop then s.reply tag 0xB0#8 .badValue
         else if s.part.failure.getLsbD 0 then s.reply tag 0xB0#8 .fault
         else if (s.cue i).pins ≠ 0 then s.reply tag 0xB0#8 .inUse
         else (s.putCue i { body := body, next := next, pins := 0 }).reply tag 0xB0#8 .ok)) ∧
  (∀ (tag first count : Byte) (s : State), s.listening → tag ≠ 0#8 → first.toNat ≤ 127 → 1 ≤ count.toNat →
      count.toNat ≤ 128 → first.toNat + count.toNat ≤ 128 → s.part.failure.getLsbD 0 = false →
      let inRun := fun j : CueId => first.toNat ≤ j.val ∧ j.val < first.toNat + count.toNat
      (∀ j, inRun j → (s.cue j).pins ≠ 0 → (∀ k, inRun k → k < j → (s.cue k).pins = 0) →
        exec (.eraseCue tag first count) s = .next (s.reply tag 0xB3#8 .inUse [byteOf j.val])) ∧
      ((∀ j, inRun j → (s.cue j).pins = 0) →
        ∃ t : State, exec (.eraseCue tag first count) s = .next (t.reply tag 0xB3#8 .ok [count]) ∧
          t = { s with cues := t.cues } ∧
          ∀ j, t.cue j = if inRun j then { body := .empty, next := .chainStop, pins := 0 } else s.cue j))

/-- A chain that the walk finds valid is the path of next indices from its start to END: 1 to 32 entries, no two the same, none
with a fault of its own (R43). A walk that fails has followed the next indices from its start over the entries it visited, none
with a fault, to the entry it reports, and reports the first test that fails there: a CYCLE only at an entry met before,
TOO_LONG only after 32 entries, and a fault of the entry itself otherwise (R43, R44). -/
def Obligations.WalkFindsTheChainOrItsFault : Prop :=
  (∀ (s : State) (start : CueId) (chain : List CueId), s.walk start = .ok chain →
      chain.head? = some start ∧ chain.length ≤ 32 ∧ chain.Nodup ∧
      (∀ i ∈ chain, (s.cue i).body.chainFault = none) ∧
      (∀ k, k + 1 < chain.length → ∃ i j, chain[k]? = some i ∧ chain[k + 1]? = some j ∧ (s.cue i).next = .entry j) ∧
      ∃ i, chain.getLast? = some i ∧ (s.cue i).next = .chainStop) ∧
  (∀ (s : State) (start : CueId) (f : ChainFault) (at_ : CueId), s.walk start = .error (f, at_) →
      ∃ visited : List CueId, (visited ++ [at_]).head? = some start ∧ visited.Nodup ∧ visited.length ≤ 32 ∧
        (∀ i ∈ visited, (s.cue i).body.chainFault = none) ∧
        (∀ k i j, (visited ++ [at_])[k]? = some i → (visited ++ [at_])[k + 1]? = some j → (s.cue i).next = .entry j) ∧
        (f = .cycle ↔ at_ ∈ visited) ∧ (f = .tooLong ↔ at_ ∉ visited ∧ visited.length = 32) ∧
        (f ≠ .cycle → f ≠ .tooLong → (s.cue at_).body.chainFault = some f)) ∧
  (∀ body : CueBody, body.chainFault =
      match body with
      | .empty => some .emptyEntry
      | .move steps p seek =>
        let against : Bool := match seek with
          | none => false
          | some (.low, _) => decide (0 ≤ steps)
          | some (.high, _) => decide (steps ≤ 0)
        if ¬ (50 ≤ p.f ∧ p.f ≤ p.v ∧ p.v ≤ 20000 ∧ 1 ≤ p.a ∧ p.a ≤ 2000) ∨ 1000000 < steps.natAbs ∨ against = true then
          some .badProfile
        else if steps = 0 then some .zeroMove
        else none
      | .moveTo _ p =>
        if 50 ≤ p.f ∧ p.f ≤ p.v ∧ p.v ≤ 20000 ∧ 1 ≤ p.a ∧ p.a ≤ 2000 then none else some .badProfile
      | _ => none)

/-! ## Motion -/

/-- The brake distance is the least whole number of steps with (r² − f²) ÷ (2,000 × a) at or below it; it lies in 0..199,999
over the running ranges, and is 0 at the floor rate (R88). The worked table of the rule is reproduced. It is taken at the rate
of the start of the tick and compared with n as it stands there: at or above n the axis brakes. -/
def Obligations.BrakeDistanceRoundsUp : Prop :=
  (∀ (p : Profile) (r : Nat), 50 ≤ p.f → p.f ≤ r → r ≤ 20000 → 1 ≤ p.a →
    r * r - p.f * p.f ≤ 2000 * p.a * brakeDistance p r ∧
    (∀ d, r * r - p.f * p.f ≤ 2000 * p.a * d → brakeDistance p r ≤ d) ∧ brakeDistance p r ≤ 199999) ∧
  (∀ p : Profile, brakeDistance p p.f = 0) ∧
  (∀ (p : Profile) (a : Axis), a.remN ≤ brakeDistance p a.rate →
    rateUpdate p a = (max p.f (a.rate - p.a), .decel)) ∧
  [500, 750, 1000, 1250, 1500, 1750, 2000].map (brakeDistance { f := 500, v := 2000, a := 250 }) = [0, 1, 2, 3, 4, 6, 8]

/-- The rate update takes the first case that applies, with n and D as they stand at the start of the tick: braking, climbing,
cruising; a tick that brakes leaves the phase DECEL, and DECEL brakes again (R89). The stepping of a tick: the accumulator
keeps the remainder of its sum with the new rate, the whole steps are capped at n, n falls by them, and the position, or the
virtual one in REHEARSE mode, moves by them in the travel direction; at most 20 steps fall in one tick (R90). A tick keeps the
rate between the floor and the cruise rate and n at or below N, and a segment that fits into the soft limits stays within them
(R97, R82). -/
def Obligations.TickUpdatesRateStepsAndLimits : Prop :=
  (∀ (p : Profile) (a : Axis),
     let braking := a.phase = .decel ∨ a.state = .stopping ∨ a.remN ≤ brakeDistance p a.rate
     (braking → rateUpdate p a = (max p.f (a.rate - p.a), .decel)) ∧
     (¬ braking → a.rate < p.v → p.v ≤ a.rate + p.a → rateUpdate p a = (p.v, .cruise)) ∧
     (¬ braking → a.rate < p.v → a.rate + p.a < p.v → rateUpdate p a = (a.rate + p.a, .accel)) ∧
     (¬ braking → p.v ≤ a.rate → rateUpdate p a = (a.rate, .cruise))) ∧
  (∀ (p : Profile) (a : Axis) (rehearses : Bool),
     let r := (rateUpdate p a).1
     let k := min a.remN ((a.acc + r) / 1000)
     let b := a.rampStep p rehearses
     b.rate = r ∧ b.acc = (a.acc + r) % 1000 ∧ b.remN + k = a.remN ∧
     (rehearses = false →
       b.position = (match a.dir with | .up => a.position + k | .down => a.position - k) ∧ b.virtual = a.virtual ∧
         b.stepPulses = k) ∧
     (rehearses = true →
       b.virtual = (match a.dir with | .up => a.virtual + k | .down => a.virtual - k) ∧ b.position = a.position ∧
         b.stepPulses = 0) ∧
     (a.acc ≤ 999 → r ≤ 20000 → k ≤ 20)) ∧
  (∀ (p : Profile) (a : Axis) (rehearses : Bool), p.f ≤ p.v → p.f ≤ a.rate → a.rate ≤ p.v → a.remN ≤ a.segN →
     let b := a.rampStep p rehearses
     p.f ≤ b.rate ∧ b.rate ≤ p.v ∧ b.remN ≤ b.segN ∧ b.acc ≤ 999 ∧
     (rehearses = false → a.cfg.softLow ≤ a.position → a.position ≤ a.cfg.softHigh →
       a.remN ≤ a.cfg.room a.position a.dir →
       b.cfg.softLow ≤ b.position ∧ b.position ≤ b.cfg.softHigh ∧ b.remN ≤ b.cfg.room b.position b.dir))

/-- A ramp tick of a RUNNING or STOPPING axis with a loaded motion takes its four parts: the axis takes its tick values, and a
count that is reached completes the segment, a floor rate reached while STOPPING settles the axis, and otherwise the segment
goes on (R87 to R91). The end of a dwell: the DWELL entry completes, and a leader's restart wait loads its start cue (R68,
R114). That RAMP_TICK and DWELL_EXPIRY are taken as due, the latter with the dwell remaining brought to 0, is the model's
choice (log entry 9). -/
def Obligations.RampTickAndDwellExpiry : Prop :=
  (∀ (x : AxisId) (p : Profile) (s : State), (s.axis x).state = .running ∨ (s.axis x).state = .stopping →
      s.loadedProfile x = some p →
      let a := (s.axis x).rampStep p (s.rehearses x)
      let t := s.putAxis x a
      (a.remN ≠ 0 → ((s.axis x).state = .running ∨ a.rate ≠ p.f) → exec (.rampTick x) s = .next (s.eventOutcome t)) ∧
      (a.remN ≠ 0 → (s.axis x).state = .stopping → a.rate = p.f →
        exec (.rampTick x) s = .next (s.eventOutcome (t.settleBy x ((s.axis x).disposition.getD .abandon)))) ∧
      (a.remN = 0 → (s.axis x).seek = none → (s.axis x).state = .running →
        exec (.rampTick x) s = .next (s.eventOutcome (t.completeAndGoOn x))) ∧
      (a.remN = 0 → (s.axis x).seek = none → (s.axis x).state = .stopping →
        exec (.rampTick x) s = .next (s.eventOutcome (t.completeStopping x))) ∧
      (a.remN = 0 → (s.axis x).seek ≠ none → s.rehearses x = false →
        exec (.rampTick x) s = .next (s.eventOutcome (t.seekMiss x))) ∧
      (a.remN = 0 → (s.axis x).seek ≠ none → s.rehearses x = true →
        exec (.rampTick x) s = .next (s.eventOutcome
          (let h := t.takeVirtualHome x (((s.currentEntry x).bind (·.body.home)).getD 0)
           if (s.axis x).state = .stopping then h.completeStopping x else h.completeAndGoOn x)))) ∧
  (∀ (x : AxisId) (s : State), (s.axis x).state = .dwelling →
      exec (.dwellExpiry x) s = .next (s.eventOutcome
        (let t := s.putAxis x { s.axis x with dwell := 0, restartWait := false }
         if (s.axis x).restartWait then t.load x else t.completeAndGoOn x)))

/-- The load of a MOVE, without a seek or with one whose stop is not TRIPPED, on an unpaired axis that holds no run current and
does not rehearse, in DEMAND mode with its demand flag asserted: the travel direction is the sign of the steps, N and n are the
steps cut at the room before the soft limit, the seek is recorded, and the position stands. With n above 0 the axis is PENDING
with r at f, q at 0 and phase ACCEL, DIR is set, its entry joins the list, and a seek posts no SOFT_LIMIT (R64 to R66, R101).
With n at 0 a MOVE without a seek completes at once, and no grant is asked for (R66). That the increase of an axis marked
`asLeft` is its whole run draw is log entry 15. That 0 steps keep the direction is log entry 20. -/
def Obligations.LoadedMoveWaitsForItsGrant : Prop :=
  ∀ (x : AxisId) (steps : Int) (p : Profile) (seek : Option (StopSide × Int)) (s : State),
    s.paired x = false → s.rehearses x = false → (s.mode x = .demand → s.demandFlag x = true) →
    (s.axis x).state ≠ .running → (∀ side home, seek = some (side, home) → (s.axis x).stopLevel side ≠ some true) →
    let a := s.axis x
    let dir := if 0 < steps then Dir.up else if steps < 0 then .down else a.dir
    let n := min steps.natAbs (a.cfg.room a.position dir)
    let r := s.loadMotion x steps p seek
    let b := r.1.axis x
    b.segN = n ∧ b.remN = n ∧ b.dir = dir ∧ b.seek = seek.map (·.1) ∧ b.position = a.position ∧
    (n = 0 → seek = none → r.2 = true ∧ b.state = a.state ∧ r.1.arbiter = s.arbiter) ∧
    (n ≠ 0 → r.2 = false ∧ b.state = .pending ∧ b.rate = p.f ∧ b.acc = 0 ∧ b.phase = .accel ∧
      b.dirLevel = ((dir = .up : Bool) != a.cfg.invert) ∧ r.1.passDue = true ∧
      r.1.arbiter.waiting = s.arbiter.waiting ++
        [{ axis := x, pair := false, increase := a.cfg.runDraw - (if a.asLeft then 0 else a.cfg.holdDraw), waited := 0,
           urgent := false }] ∧
      (seek ≠ none → r.1.line (axisLine x) = s.line (axisLine x)))

/-- The load of the current cue by its kind (R64 to R71). A MOVE and a MOVE_TO set up a segment, the MOVE_TO towards its
target; a DWELL starts its time; a SCENE shows its scene, but for a REHEARSE axis; a MARK posts its code; END is the chain end.
A seek whose stop is TRIPPED is at home at once: the position becomes the home clamped into the soft limits, valid, and HOMED
is posted (R64, R79); one that is clamped to 0 steps is a seek miss (R81). A DEMAND axis without demand waits PAUSED, a
REHEARSE axis runs on its virtual position, and an axis that holds run current runs on, each with N and n at the clamped steps,
with the seek of its entry recorded, and with no new entry in the list (R64, R66, R83); the axis that waits for its grant is
the statement before. One that runs on without a seek towards a stop that is TRIPPED already is halted with END_STOP before its
first tick, its position no longer valid, and a LIMIT_TRIP alert is raised (R78, R80). A REHEARSE seek looks at no stop: it
runs on its virtual position, and one that is clamped to 0 steps takes its home virtually and completes (R83). A segment
without a seek that the soft limit cuts posts SOFT_LIMIT, and no other does, a seek among them (R64). A trigger of an unpaired
ARMED axis loads its current cue, a REHEARSE axis with its elapsed time at 0 and its virtual position at the real one;
elsewhere it does nothing (R63). That N and DIR stand at a home at the load, and that the dwell and the restart wait are 0 and
clear after a load, is log entry 13. That a REHEARSE trigger clears the mark `asLeft` is log entry 15. -/
def Obligations.AxisLoads : Prop :=
  (∀ (x : AxisId) (s : State),
    ((s.axis x).current = some .chainStop → s.loadOne x = (s.chainEnd x, false)) ∧
    ∀ i, (s.axis x).current = some (.entry i) →
      (∀ steps p seek, (s.cue i).body = .move steps p seek → s.loadOne x = s.loadMotion x steps p seek) ∧
      (∀ target p, (s.cue i).body = .moveTo target p →
        s.loadOne x =
          s.loadMotion x (target - if s.rehearses x then (s.axis x).virtual else (s.axis x).position) p none) ∧
      (∀ ms, (s.cue i).body = .dwell ms →
        (s.loadOne x).2 = false ∧
        (s.loadOne x).1.axis x =
          { s.axis x with
            state := .dwelling, dwell := ms, rate := 0, acc := 0, jamCount := 0, disposition := none,
            restartWait := false }) ∧
      (∀ n, (s.cue i).body = .scene n →
        s.loadOne x = (if s.rehearses x then s else { s with lamps := { s.lamps with display := n } }, true)) ∧
      (∀ code, (s.cue i).body = .mark code →
        s.loadOne x = (s.post (axisLine x) .mark fun d => { d with mark := some code }, true))) ∧
  (∀ (x : AxisId) (steps : Int) (p : Profile) (side : StopSide) (home : Int) (s : State), s.rehearses x = false →
    let r := s.loadMotion x steps p (some (side, home))
    let dir := if 0 < steps then Dir.up else if steps < 0 then .down else (s.axis x).dir
    ((s.axis x).stopLevel side = some true →
      r.2 = true ∧
      r.1.axis x =
        { s.axis x with
          dir := dir, seek := some side, remN := 0, valid := true
          position := max (s.axis x).cfg.softLow (min (s.axis x).cfg.softHigh home) } ∧
      r.1.arbiter = s.arbiter ∧
      (s.part.condition = .inService → (r.1.line (axisLine x)).causes.getLsbD Cause.homed.bit = true)) ∧
    ((s.axis x).stopLevel side ≠ some true →
      min steps.natAbs ((s.axis x).cfg.room (s.axis x).position dir) = 0 → s.paired x = false →
      (s.axis x).state ≠ .disarmed →
      r.2 = false ∧ (r.1.axis x).state = .disarmed ∧ (r.1.axis x).chain = [] ∧
      (r.1.axis x).position = (s.axis x).position ∧
      (s.part.condition = .inService → (r.1.line (axisLine x)).causes.getLsbD Cause.seekMiss.bit = true))) ∧
  (∀ (x : AxisId) (steps : Int) (p : Profile) (seek : Option (StopSide × Int)) (s : State), s.paired x = false →
    (∀ side home, seek = some (side, home) → s.rehearses x = true ∨ (s.axis x).stopLevel side ≠ some true) →
    let a := s.axis x
    let r := s.loadMotion x steps p seek
    let dir := if 0 < steps then Dir.up else if steps < 0 then .down else a.dir
    let n := min steps.natAbs (a.cfg.room (if s.rehearses x then a.virtual else a.position) dir)
    let loaded : Axis :=
      { a with
        dir := dir, seek := seek.map (·.1), segN := n, remN := n, disposition := none, dwell := 0, restartWait := false }
    n ≠ 0 →
    (a.cfg.mode = .demand → s.demandFlag x = false →
      r.2 = false ∧
      r.1.axis x =
        { loaded with
          state := .paused, rate := 0, acc := 0, jamCount := 0, dirLevel := ((dir = .up : Bool) != a.cfg.invert) } ∧
      r.1.arbiter = s.arbiter) ∧
    (s.rehearses x = true →
      r.2 = false ∧
      r.1.axis x =
        { loaded with state := .running, rate := p.f, acc := 0, phase := .accel } ∧
      r.1.arbiter = s.arbiter) ∧
    ((a.cfg.mode = .demand → s.demandFlag x = true) → s.rehearses x = false → a.state = .running →
      seek ≠ none ∨ a.stopLevel dir.stop ≠ some true →
      r.2 = false ∧
      r.1.axis x =
        { loaded with
          state := .running, rate := p.f, acc := 0, phase := .accel
          dirLevel := ((dir = .up : Bool) != a.cfg.invert) } ∧
      r.1.arbiter = s.arbiter) ∧
    ((a.cfg.mode = .demand → s.demandFlag x = true) → s.rehearses x = false → a.state = .running →
      seek = none → a.stopLevel dir.stop = some true →
      r.2 = false ∧
      r.1.axis x =
        { loaded with
          state := .disarmed, chain := [], start := none, rate := 0, acc := 0, phase := .accel, jamCount := 0, valid := false
          dirLevel := ((dir = .up : Bool) != a.cfg.invert) } ∧
      (s.part.condition = .inService → (r.1.line (axisLine x)).causes.getLsbD Cause.endStop.bit = true) ∧
      (s.alerts.records.length < 16 →
        ∃ q ∈ r.1.alerts.records, q.kind = .limitTrip ∧ q.source = x.val ∧ q.station = a.cfg.station))) ∧
  (∀ (x : AxisId) (steps : Int) (p : Profile) (side : StopSide) (home : Int) (s : State), s.rehearses x = true →
    let a := s.axis x
    let r := s.loadMotion x steps p (some (side, home))
    let dir := if 0 < steps then Dir.up else if steps < 0 then .down else a.dir
    let n := min steps.natAbs (a.cfg.room a.virtual dir)
    r.1.arbiter = s.arbiter ∧ r.1.lines = s.lines ∧
    (n = 0 →
      r.2 = true ∧
      r.1.axis x =
        { a with
          dir := dir, seek := some side, segN := 0, remN := 0
          virtual := max a.cfg.softLow (min a.cfg.softHigh home) }) ∧
    (n ≠ 0 →
      r.2 = false ∧
      r.1.axis x =
        { a with
          dir := dir, seek := some side, segN := n, remN := n, state := .running, rate := p.f, acc := 0, phase := .accel
          disposition := none, dwell := 0, restartWait := false })) ∧
  (∀ (x : AxisId) (s : State), s.paired x = false →
    ((s.axis x).state ≠ .armed → s.trigger x = s) ∧
    ((s.axis x).state = .armed → s.rehearses x = false → s.trigger x = s.load x) ∧
    ((s.axis x).state = .armed → s.rehearses x = true →
      s.trigger x = (s.putAxis x { s.axis x with elapsed := 0, virtual := (s.axis x).position, asLeft := false }).load x)) ∧
  (∀ (x : AxisId) (steps : Int) (p : Profile) (side : StopSide) (home : Int) (s : State), s.paired x = false →
    s.rehearses x = false → (s.axis x).stopLevel side ≠ some true →
    let dir := if 0 < steps then Dir.up else if steps < 0 then .down else (s.axis x).dir
    min steps.natAbs ((s.axis x).cfg.room (s.axis x).position dir) ≠ 0 →
    (s.loadMotion x steps p (some (side, home))).1.line (axisLine x) = s.line (axisLine x)) ∧
  (∀ (x : AxisId) (steps : Int) (p : Profile) (s : State), s.part.condition = .inService → s.paired x = false →
    (s.axis x).state ≠ .running →
    let a := s.axis x
    let dir := if 0 < steps then Dir.up else if steps < 0 then .down else a.dir
    let room := a.cfg.room (if s.rehearses x then a.virtual else a.position) dir
    let r := s.loadMotion x steps p none
    (room < steps.natAbs → (r.1.line (axisLine x)).causes.getLsbD Cause.softLimit.bit = true) ∧
    (steps.natAbs ≤ room → r.1.line (axisLine x) = s.line (axisLine x)))

/-- An unpaired axis settles by its disposition: PAUSE leaves it PAUSED, ABANDON leaves it ARMED at its start cue, and DISARM
leaves it DISARMED with its chain absent; its rate, accumulator and jam count go to 0, and every other axis stands (R75, R96).
The end of a chain posts CHAIN_END and settles the axis by its repeat flag (R71); a completed entry moves the current cue to
its next index, and in SINGLE mode posts SEGMENT_DONE and waits ARMED; in the other modes it goes on to load the next cue at
once, and entries that complete at once follow one another, 34 loads at most, since a chain holds at most 32 entries (R70). An
entry that completes while its axis is STOPPING moves the current cue, posts SEGMENT_DONE in SINGLE mode, and settles by its
disposition with nothing loaded (R75). That dwell and restart wait are 0 and clear after a settling is log entry 13. -/
def Obligations.SettlingAndChainEnd : Prop :=
  ∀ (x : AxisId) (s : State), s.paired x = false →
    let a := s.axis x
    let rest : Axis :=
      { a with rate := 0, acc := 0, jamCount := 0, dwell := 0, disposition := none, restartWait := false }
    (s.settleBy x .pause).axis x = { rest with state := .paused } ∧
    (s.settleBy x .abandon).axis x = { rest with state := .armed, current := a.start.map .entry } ∧
    (a.state ≠ .disarmed →
      (s.settleBy x .disarm).axis x =
        { rest with state := .disarmed, chain := [], start := none, current := none }) ∧
    (∀ d y, y ≠ x → (s.settleBy x d).axis y = s.axis y) ∧
    (let ended := s.post (axisLine x) .chainEnd fun d => { d with chainEnd := some (if s.rehearses x then a.elapsed else 0) }
     (a.cfg.repeats = true →
       s.chainEnd x = ended.enter x .armed (fun b => { b with current := b.start.map .entry }) ∧
         (s.chainEnd x).axis x = { rest with state := .armed, current := a.start.map .entry }) ∧
     (a.cfg.repeats = false → a.state ≠ .disarmed →
       s.chainEnd x = ended.disarm x false ∧
         (s.chainEnd x).axis x = { rest with state := .disarmed, chain := [], start := none, current := none })) ∧
    (∀ i, a.current = some (.entry i) → s.mode x = .single →
      (s.completeEntry x).2 = false ∧
        (s.completeEntry x).1 =
          ((s.putAxis x { a with current := some (s.cue i).next }).post (axisLine x) .segmentDone).enter x .armed ∧
        (s.completeEntry x).1.axis x = { rest with state := .armed, current := some (s.cue i).next } ∧
        s.completeAndGoOn x = (s.completeEntry x).1) ∧
    (∀ i, a.current = some (.entry i) →
      let stepped := s.putAxis x { a with current := some (s.cue i).next }
      (s.mode x ≠ .single → s.completeEntry x = (stepped, true) ∧ s.completeAndGoOn x = stepped.load x) ∧
      ∀ d, a.disposition = some d →
        s.completeStopping x =
          (if s.mode x = .single then stepped.post (axisLine x) .segmentDone else stepped).settleBy x d ∧
        (d = .pause → (s.completeStopping x).axis x = { rest with state := .paused, current := some (s.cue i).next }) ∧
        (d = .abandon →
          (s.completeStopping x).axis x = { rest with state := .armed, current := a.start.map .entry }) ∧
        (d = .disarm → a.state ≠ .disarmed →
          (s.completeStopping x).axis x =
            { rest with state := .disarmed, chain := [], start := none, current := none })) ∧
    s.load x = State.loadEntries x 34 s ∧
    ∀ n, State.loadEntries x (n + 1) s =
      (let r := s.loadOne x
       if r.2 then
         let c := r.1.completeEntry x
         if c.2 then State.loadEntries x n c.1 else c.1
       else r.1)

/-- An end stop takes a new level: on a moving axis that does not rehearse, becoming TRIPPED is the home of a seek that names
the stop, and an immediate halt with END_STOP otherwise; anything else changes the level alone (R78 to R80). The home: the
remaining steps become 0, the position becomes the entry's home value clamped into the soft limits, valid, and HOMED is posted;
the entry then completes, or completes while STOPPING (R79, R75). A REHEARSE seek whose steps run out takes its home virtually
(R83). The seek miss of an unpaired axis: SEEK_MISS is posted and the axis is DISARMED and unpinned, with its current cue, its
remaining steps, its position and its valid flag kept, and no alert is raised (R81). -/
def Obligations.EndStopChangeHomeAndSeekMiss : Prop :=
  (∀ (x : AxisId) (side : StopSide) (tripped : Bool) (s : State), s.part.condition ≠ .testing →
    let u := s.driveEndStop x side tripped
    let t := u.putAxis x ((u.axis x).withStopLevel side tripped)
    let trip := tripped = true ∧ ((s.axis x).state = .running ∨ (s.axis x).state = .stopping) ∧ s.rehearses x = false
    ((s.axis x).stopLevel side = some tripped → exec (.endStopChange x side tripped) s = .next (s.eventOutcome u)) ∧
    ((s.axis x).stopLevel side ≠ some tripped → ¬ trip →
      exec (.endStopChange x side tripped) s = .next (s.eventOutcome t)) ∧
    ((s.axis x).stopLevel side ≠ some tripped → trip → (s.axis x).seek ≠ some side →
      exec (.endStopChange x side tripped) s = .next (s.eventOutcome (t.halt x .endStop))) ∧
    (∀ i steps p named home, (s.axis x).stopLevel side ≠ some tripped → trip → (s.axis x).seek = some side →
      (s.axis x).current = some (.entry i) → (s.cue i).body = .move steps p (some (named, home)) →
      exec (.endStopChange x side tripped) s = .next (s.eventOutcome
        (let h := (t.putAxis x
          { t.axis x with
            remN := 0, valid := true
            position := max (s.axis x).cfg.softLow (min (s.axis x).cfg.softHigh home) }).post (axisLine x) .homed
         if (s.axis x).state = .stopping then h.completeStopping x else h.completeAndGoOn x)))) ∧
  (∀ (x : AxisId) (home : Int) (s : State),
    let clamped := max (s.axis x).cfg.softLow (min (s.axis x).cfg.softHigh home)
    s.takeHome x home =
      (s.putAxis x { s.axis x with remN := 0, position := clamped, valid := true }).post (axisLine x) .homed ∧
    s.takeVirtualHome x home = s.putAxis x { s.axis x with virtual := clamped }) ∧
  (∀ (x : AxisId) (s : State), s.paired x = false → (s.axis x).state ≠ .disarmed →
    let t := s.seekMiss x
    t = (s.post (axisLine x) .seekMiss).disarm x true ∧
    t.axis x =
      { s.axis x with
        state := .disarmed, chain := [], start := none, rate := 0, acc := 0, jamCount := 0, dwell := 0, disposition := none,
        restartWait := false } ∧
    (∀ y, y ≠ x → t.axis y = s.axis y) ∧ t.alerts = s.alerts ∧
    ((s.axis x).chain.Nodup → ∀ i, (t.cue i).pins = (s.cue i).pins - if i ∈ (s.axis x).chain then 1 else 0) ∧
    (s.part.condition = .inService → (t.line (axisLine x)).causes.getLsbD Cause.seekMiss.bit = true))

/-- An immediate halt of an unpaired axis, for each of its causes: it becomes DISARMED with its chain unpinned and absent,
keeps its position, counts and current cue, loses its position-valid flag when it was moving and did not rehearse, posts
HALTED, END_STOP or JAM, and leaves every other axis; then an end-stop trip raises a LIMIT_TRIP and a jam a JAM alert, of
severity LOCKOUT, with the axis as source and the axis's station (R76, R80, R47). A DISARMED axis is left as it was. What an
axis does with ABANDON and DISARM by its state (R74): a RUNNING axis goes to STOPPING, a STOPPING one raises its disposition
and never lowers it, a PENDING one is withdrawn and settles, DWELLING and PAUSED ones settle at once, an ARMED one is disarmed
by DISARM with its chain unpinned and keeps still under ABANDON, and a DISARMED one keeps still. That the dwell and the restart
wait are 0 and clear after it is log entry 13. -/
def Obligations.HaltAndDisposition : Prop :=
  (∀ (x : AxisId) (s : State), s.paired x = false →
      let a := s.axis x
      let after : Axis :=
        { a with
          state := .disarmed, chain := [], start := none, rate := 0, acc := 0, jamCount := 0, dwell := 0,
          disposition := none, restartWait := false
          valid := a.valid && !((a.state = .running ∨ a.state = .stopping) ∧ s.rehearses x = false : Bool) }
      (a.state = .disarmed → ∀ why, s.halt x why = s) ∧
      (a.state ≠ .disarmed →
        (∀ why, (s.halt x why).axis x = after) ∧
        ∃ halted : Cause → State,
          s.halt x .halted = halted .halted ∧
          s.halt x .endStop = ((halted .endStop).raise .limitTrip .lockout x.val a.cfg.station).1 ∧
          s.halt x .jam = ((halted .jam).raise .jam .lockout x.val a.cfg.station).1 ∧
          ∀ c, c = .halted ∨ c = .endStop ∨ c = .jam →
            (halted c).axis x = after ∧ (∀ y, y ≠ x → (halted c).axis y = s.axis y) ∧ (halted c).alerts = s.alerts ∧
            (∀ e ∈ (halted c).arbiter.waiting, e.axis ≠ x) ∧
            (a.chain.Nodup → ∀ i, ((halted c).cue i).pins = (s.cue i).pins - if i ∈ a.chain then 1 else 0) ∧
            (s.part.condition = .inService → ((halted c).line (axisLine x)).causes.getLsbD c.bit = true))) ∧
  (∀ (x : AxisId) (s : State) (d : Disposition), d ≠ .pause →
      ((s.axis x).state = .disarmed → s.handDisposition x d = s) ∧
      ((s.axis x).state = .armed → s.handDisposition x .abandon = s) ∧
      ((s.axis x).state = .armed →
        (s.handDisposition x .disarm).axis x =
          { s.axis x with
            state := .disarmed, chain := [], start := none, current := none, rate := 0, acc := 0, jamCount := 0, dwell := 0,
            disposition := none, restartWait := false } ∧
        ((s.axis x).chain.Nodup → ∀ i, ((s.handDisposition x .disarm).cue i).pins =
          (s.cue i).pins - if i ∈ (s.axis x).chain then 1 else 0)) ∧
      ((s.axis x).state = .pending →
        s.handDisposition x d = (s.withdraw x).settleBy x d ∧
        ∀ e ∈ (s.withdraw x).arbiter.waiting, e.axis ≠ s.waitKey x) ∧
      ((s.axis x).state = .dwelling ∨ (s.axis x).state = .paused → s.handDisposition x d = s.settleBy x d) ∧
      ((s.axis x).state = .stopping →
        s.handDisposition x d =
          s.putAxis x
            { s.axis x with
              disposition := some (if (s.axis x).disposition = some .disarm then .disarm else d) }) ∧
      ((s.axis x).state = .running →
        ((s.handDisposition x d).axis x).state = .stopping ∧ ((s.handDisposition x d).axis x).disposition = some d ∧
        ((s.handDisposition x d).axis x).rate = (s.axis x).rate ∧
        ((s.handDisposition x d).axis x).remN = (s.axis x).remN))

/-- SET_AXIS of a configuration in its ranges, in its order of checks (R60): BAD_VALUE where the soft limits do not hold the
position or the pair flag does not fit the axis, the mode or the follower's station; BUSY where the axis, or a follower that
the request concerns, is not as R60 asks. When both pass, the thirteen fields are written, the host demand is kept in DEMAND
mode alone, a change of the end-stop polarity unsettles both stops, and everything else of the axis stands, the position and
its valid flag with it; turning the pair flag off clears the pair context and dissolves the pair: a follower that is ARMED
keeps its state and its chain, its own mode is in force, it takes over the leader's allocation, and the total does not change
(R109); the mark `asLeft` that holds it where R58 says otherwise is log entry 15. A field out of its range is answered
BAD_VALUE. -/
def Obligations.SetAxis : Prop :=
  (∀ (tag axis : Byte) (x : AxisId) (c : AxisConfig) (s : State), s.listening → tag ≠ 0#8 → axis.toNat = x.val → c.held →
    let a := s.axis x
    let y := followerOf x
    let request : Instr :=
      .setAxis tag axis (byteOf (stationCode c.station)) (byteOf (modeCode c.mode))
        (byteOf (flagByte [c.pair, c.repeats, c.invert, c.stopPolarity = .closedHigh])) (byteOf c.runDraw)
        (byteOf c.holdDraw) (BitVec.ofInt 24 c.softLow) (BitVec.ofInt 24 c.softHigh) (byteOf (channelCode c.guard))
        (BitVec.ofNat 16 c.jamThreshold) (byteOf c.jamPersistence)
    let fits := c.softLow ≤ a.position ∧ a.position ≤ c.softHigh ∧
      (c.pair = true →
        isLeader x = true ∧ (c.mode = .block ∨ c.mode = .rehearse) ∧ (s.axis y).cfg.station = c.station)
    let busy := a.state ≠ .disarmed ∨ (c.pair = true ∧ (s.axis y).state ≠ .disarmed) ∨
      (isLeader x = false ∧ s.paired x = true ∧ a.cfg.station ≠ c.station) ∨
      (isLeader x = true ∧ s.paired x = true ∧ c.pair = false ∧ s.isActive y = true)
    let samePolarity := a.cfg.stopPolarity = c.stopPolarity
    let written : Axis :=
      { a with
        cfg := c
        hostDemand := a.hostDemand && decide (c.mode = .demand)
        lowLevel := if samePolarity then a.lowLevel else none
        highLevel := if samePolarity then a.highLevel else none
        lowSample := if samePolarity then a.lowSample else none
        highSample := if samePolarity then a.highSample else none }
    (¬ fits → exec request s = .next (s.reply tag 0xC0#8 .badValue)) ∧
    (fits → busy → exec request s = .next (s.reply tag 0xC0#8 .busy)) ∧
    (fits → ¬ busy → exec request s = .next (s.replyOutcome
      (if a.cfg.pair = true ∧ c.pair = false then
        (let t := (s.putAxis x written).putPair x { run := false, endFlag := false, loops := 0, runSum := 0 }
         t.putAxis y
          { t.axis y with
            asLeft := (t.axis y).state = .armed && ((a.cfg.mode = .rehearse : Bool) != ((t.axis y).cfg.mode = .rehearse)) })
       else s.putAxis x written) tag 0xC0#8 .ok)) ∧
    (fits → ¬ busy → isLeader x = true → s.paired x = true → c.pair = false → (s.pair x).run = false →
      ∃ t : State, exec request s = .next (s.replyOutcome t tag 0xC0#8 .ok) ∧ t.paired x = false ∧
        (t.axis y).state = (s.axis y).state ∧ (t.axis y).chain = (s.axis y).chain ∧ t.mode y = (s.axis y).cfg.mode ∧
        t.allocation x = 0 ∧ t.allocation y = s.allocation x ∧ t.totalAllocation = s.totalAllocation)) ∧
  (∀ (tag axis station mode flags runDraw holdDraw : Byte) (low high : BitVec 24) (guard : Byte) (jam : BitVec 16)
      (times : Byte) (s : State), s.listening → tag ≠ 0#8 →
    8 ≤ axis.toNat ∨ (8 ≤ station.toNat ∧ station ≠ 0xFF#8) ∨ 4 ≤ mode.toNat ∨ 16 ≤ flags.toNat ∨ runDraw = 0#8 ∨
      15 < runDraw.toNat ∨ 3 < holdDraw.toNat ∨ runDraw.toNat < holdDraw.toNat ∨ high.toInt < low.toInt ∨
      (8 ≤ guard.toNat ∧ guard ≠ 0xFF#8) ∨ 1023 < jam.toNat ∨ times = 0#8 ∨ 15 < times.toNat →
    exec (.setAxis tag axis station mode flags runDraw holdDraw low high guard jam times) s =
      .next (s.reply tag 0xC0#8 .badValue))

/-- ARM_AXIS of an unpaired axis, in its order of checks; when all pass, the axis is ARMED on the walked chain, whose entries
are pinned (R61, R49 to R52). An axis with no station is refused with BAD_VALUE. ARM_AXIS of a pair: the follower is refused
with BUSY, and the leader arms both members, each on the chain of its own start index, under the checks against the sums; the
pair context is cleared (R61, R111). An axis armed while it is DISARMED is ARMED on its chain with its start and current cue at
the start index and its ramp values cleared, keeps its position, its valid flag, its host demand and its stop levels, and
leaves every other axis (R61). The mark `asLeft`, cleared by an arming, is log entry 15. -/
def Obligations.ArmAxisAndItsContext : Prop :=
  ((∀ (tag axis start follower : Byte) (x : AxisId) (i : CueId) (st : StationId) (s : State), s.attentive → tag ≠ 0#8 →
      axis.toNat = x.val → start.toNat = i.val → s.paired x = false → (s.axis x).cfg.station = some st →
      let refused := fun (why : Status) (fields : List Byte) => s.replyOutcome s tag 0xC1#8 why fields
      exec (.armAxis tag axis start follower) s = .next
        (if (s.axis x).state ≠ .disarmed then refused .busy []
         else if (s.station st).state = .offline then refused .offline []
         else if (s.station st).state = .locked then refused .locked []
         else if s.part.available.motion = false then refused .fault []
         else match s.walk i with
          | .error (f, j) => refused .chainFault [byteOf f.code, byteOf j.val]
          | .ok chain =>
            if (s.axis x).valid = false ∧ ∃ j ∈ chain, (s.cue j).body.isMoveTo = true then refused .notHomed []
            else if s.rehearses x = false ∧
                (s.arbiter.budget < s.totalAllocation + (s.axis x).cfg.holdDraw ∨
                  s.arbiter.budget < (s.axis x).cfg.runDraw) then refused .noBudget []
            else if ∃ c, (s.axis x).cfg.guard = some c ∧ s.scanner.covers c = false then refused .notEnabled []
            else s.replyOutcome (s.armMember x i chain) tag 0xC1#8 .ok)) ∧
    ∀ (tag axis start follower : Byte) (x : AxisId) (s : State), s.attentive → tag ≠ 0#8 → axis.toNat = x.val →
      start.toNat < 128 → (s.axis x).cfg.station = none → s.paired x = false →
      exec (.armAxis tag axis start follower) s = .next (s.replyOutcome s tag 0xC1#8 .badValue)) ∧
  (∀ (tag axis start follower : Byte) (x : AxisId) (i j : CueId) (st : StationId) (s : State), s.attentive → tag ≠ 0#8 →
      axis.toNat = x.val → start.toNat = i.val → follower.toNat = j.val → s.paired x = true →
      (s.axis x).cfg.station = some st →
      let refused := fun (why : Status) (fields : List Byte) => s.replyOutcome s tag 0xC1#8 why fields
      let y := followerOf x
      (isLeader x = false → exec (.armAxis tag axis start follower) s = .next (refused .busy [])) ∧
      (isLeader x = true → exec (.armAxis tag axis start follower) s = .next
        (if (s.axis x).state ≠ .disarmed ∨ (s.axis y).state ≠ .disarmed then refused .busy []
         else if (s.station st).state = .offline then refused .offline []
         else if (s.station st).state = .locked then refused .locked []
         else if s.part.available.motion = false then refused .fault []
         else match s.walk i, s.walk j with
          | .error (f, k), _ => refused .chainFault [byteOf f.code, byteOf k.val]
          | .ok _, .error (f, k) => refused .chainFault [byteOf f.code, byteOf k.val]
          | .ok chain, .ok chain2 =>
            if ((s.axis x).valid = false ∧ ∃ k ∈ chain, (s.cue k).body.isMoveTo = true) ∨
                ((s.axis y).valid = false ∧ ∃ k ∈ chain2, (s.cue k).body.isMoveTo = true) then refused .notHomed []
            else if s.rehearses x = false ∧
                (s.arbiter.budget < s.totalAllocation + ((s.axis x).cfg.holdDraw + (s.axis y).cfg.holdDraw) ∨
                  s.arbiter.budget < (s.axis x).cfg.runDraw + (s.axis y).cfg.runDraw) then refused .noBudget []
            else if (∃ c, (s.axis x).cfg.guard = some c ∧ s.scanner.covers c = false) ∨
                ∃ c, (s.axis y).cfg.guard = some c ∧ s.scanner.covers c = false then refused .notEnabled []
            else s.replyOutcome
              (((s.armMember x i chain).armMember y j chain2).putPair x { run := false, endFlag := false, loops := 0, runSum := 0 })
              tag 0xC1#8 .ok))) ∧
  (∀ (x : AxisId) (i : CueId) (chain : List CueId) (s : State), (s.axis x).state = .disarmed →
     let a := (s.armMember x i chain).axis x
     a.state = .armed ∧ a.chain = chain ∧ a.start = some i ∧ a.current = some (.entry i) ∧ a.segN = 0 ∧ a.remN = 0 ∧
     a.rate = 0 ∧ a.acc = 0 ∧ a.dwell = 0 ∧ a.jamCount = 0 ∧ a.elapsed = 0 ∧ a.phase = .accel ∧ a.seek = none ∧
     a.disposition = none ∧ a.asLeft = false ∧ a.position = (s.axis x).position ∧ a.valid = (s.axis x).valid ∧
     a.hostDemand = (s.axis x).hostDemand ∧ a.lowLevel = (s.axis x).lowLevel ∧ a.highLevel = (s.axis x).highLevel ∧
     (∀ y, y ≠ x → (s.armMember x i chain).axis y = s.axis y) ∧
     ∀ j, chain.Nodup → ((s.armMember x i chain).cue j).pins = (s.cue j).pins + if j ∈ chain then 1 else 0)

/-- TRIGGER_AXIS: BUSY unless the axis is ARMED, is not a paired follower, has its partner ARMED when it leads a pair, and its
station is READY or SHOWING; when taken, a READY station goes to SHOWING, a SHOWING one restarts its idle time, the axis is
triggered, and the activity test follows (R63, R26, R112). DISARM_AXIS: an unpaired ARMED axis becomes DISARMED in one step
with its unpinning; in any other state the reply is BUSY and nothing changes. For a pair it reaches every ARMED member, unless
a member is active (R62, R111). -/
def Obligations.TriggerAxisAndDisarmAxis : Prop :=
  (∀ (tag axis : Byte) (x : AxisId) (st : StationId) (s : State), s.attentive → tag ≠ 0#8 → axis.toNat = x.val →
      (s.axis x).cfg.station = some st →
      let free := (s.axis x).state = .armed ∧
        (s.paired x = true → isLeader x = true ∧ (s.axis (followerOf x)).state = .armed)
      ((free ∧ (s.station st).state = .ready) → exec (.triggerAxis tag axis) s = .next (s.replyOutcome
        (((s.enterShowing st).trigger x).testActivity st) tag 0xC3#8 .ok)) ∧
      ((free ∧ (s.station st).state = .showing) → exec (.triggerAxis tag axis) s = .next (s.replyOutcome
        (((s.putStation st { s.station st with idleTime := 0 }).trigger x).testActivity st) tag 0xC3#8 .ok)) ∧
      (¬ free ∨ ((s.station st).state ≠ .ready ∧ (s.station st).state ≠ .showing) →
        exec (.triggerAxis tag axis) s = .next (s.replyOutcome s tag 0xC3#8 .busy))) ∧
  (∀ (tag axis : Byte) (x : AxisId) (s : State), s.attentive → tag ≠ 0#8 → axis.toNat = x.val →
      (s.paired x = false →
        exec (.disarmAxis tag axis) s = .next
          (if (s.axis x).state = .armed then s.replyOutcome (s.disarm x false) tag 0xC2#8 .ok
           else s.replyOutcome s tag 0xC2#8 .busy)) ∧
      (s.paired x = true →
        exec (.disarmAxis tag axis) s = .next
          (if s.isActive (leaderOf x) = true ∨ s.isActive (followerOf x) = true ∨
              ((s.axis (leaderOf x)).state ≠ .armed ∧ (s.axis (followerOf x)).state ≠ .armed) then
            s.replyOutcome s tag 0xC2#8 .busy
           else
            s.replyOutcome
              (([leaderOf x, followerOf x].filter fun y => (s.axis y).state = .armed).foldl (fun t y => t.disarm y false) s)
              tag 0xC2#8 .ok)))

/-- DEMAND_AXIS of a DEMAND axis writes the host demand, and a change of the demand flag reaches the axis as a return or a
drop; outside DEMAND mode, and with a flag other than 0 and 1, it is answered BAD_VALUE (R85, R72, R73). SET_POSITION takes a
value within the soft limits on a DISARMED or ARMED axis, and makes the position valid (R82). STOP_AXIS hands ABANDON to each
active axis that it reaches, and is answered BUSY when none is; HALT_AXIS is answered OK in every state and halts what it
reaches. For a pair each reaches both members (R84, R116, R117), the leader first (log entry 19). -/
def Obligations.DemandAxisSetPositionStopAndHalt : Prop :=
  (∀ (tag axis : Byte) (x : AxisId) (f : Bool) (s : State), s.attentive → tag ≠ 0#8 → axis.toNat = x.val →
      (∀ flag : Byte, 2 ≤ flag.toNat →
        exec (.demandAxis tag axis flag) s = .next (s.replyOutcome s tag 0xC4#8 .badValue)) ∧
      (s.mode x ≠ .demand →
        exec (.demandAxis tag axis (if f then 1#8 else 0#8)) s = .next (s.replyOutcome s tag 0xC4#8 .badValue)) ∧
      (s.mode x = .demand →
        let t := s.putAxis x { s.axis x with hostDemand := f }
        exec (.demandAxis tag axis (if f then 1#8 else 0#8)) s = .next (s.replyOutcome
          (if t.demandFlag x = s.demandFlag x then t
           else if t.demandFlag x then t.demandReturn x else t.demandDrop x) tag 0xC4#8 .ok))) ∧
  (∀ (tag axis : Byte) (x : AxisId) (position : BitVec 24) (s : State), s.listening → tag ≠ 0#8 → axis.toNat = x.val →
      exec (.setPosition tag axis position) s = .next
        (if position.toInt < (s.axis x).cfg.softLow ∨ (s.axis x).cfg.softHigh < position.toInt then
          s.reply tag 0xC7#8 .badValue
         else if (s.axis x).state ≠ .disarmed ∧ (s.axis x).state ≠ .armed then s.reply tag 0xC7#8 .busy
         else (s.putAxis x { s.axis x with position := position.toInt, valid := true }).reply tag 0xC7#8 .ok)) ∧
  (∀ (tag axis : Byte) (x : AxisId) (s : State), s.attentive → tag ≠ 0#8 → axis.toNat = x.val →
     let reached := if s.paired x then [leaderOf x, followerOf x] else [x]
     exec (.haltAxis tag axis) s = .next (s.replyOutcome (reached.foldl (fun t y => t.halt y .halted) s) tag 0xC6#8 .ok) ∧
     ((∃ y ∈ reached, s.isActive y = true) →
       exec (.stopAxis tag axis) s = .next (s.replyOutcome
         ((reached.filter s.isActive).foldl (fun t y => t.handDisposition y .abandon) s) tag 0xC5#8 .ok)) ∧
     ((∀ y ∈ reached, s.isActive y = false) →
       exec (.stopAxis tag axis) s = .next (s.replyOutcome s tag 0xC5#8 .busy)))

/-- A demand drop takes a RUNNING axis to STOPPING with PAUSE at its rate, and a PENDING one off the list to PAUSED with its
steps kept; in every other state nothing changes (R72). A demand return takes a PAUSED axis with steps left back into the list
with its ramp restarted, one without steps left to its next load, and a STOPPING axis with PAUSE back to RUNNING from its rate;
in every other case nothing changes (R73). A station's button demand is asserted while a HOLD button of it is PRESSED or HELD;
a change is handed to the station's DEMAND axes whose host demand is clear (R12, R72), in ascending order (log entry 19). That
the dwell and the restart wait are 0 and clear afterwards is log entry 13. That the increase of an axis marked `asLeft` is its
whole run draw is log entry 15. -/
def Obligations.DemandDropAndReturn : Prop :=
  (∀ (x : AxisId) (s : State),
    let a := s.axis x
    let t := s.demandDrop x
    (a.state = .running →
      t.axis x =
        { a with state := .stopping, disposition := some .pause, jamCount := 0, dwell := 0, restartWait := false } ∧
      t.arbiter = s.arbiter ∧ ∀ y, y ≠ x → t.axis y = s.axis y) ∧
    (a.state = .pending →
      t.axis x =
        { a with
          state := .paused, rate := 0, acc := 0, disposition := none, jamCount := 0, dwell := 0, restartWait := false } ∧
      t.arbiter = { s.arbiter with waiting := s.arbiter.waiting.filter fun e => e.axis ≠ s.waitKey x } ∧
      ∀ y, y ≠ x → t.axis y = s.axis y) ∧
    (a.state ≠ .running → a.state ≠ .pending → t = s)) ∧
  (∀ (x : AxisId) (s : State), s.paired x = false →
    let a := s.axis x
    let t := s.demandReturn x
    (a.state = .paused → a.remN = 0 → t = s.load x) ∧
    (∀ p, a.state = .paused → a.remN ≠ 0 → s.loadedProfile x = some p →
      t.axis x =
        { a with
          state := .pending, rate := p.f, acc := 0, phase := .accel, disposition := none, jamCount := 0, dwell := 0,
          restartWait := false } ∧
      t.arbiter.waiting = s.arbiter.waiting ++
        [{ axis := x, pair := false, increase := a.cfg.runDraw - (if a.asLeft then 0 else a.cfg.holdDraw), waited := 0,
           urgent := false }] ∧
      t.passDue = true) ∧
    (a.state = .stopping → a.disposition = some .pause →
      t.axis x =
        { a with state := .running, phase := .accel, disposition := none, dwell := 0, restartWait := false } ∧
      t.arbiter = s.arbiter) ∧
    (a.state = .stopping → a.disposition ≠ some .pause → t = s) ∧
    (a.state ≠ .paused → a.state ≠ .stopping → t = s)) ∧
  (∀ (st : StationId) (s : State),
    (s.buttonDemand st = true ↔
      ∃ b, (s.button b).role = .roleHold ∧ (s.button b).station = some st ∧
        ((s.button b).state = .pressed ∨ (s.button b).state = .held)) ∧
    s.handDemand st =
      (allAxes.filter fun x => (s.axis x).cfg.station = some st ∧ (s.axis x).hostDemand = false).foldl
        (fun t x =>
          if t.mode x = .demand then (if s.buttonDemand st then t.demandReturn x else t.demandDrop x) else t) s ∧
    ∀ (u : State) (b : ButtonId), (s.button b).station = some st →
      u.demandAfter s b = if u.buttonDemand st = s.buttonDemand st then s else s.handDemand st)

/-- A pair's run (6.5). The leader carries the pair's allocation: the run sum while the run is set, the hold draws of the
members that are not DISARMED while it is clear, 0 in REHEARSE mode (R110). The trigger of a BLOCK pair takes both members to
PENDING and joins one entry; its grant sets the run and the run sum, and each PENDING member loads, the leader first. The
trigger of a REHEARSE pair sets the run, each elapsed time to 0 and each virtual position to the real one, and the ARMED
members load, the leader first (R112). A member that loads a motion during the run goes straight to RUNNING, whatever its
state, with no entry, and counts for the MOTION source from PENDING alone (log entry 29); clamped to 0 steps without a seek it
completes at once; towards a stop that is TRIPPED already it is halted with END_STOP (R66, R80, R113). A leader that loads END
counts a loop and waits one millisecond at its start cue (R114). A follower that loads END settles by its repeat flag, sets the
pair end flag and hands the leader ABANDON: a RUNNING leader goes to STOPPING; a leader that settles with the flag set posts
PAIR_END with its loops and takes its own repeat flag (R115, R116). A trip, a jam or a seek miss leaves its member DISARMED and
a RUNNING partner STOPPING with DISARM, the run set until it has settled; with a partner that is not active both end DISARMED
and the pair settles (R117; an ARMED partner: log entry 21). HALT_AXIS and the STOP line halt both: each that is not DISARMED
becomes so, keeps its current cue and counts, and posts HALTED; the pair's entry is withdrawn, the run is over, and no PAIR_END
is posted (R76, R117). An unpaired axis has its own draw, and 0 in REHEARSE mode (R58), but for one left so by a dissolution
(log entry 15). That dwell and restart wait are 0 and clear after a load or a halt is log entry 13. That a pair keeps its loop
count when it settles is log entry 28. -/
def Obligations.PairRun : Prop :=
  (∀ (x : AxisId) (s : State), s.paired x = true →
    (isLeader x = false → s.allocation x = 0) ∧
    (s.rehearses x = true → s.allocation x = 0) ∧
    (isLeader x = true → s.rehearses x = false →
      s.allocation x =
        if (s.pair x).run then (s.pair x).runSum
        else
          (if (s.axis x).state = .disarmed then 0 else (s.axis x).cfg.holdDraw) +
            if (s.axis (followerOf x)).state = .disarmed then 0 else (s.axis (followerOf x)).cfg.holdDraw)) ∧
  (∀ (x : AxisId) (s : State), s.paired x = true → isLeader x = true →
    let y := followerOf x
    let run := (s.axis x).cfg.runDraw + (s.axis y).cfg.runDraw
    ((s.axis x).state = .armed → s.rehearses x = false →
      let t := s.trigger x
      (t.axis x).state = .pending ∧ (t.axis y).state = .pending ∧ (t.axis x).current = (s.axis x).current ∧
      (t.axis y).current = (s.axis y).current ∧
      t.pair x = { run := false, endFlag := false, loops := 0, runSum := 0 } ∧ t.passDue = true ∧
      t.arbiter.waiting = s.arbiter.waiting ++
        [{ axis := x, pair := true, increase := run - ((s.axis x).cfg.holdDraw + (s.axis y).cfg.holdDraw), waited := 0,
           urgent := false }]) ∧
    (∀ e : PendingEntry, e.axis = x → e.pair = true →
      let t := s.grant e
      let load := fun (u : State) (m : AxisId) => if (u.axis m).state = .pending ∧ (u.pair m).run then u.load m else u
      t.pair x = { s.pair x with run := true, runSum := run } ∧ t.axes = s.axes ∧ t.arbiter.pointer = x ∧
      t.arbiter.waiting = (s.arbiter.waiting.filter fun f => f.axis ≠ x) ∧
      (s.rehearses x = false → t.allocation x = run) ∧
      t.afterGrant e = (load (load t x) y).settlePair x) ∧
    ((s.pair x).run = true →
      let t := s.chainEnd x
      t.axis x =
        { s.axis x with
          state := .dwelling, dwell := 1, restartWait := true, current := (s.axis x).start.map .entry, rate := 0, acc := 0,
          jamCount := 0, disposition := none } ∧
      t.pair x = { s.pair x with loops := min 255 ((s.pair x).loops + 1) } ∧
      t.line (axisLine x) = s.line (axisLine x) ∧ t.axis y = s.axis y)) ∧
  (∀ (x : AxisId) (s : State), s.paired x = true → isLeader x = true → (s.pair x).run = true →
    let y := followerOf x
    (s.axis y).state ≠ .disarmed →
    let t := s.chainEnd y
    ((t.axis y).state = if (s.axis y).cfg.repeats then .armed else .disarmed) ∧
    (s.part.condition = .inService → (t.line (axisLine y)).causes.getLsbD Cause.chainEnd.bit = true) ∧
    ((s.axis x).state = .running →
      (t.axis x).state = .stopping ∧ (t.axis x).disposition = some .abandon ∧
        t.pair x = { s.pair x with endFlag := true }) ∧
    ((s.axis x).state = .dwelling →
      ((t.axis x).state = if (s.axis x).cfg.repeats then .armed else .disarmed) ∧
        t.pair x = { s.pair x with run := false, endFlag := false, runSum := 0 })) ∧
  (∀ (x : AxisId) (s : State), s.paired x = true → isLeader x = true → (s.pair x).endFlag = true →
    (s.axis x).state ≠ .disarmed →
    (((s.settleBy x .abandon).axis x).state = if (s.axis x).cfg.repeats then .armed else .disarmed) ∧
    ((s.settleBy x .disarm).axis x).state = .disarmed ∧
    ∀ d, d ≠ .pause → ((s.settleBy x d).pair x).endFlag = false ∧
      (s.part.condition = .inService →
        ((s.settleBy x d).line (axisLine x)).causes.getLsbD Cause.pairEnd.bit = true ∧
          ((s.settleBy x d).line (axisLine x)).details.pairEnd = some (s.pair x).loops)) ∧
  (∀ (x : AxisId) (s : State), s.paired x = true → (s.pair x).run = true → (s.axis x).state ≠ .disarmed →
    (s.axis (partnerOf x)).state = .running →
    ∀ t, t = s.halt x .endStop ∨ t = s.halt x .jam ∨ t = s.seekMiss x →
      (t.axis x).state = .disarmed ∧ (t.axis x).current = (s.axis x).current ∧
      (t.axis (partnerOf x)).state = .stopping ∧ (t.axis (partnerOf x)).disposition = some .disarm ∧
      (t.pair x).run = true) ∧
  (∀ (x : AxisId) (s : State), s.paired x = true → (s.pair x).run = true → (s.axis x).state ≠ .disarmed →
    (s.axis (partnerOf x)).state = .armed ∨ (s.axis (partnerOf x)).state = .disarmed →
    ∀ t, t = s.halt x .endStop ∨ t = s.halt x .jam ∨ t = s.seekMiss x →
      (t.axis x).state = .disarmed ∧ (t.axis (partnerOf x)).state = .disarmed ∧
      ((s.axis (partnerOf x)).state = .armed → (t.axis (partnerOf x)).chain = []) ∧ (t.pair x).run = false ∧ t.allocation (leaderOf x) = 0) ∧
  (∀ (x : AxisId) (steps : Int) (p : Profile) (seek : Option (StopSide × Int)) (s : State), s.paired x = true →
    (s.pair x).run = true → (s.mode x = .demand → s.demandFlag x = true) →
    (∀ side home, seek = some (side, home) → s.rehearses x = true ∨ (s.axis x).stopLevel side ≠ some true) →
    let a := s.axis x
    let r := s.loadMotion x steps p seek
    let dir := if 0 < steps then Dir.up else if steps < 0 then .down else a.dir
    let n := min steps.natAbs (a.cfg.room (if s.rehearses x then a.virtual else a.position) dir)
    (n = 0 → seek = none → r.2 = true ∧ (r.1.axis x).state = a.state ∧ r.1.arbiter = s.arbiter ∧ r.1.pair x = s.pair x) ∧
    (n ≠ 0 → s.rehearses x = true ∨ seek ≠ none ∨ a.stopLevel dir.stop ≠ some true →
      r.2 = false ∧
      r.1.axis x =
        { a with
          dir := dir, seek := seek.map (·.1), segN := n, remN := n, state := .running, rate := p.f, acc := 0, phase := .accel
          disposition := none, dwell := 0, restartWait := false
          dirLevel := if s.rehearses x then a.dirLevel else (dir = .up : Bool) != a.cfg.invert } ∧
      r.1.arbiter = s.arbiter ∧ r.1.passDue = s.passDue ∧ r.1.pair x = s.pair x ∧
      r.1.scanner = (if a.state = .pending ∧ s.rehearses x = false then s.scanTrigger .motion else s).scanner) ∧
    (n ≠ 0 → s.rehearses x = false → seek = none → a.stopLevel dir.stop = some true →
      r.2 = false ∧ (r.1.axis x).state = .disarmed ∧ (r.1.axis x).valid = false ∧
      (s.part.condition = .inService → (r.1.line (axisLine x)).causes.getLsbD Cause.endStop.bit = true) ∧
      ((s.axis (partnerOf x)).state = .running →
        (r.1.axis (partnerOf x)).state = .stopping ∧ (r.1.axis (partnerOf x)).disposition = some .disarm ∧
          (r.1.pair x).run = true))) ∧
  (∀ (x : AxisId) (s : State), s.paired x = true → isLeader x = true → s.rehearses x = true → (s.axis x).state = .armed →
    let y := followerOf x
    let begun := fun a : Axis => { a with elapsed := 0, virtual := a.position, asLeft := false }
    let t := ((s.putPair x { run := true, endFlag := false, loops := 0, runSum := 0 }).putAxis x (begun (s.axis x))).putAxis y
      (begun (s.axis y))
    let load := fun (u : State) (m : AxisId) => if (u.axis m).state = .armed ∧ (u.pair m).run then u.load m else u
    s.trigger x = load (load t x) y) ∧
  (∀ (x : AxisId) (s : State), s.paired x = true → isLeader x = true →
    let y := followerOf x
    (s.axis x).state ≠ .disarmed ∨ (s.axis y).state ≠ .disarmed →
    let t := s.haltAll [x, y]
    (∀ m, m = x ∨ m = y →
      let a := s.axis m
      (a.state = .disarmed → t.axis m = a ∧ t.line (axisLine m) = s.line (axisLine m)) ∧
      (a.state ≠ .disarmed →
        t.axis m =
          { a with
            state := .disarmed, chain := [], start := none, rate := 0, acc := 0, jamCount := 0, dwell := 0
            disposition := none, restartWait := false
            valid := a.valid && !((a.state = .running ∨ a.state = .stopping) ∧ s.rehearses m = false : Bool) } ∧
        (s.part.condition = .inService → (t.line (axisLine m)).causes.getLsbD Cause.halted.bit = true)) ∧
      (t.line (axisLine m)).causes.getLsbD Cause.pairEnd.bit = (s.line (axisLine m)).causes.getLsbD Cause.pairEnd.bit) ∧
    (∀ m, m ≠ x → m ≠ y → t.axis m = s.axis m) ∧
    t.arbiter = { s.arbiter with waiting := s.arbiter.waiting.filter fun e => e.axis ≠ x } ∧ t.alerts = s.alerts ∧
    t.pair x = if (s.pair x).run then { s.pair x with run := false, endFlag := false, runSum := 0 } else s.pair x) ∧
  (∀ (x : AxisId) (s : State), s.paired x = false →
    let a := s.axis x
    let hold := if a.state = .disarmed then 0 else a.cfg.holdDraw
    s.allocation x =
      if a.cfg.mode = .rehearse then (if a.asLeft then hold else 0)
      else if a.asLeft then 0
      else if a.state = .running ∨ a.state = .stopping then a.cfg.runDraw else hold)

/-! ## The drive budget -/

/-- An entry whose wait reaches the limit becomes urgent, posts GRANT_WAIT on its axis's line and brings a pass; with a wait
limit of 0 nothing becomes urgent (R103, R104). SET_BUDGET writes its three settings together when they lie in their ranges and
B is not below the total allocation; an entry whose waited time has reached the new W becomes urgent, and a pass follows where
B rose or the policy changed (R107, R103). The order of the GRANT_WAIT posts of one SET_BUDGET is log entry 26. -/
def Obligations.EntryUrgentAndSetBudget : Prop :=
  (∀ (x : AxisId) (e : PendingEntry) (s : State), s.arbiter.waiting.filter (fun f => f.axis = x) = [e] →
      (s.arbiter.waitLimit = 0 → exec (.entryUrgent x) s = .next (s.eventOutcome s)) ∧
      (s.arbiter.waitLimit ≠ 0 → e.urgent = true → exec (.entryUrgent x) s = .next (s.eventOutcome
        { s with
          arbiter :=
            { s.arbiter with
              waiting := s.arbiter.waiting.map fun f : PendingEntry =>
                if f.axis = x then { f with waited := max f.waited s.arbiter.waitLimit } else f } })) ∧
      (s.arbiter.waitLimit ≠ 0 → e.urgent = false → exec (.entryUrgent x) s = .next (s.eventOutcome
        ({ s with
            arbiter :=
              { s.arbiter with
                waiting := s.arbiter.waiting.map fun f : PendingEntry =>
                  if f.axis = x then { f with waited := max f.waited s.arbiter.waitLimit, urgent := true } else f }
            passDue := true }.post (axisLine x) .grantWait)))) ∧
  (∀ (tag budget policy : Byte) (wait : BitVec 16) (pol : Policy) (s : State), s.attentive → tag ≠ 0#8 →
      policyOf policy = some pol →
      exec (.setBudget tag budget policy wait) s = .next
        (if budget.toNat < 1 ∨ 63 < budget.toNat ∨ 10000 < wait.toNat then s.replyOutcome s tag 0xD0#8 .badValue
         else if budget.toNat < s.totalAllocation then s.replyOutcome s tag 0xD0#8 .overAllocated
         else s.replyOutcome
          ({ s with
            arbiter := { s.arbiter with budget := budget.toNat, policy := pol, waitLimit := wait.toNat }
            passDue := decide (s.arbiter.budget < budget.toNat ∨ pol ≠ s.arbiter.policy) }.markUrgent
            fun e => wait.toNat != 0 && wait.toNat ≤ e.waited) tag 0xD0#8 .ok))

/-- The priority order holds the eight axes once each: in ascending order under FIXED, and from the axis after the pointer
round to the pointer's own under ROTATING (R105). A pass takes the urgent entries one by one, the oldest first: each that fits
is granted, and the first that does not ends the pass; when none is left it takes the axes in the order of its beginning, and
grants each entry that fits against the total as the grants before it have raised it (R106). The grant of an unpaired PENDING
axis that does not rehearse raises the total by run draw less the hold draw that it holds (none for one marked `asLeft`, log
entry 15), takes the axis to RUNNING, its entry off the list and the pointer to the axis; an entry that fits therefore leaves
the total within B (R106). An event that marks a pass or lowers the total allocation takes one after its own changes, on the
list in which the entries that joined in it stand behind the others in ascending order of axis number; what follows the grants
comes after the pass, in their order, and brings another where it marks one or lowers the total again; any other event leaves
its own change (R101, R104). So one waiting entry that fits is granted, and one that does not fit stays. What follows the grant
of an unpaired axis is the look at its stop in the travel direction: one TRIPPED already is the home of the seek that names it,
and a halt with END_STOP otherwise; a stop that is not TRIPPED leaves all as it stands (R67, R79, R80). That the pass comes
once at the end of the event's changes, that what follows its grants comes after it, and that an event takes at most 12 passes
is log entry 6. -/
def Obligations.PassOrderAndGrant : Prop :=
  (∀ s : State,
      (s.arbiter.policy = .fixed → s.passOrder = [0, 1, 2, 3, 4, 5, 6, 7]) ∧
      (s.arbiter.policy = .rotating →
        s.passOrder.Nodup ∧ s.passOrder.length = 8 ∧ s.passOrder.getLast? = some s.arbiter.pointer ∧
          ∀ (k : Nat) (x y : AxisId), s.passOrder[k]? = some x → s.passOrder[k + 1]? = some y →
            y.val = (x.val + 1) % 8)) ∧
  (∀ (s : State) (before after : List PendingEntry) (e : PendingEntry),
      s.arbiter.waiting = before ++ e :: after → (∀ f ∈ before, f.urgent = false) → e.urgent = true →
      s.arbiter.budget < s.totalAllocation + e.increase → s.passGrants = (s, [])) ∧
  (∀ s : State, (s.arbiter.waiting.map (·.axis)).Nodup →
      let fits := fun (t : State) (e : PendingEntry) => t.totalAllocation + e.increase ≤ s.arbiter.budget
      let urgent := (s.arbiter.waiting.filter (·.urgent)).foldl
        (fun (r : State × List PendingEntry × Bool) e =>
          if r.2.2 then r
          else if fits r.1 e then (r.1.grant e, r.2.1 ++ [e], false)
          else (r.1, r.2.1, true))
        (s, [], false)
      let ordered := s.passOrder.foldl
        (fun (r : State × List PendingEntry) x =>
          match r.1.arbiter.waiting.find? (·.axis = x) with
          | none => r
          | some e => if fits r.1 e then (r.1.grant e, r.2 ++ [e]) else r)
        (urgent.1, urgent.2.1)
      s.passGrants = if urgent.2.2 then (urgent.1, urgent.2.1) else ordered) ∧
  (∀ (s : State) (e : PendingEntry), e.pair = false → s.paired e.axis = false → s.rehearses e.axis = false →
     (s.axis e.axis).state = .pending → (s.axis e.axis).cfg.holdDraw ≤ (s.axis e.axis).cfg.runDraw →
     e.increase = (s.axis e.axis).cfg.runDraw - (if (s.axis e.axis).asLeft then 0 else (s.axis e.axis).cfg.holdDraw) →
     let t := s.grant e
     (t.axis e.axis).state = .running ∧ t.arbiter.pointer = e.axis ∧ (∀ f ∈ t.arbiter.waiting, f.axis ≠ e.axis) ∧
     t.totalAllocation = s.totalAllocation + e.increase ∧
     (s.fits e = true → t.totalAllocation ≤ s.arbiter.budget)) ∧
  (∀ s after : State,
      let due := fun s after : State => after.passDue = true ∨ after.totalAllocation < s.totalAllocation
      let pass := fun s after : State =>
        let stood := fun e : PendingEntry => s.arbiter.waiting.any (·.axis = e.axis)
        let listed := after.arbiter.waiting.filter stood ++
          allAxes.flatMap fun x => after.arbiter.waiting.filter fun e => !stood e && e.axis = x
        ({ after with passDue := false, arbiter := { after.arbiter with waiting := listed } } : State).passGrants
      let next := fun s after : State => (pass s after).2.foldl (fun t e => t.afterGrant e) (pass s after).1
      s.settled after = settleEvent 12 s after ∧
      (∀ n, due s after → settleEvent (n + 1) s after = settleEvent n (pass s after).1 (next s after)) ∧
      (∀ n, ¬ due s after → settleEvent n s after = after) ∧
      (due s after → ¬ due (pass s after).1 (next s after) → s.settled after = next s after)) ∧
  (∀ (s after : State) (e : PendingEntry), after.passDue = true ∨ after.totalAllocation < s.totalAllocation →
      after.arbiter.waiting = [e] →
      (after.fits e = false → s.settled after = { after with passDue := false }) ∧
      (after.fits e = true → e.pair = false → (after.axis e.axis).cfg.holdDraw ≤ (after.axis e.axis).cfg.runDraw →
        after.paired e.axis = false → after.rehearses e.axis = false →
        (after.axis e.axis).stopLevel (after.axis e.axis).dir.stop ≠ some true →
        s.settled after = ({ after with passDue := false } : State).grant e)) ∧
  (∀ (s : State) (e : PendingEntry), e.pair = false →
      let x := e.axis
      let a := s.axis x
      let trips := (a.state = .running ∨ a.state = .stopping) ∧ s.rehearses x = false ∧ a.stopLevel a.dir.stop = some true
      (¬ trips → s.afterGrant e = s) ∧
      (trips → a.seek ≠ some a.dir.stop → s.afterGrant e = s.halt x .endStop) ∧
      (trips → a.seek = some a.dir.stop →
        s.afterGrant e =
          let home := ((s.currentEntry x).bind (·.body.home)).getD 0
          let t := (s.putAxis x
            { a with remN := 0, valid := true, position := max a.cfg.softLow (min a.cfg.softHigh home) }).post (axisLine x) .homed
          if a.state = .stopping then t.completeStopping x else t.completeAndGoOn x))

/-! ## The sense scanner -/

/-- The filter (R129): an unseeded channel takes the result and becomes seeded; otherwise y moves by the floor of the
difference over 2^k. The filtered value stays within 0..1023 and between its old value and the result, a result below y moves
it by at least 1, and a result above y leaves it where it is exactly when it lies less than 2^k above. The rule's worked
figures are reproduced. -/
def Obligations.FilterStep : Prop :=
  (∀ (r : Channel) (x : Nat),
    (r.filter x).filtered = filterStep r.seeded r.shift r.filtered x ∧ (r.filter x).seeded = true) ∧
  (∀ k y x : Nat, filterStep false k y x = x) ∧
  (∀ k y x : Nat, y ≤ 1023 → x ≤ 1023 →
    let z := filterStep true k y x
    (z : Int) = (y : Int) + ((x : Int) - y) / 2 ^ k ∧ z ≤ 1023 ∧
    (y ≤ x → y ≤ z ∧ z ≤ x) ∧ (x < y → x ≤ z ∧ z < y) ∧ (k = 0 → z = x) ∧
    (y ≤ x → (z = y ↔ x - y < 2 ^ k))) ∧
  filterStep true 2 600 100 = 475 ∧ filterStep true 2 600 603 = 600 ∧ filterStep true 2 603 600 = 602 ∧
  filterStep true 2 602 600 = 601 ∧ filterStep true 2 601 600 = 600

/-- The store of a result (R128 to R132): the raw value and the filter, then the fresh flag, with the overrun flag where it was
set already, then the window step, whose cause goes before OVERRUN, then the jam guard. The class is LOW below the window low,
HIGH above the window high, IN otherwise. The window step: UNKNOWN takes the class at once; the present class ends the run; a
run of the persistence's length changes the window state, and a shorter one is counted. The jam guard compares every RUNNING
axis outside REHEARSE mode that has the channel as its guard: above its threshold its jam count rises by 1, otherwise it
becomes 0; each axis whose count has reached its persistence halts, in ascending order (log entry 16). -/
def Obligations.ResultIsStored : Prop :=
  (∀ r : Channel,
    (r.filtered < r.windowLow → r.classOf = .low) ∧
    (r.windowLow ≤ r.filtered → r.windowHigh < r.filtered → r.classOf = .high) ∧
    (r.windowLow ≤ r.filtered → r.filtered ≤ r.windowHigh → r.classOf = .inside)) ∧
  (∀ r : Channel,
    let c := r.classOf
    let n := if r.candidate = some c then r.candidateCount + 1 else 1
    (r.window = none → r.windowStep = ({ r with window := some c, candidate := none, candidateCount := 0 }, some c)) ∧
    (r.window = some c → r.windowStep = ({ r with candidate := none, candidateCount := 0 }, none)) ∧
    (r.window ≠ none → r.window ≠ some c → n = r.persistence →
      r.windowStep = ({ r with window := some c, candidate := none, candidateCount := 0 }, some c)) ∧
    (r.window ≠ none → r.window ≠ some c → n ≠ r.persistence →
      r.windowStep = ({ r with candidate := some c, candidateCount := n }, none))) ∧
  (∀ (c : ChannelId) (x : Nat) (s : State),
    let r := s.channel c
    let marked : Channel :=
      { r with
        raw := x, filtered := filterStep r.seeded r.shift r.filtered x, seeded := true, fresh := true
        overrun := r.overrun || r.fresh }
    let t := s.putChannel c marked.windowStep.1
    let windowed := match marked.windowStep.2 with
      | none => t
      | some .low => t.post (channelLine c) .windowLow
      | some .inside => t.post (channelLine c) .windowIn
      | some .high => t.post (channelLine c) .windowHigh
    s.store c x = (if r.fresh then windowed.post (channelLine c) .overrun else windowed).jamGuard c) ∧
  (∀ (c : ChannelId) (s : State),
    let guarded := fun x : AxisId =>
      (s.axis x).state = .running ∧ s.rehearses x = false ∧ (s.axis x).cfg.guard = some c
    let count := fun x : AxisId =>
      if (s.axis x).cfg.jamThreshold < (s.channel c).filtered then (s.axis x).jamCount + 1 else 0
    ∃ t : State,
      t = { s with axes := t.axes } ∧
      (∀ x, (guarded x → t.axis x = { s.axis x with jamCount := count x }) ∧ (¬ guarded x → t.axis x = s.axis x)) ∧
      s.jamGuard c =
        (allAxes.filter fun x =>
          (s.axis x).state = .running && !s.rehearses x && (s.axis x).cfg.guard = some c &&
            decide ((s.axis x).cfg.jamPersistence ≤ count x)).foldl (fun u x => u.halt x .jam) t)

/-- A conversion completes: its result is stored, and the scan goes on to the next channel, wrapping after A7, or ends at ce
with SCAN_DONE; then ONCE goes to IDLE and CONTINUOUS begins again at cs (R120, R119). The timed triggers: with the PERIOD
source an expiry reloads the timer, starts a scan in IDLE and posts SCAN_LATE while SCANNING; a falling edge does the same for
the EXTERNAL source and is ignored otherwise (R125, R127, R123). The MOTION source: an axis that does not rehearse and enters
RUNNING from PENDING starts a scan in IDLE; every other entry, and one that finds the scanner SCANNING, leaves the scanner, and
none posts a cause on its line; the grant of an unpaired axis is such an entry (R126). That it is the state alone that counts,
also for a pair member whose earlier entries completed at once, is log entry 29. -/
def Obligations.ConversionAndTimedTriggers : Prop :=
  (∀ (result : BitVec 10) (c : ChannelId) (s : State), s.scanner.state = .scanning c →
      exec (.conversionComplete result) s = .next (s.eventOutcome
        (let t := s.store c result.toNat
         if c = t.scanner.endCh then
          (let d := t.post scannerLine .scanDone
           { d with
            scanner :=
              { d.scanner with
                state := if d.scanner.mode = .once then .idle else .scanning d.scanner.startCh } })
         else { t with scanner := { t.scanner with state := .scanning ⟨(c.val + 1) % 8, by omega⟩ } }))) ∧
  (∀ s : State,
      let start := fun t : State => match t.scanner.state with
        | .off => t
        | .idle => { t with scanner := { t.scanner with state := .scanning t.scanner.startCh } }
        | .scanning _ => t.post scannerLine .scanLate
      (s.scanner.state ≠ .off → s.scanner.source = .period →
        exec .periodExpiry s = .next (s.eventOutcome
          (start { s with scanner := { s.scanner with periodRemaining := some s.scanner.period } }))) ∧
      (s.part.condition ≠ .testing →
        let u : State :=
          { s with pins := { s.pins with trigger := false }, scanner := { s.scanner with triggerLevel := some false } }
        (s.scanner.source = .external → exec .triggerFallingEdge s = .next (s.eventOutcome (start u))) ∧
        (s.scanner.source ≠ .external → exec .triggerFallingEdge s = .next (s.eventOutcome u)))) ∧
  (∀ (s : State) (x : AxisId) (new : AxisState) (f : Axis → Axis),
      let t := s.enter x new f
      t.line scannerLine = s.line scannerLine ∧
      ((s.axis x).state = .pending → new = .running → s.rehearses x = false → s.scanner.source = .motion →
        s.scanner.state = .idle → t.scanner = { s.scanner with state := .scanning s.scanner.startCh }) ∧
      ((s.axis x).state ≠ .pending ∨ new ≠ .running ∨ s.rehearses x = true ∨ s.scanner.source ≠ .motion ∨
        s.scanner.state ≠ .idle → t.scanner = s.scanner) ∧
      ∀ e : PendingEntry, e.axis = x → e.pair = false → (s.grant e).scanner = (s.enter x .running).scanner)

/-- SCAN_TRIGGER by the scanner's state and source (R124): it starts a scan in IDLE with the SOFTWARE source, and is refused in
every other case with nothing changed. A route's SCAN acts in the same case alone. -/
def Obligations.ScanTrigger : Prop :=
  ∀ (tag : Byte) (l : LineId) (s : State), s.listening → tag ≠ 0#8 →
    let started := { s with scanner := { s.scanner with state := .scanning s.scanner.startCh } }
    (s.scanner.state = .off ∨ s.scanner.source ≠ .software →
      exec (.scanTrigger tag) s = .next (s.reply tag 0xE2#8 .notEnabled) ∧ s.routeActs l .scan = s) ∧
    (s.scanner.state = .idle → s.scanner.source = .software →
      exec (.scanTrigger tag) s = .next (started.reply tag 0xE2#8 .ok) ∧ s.routeActs l .scan = started) ∧
    (∀ c, s.scanner.state = .scanning c → s.scanner.source = .software →
      exec (.scanTrigger tag) s = .next (s.reply tag 0xE2#8 .busy) ∧ s.routeActs l .scan = s)

/-- SCAN_ENABLE: at 1 an OFF scanner that is available goes to IDLE with every channel prepared, its values kept; at 0 it goes
OFF unless an axis that is not DISARMED has a guard channel (R121, R122). SET_SCAN and SET_CHANNEL write their fields together
while the scanner is OFF, and are answered BUSY otherwise (R134, R135). -/
def Obligations.ScannerSetup : Prop :=
  (∀ (tag : Byte) (s : State), s.listening → tag ≠ 0#8 →
      (s.scanner.state ≠ .off → exec (.scanEnable tag) s = .next (s.reply tag 0xE1#8 .ok)) ∧
      (s.scanner.state = .off → s.part.available.scanner = false →
        exec (.scanEnable tag) s = .next (s.reply tag 0xE1#8 .fault)) ∧
      (s.scanner.state = .off → s.part.available.scanner = true →
        ∃ t : State, exec (.scanEnable tag) s = .next (t.reply tag 0xE1#8 .ok) ∧
          t = { s with channels := t.channels, scanner := t.scanner } ∧
          t.scanner =
            { s.scanner with
              state := .idle
              periodRemaining := if s.scanner.source = .period then some s.scanner.period else none } ∧
          ∀ c, t.channel c =
            { s.channel c with
              seeded := false, fresh := false, overrun := false, window := none, candidate := none,
              candidateCount := 0 }) ∧
      ((∃ x, (s.axis x).state ≠ .disarmed ∧ (s.axis x).cfg.guard ≠ none) →
        exec (.scanDisable tag) s = .next (s.reply tag 0xE1#8 .inUse)) ∧
      ((∀ x, (s.axis x).state = .disarmed ∨ (s.axis x).cfg.guard = none) →
        exec (.scanDisable tag) s = .next
          ({ s with scanner := { s.scanner with state := .off, periodRemaining := none } }.reply tag 0xE1#8 .ok))) ∧
  (∀ (tag : Byte) (s : State), s.listening → tag ≠ 0#8 →
      (∀ (a b mode source sample : Byte) (period : BitVec 16) (cs ce : ChannelId) (m : ScanMode) (src : ScanSource),
        a.toNat = cs.val → b.toNat = ce.val → scanModeOf mode = some m → scanSourceOf source = some src →
        1 ≤ period.toNat → period.toNat ≤ 1000 → sample = 8#8 ∨ sample = 16#8 ∨ sample = 32#8 ∨ sample = 64#8 →
        exec (.setScan tag a b mode source period sample) s = .next
          (if s.scanner.state ≠ .off then s.reply tag 0xE0#8 .busy
           else
            { s with
              scanner :=
                { s.scanner with
                  startCh := cs, endCh := ce, mode := m, source := src, period := period.toNat,
                  sampleTime := sample.toNat } }.reply tag 0xE0#8 .ok)) ∧
      (∀ (ch k persistence : Byte) (low high : BitVec 16) (c : ChannelId), ch.toNat = c.val → k.toNat ≤ 3 →
        low.toNat ≤ high.toNat → high.toNat ≤ 1023 → 1 ≤ persistence.toNat → persistence.toNat ≤ 15 →
        exec (.setChannel tag ch k low high persistence) s = .next
          (if s.scanner.state ≠ .off then s.reply tag 0xE3#8 .busy
           else
            (s.putChannel c
              { s.channel c with
                shift := k.toNat, windowLow := low.toNat, windowHigh := high.toNat,
                persistence := persistence.toNat }).reply tag 0xE3#8 .ok)))

/-! ## The STOP line and the alerts -/

/-- The STOP line's assertion halts every axis and raises the STOP_LINE alert for ALL (R150, R77), the axes in ascending order
(log entry 19), and its release clears the alert's condition; a level that does not change, or that comes during the test, is
only taken (R150, R77). A RAISED record below level 3 escalates by one level with its time at 0 and posts ESCALATED; a record
that is ACKNOWLEDGED, at level 3 or not stored is left alone (R145). A blink clock's phase change: it enters its other phase
with phase time 0, and nothing else of the lamps moves (R164). -/
def Obligations.StopLineEscalationAndBlinkPhase : Prop :=
  (∀ s : State,
     let assert' := { s.driveStop true with stopLine := { level := some true, sample := some true, run := 5 } }
     let release := { s.driveStop false with stopLine := { level := some false, sample := some false, run := 5 } }
     (s.part.condition ≠ .testing → s.stopLine.level ≠ some true →
       exec .stopLineAssert s = .next (s.eventOutcome
         ((allAxes.foldl (fun t x => t.halt x .halted) assert').raise .stopLine .lockout 0 none).1)) ∧
     (s.part.condition = .testing ∨ s.stopLine.level = some true →
       exec .stopLineAssert s = .next (s.eventOutcome assert')) ∧
     (s.part.condition ≠ .testing → s.stopLine.level ≠ some false →
       exec .stopLineRelease s = .next (s.eventOutcome (release.clearCondition .stopLine 0 none))) ∧
     (s.part.condition = .testing ∨ s.stopLine.level = some false →
       exec .stopLineRelease s = .next (s.eventOutcome release))) ∧
  (∀ (id : BitVec 16) (s : State), s.part.condition ≠ .testing →
      (∀ r, s.recordOf id.toNat = some r → r.acked = false → r.level < 3 →
        exec (.escalation id) s = .next (s.eventOutcome
          (let q := { r with level := r.level + 1, timeInLevel := 0 }
           (s.putRecords (s.alerts.records.map fun p => if p.id = id.toNat then q else p)).post alertLine .escalated
            fun d => { d with alert := some q.detail }))) ∧
      ((∀ r, s.recordOf id.toNat = some r → r.acked = true ∨ 3 ≤ r.level) →
        exec (.escalation id) s = .next (s.eventOutcome s))) ∧
  (∀ s : State, s.part.condition ≠ .testing →
      exec (.blinkPhaseChange .slow) s = .next (s.eventOutcome
        { s with lamps := { s.lamps with slow := { on := !s.lamps.slow.on, time := 0 } } }) ∧
      exec (.blinkPhaseChange .fast) s = .next (s.eventOutcome
        { s with lamps := { s.lamps with fast := { on := !s.lamps.fast.on, time := 0 } } }))

/-- ACK_ALERT and CLEAR_ALERT by id: 0 is BAD_VALUE, an id not stored NOT_FOUND; a RAISED record is acknowledged and an
ACKNOWLEDGED one left; a condition alert whose condition stands is not cleared, and any other record is removed (R155, R156).
RAISE_ALERT raises a HOST alert with its code as source: it merges into the record of its identity, makes a new one while there
is room, evicts the oldest ACKNOWLEDGED NOTE from a full table, and is lost otherwise (R157, R140 to R142). -/
def Obligations.RaiseAckAndClearAlert : Prop :=
  (∀ (tag : Byte) (id : BitVec 16) (s : State), s.attentive → tag ≠ 0#8 →
     (id = 0#16 → exec (.ackAlert tag id) s = .next (s.replyOutcome s tag 0xF1#8 .badValue) ∧
       exec (.clearAlert tag id) s = .next (s.replyOutcome s tag 0xF2#8 .badValue)) ∧
     (id ≠ 0#16 → s.recordOf id.toNat = none →
       exec (.ackAlert tag id) s = .next (s.replyOutcome s tag 0xF1#8 .notFound) ∧
       exec (.clearAlert tag id) s = .next (s.replyOutcome s tag 0xF2#8 .notFound)) ∧
     (∀ r, id ≠ 0#16 → s.recordOf id.toNat = some r →
       exec (.ackAlert tag id) s = .next (s.replyOutcome (if r.acked then s else s.acknowledge r) tag 0xF1#8 .ok) ∧
       exec (.clearAlert tag id) s = .next
         (if (r.kind = .stuckButton ∨ r.kind = .stopLine) ∧ r.condition = some true then
           s.replyOutcome s tag 0xF2#8 .inUse
          else s.replyOutcome (s.removeRecord r) tag 0xF2#8 .ok))) ∧
  (∀ (tag severity station code : Byte) (sev : Severity) (target : Option StationId) (s : State), s.attentive →
     tag ≠ 0#8 → severityOf severity = some sev → stationRefOf station = some target →
     let mine := fun r : Alert => r.kind = .host ∧ r.source = code.toNat ∧ r.station = target
     (∀ r, s.alerts.records.find? (fun q => mine q) = some r →
       exec (.raiseAlert tag severity station code) s = .next (s.replyOutcome (s.mergeAlert r sev) tag 0xF3#8 .ok
         (1#8 :: le16 r.id))) ∧
     ((∀ r ∈ s.alerts.records, ¬ mine r) → s.alerts.records.length < 16 →
       exec (.raiseAlert tag severity station code) s = .next (s.replyOutcome
         (s.appendAlert .host sev code.toNat target) tag 0xF3#8 .ok (0#8 :: le16 s.alerts.nextId))) ∧
     (∀ v, (∀ r ∈ s.alerts.records, ¬ mine r) → 16 ≤ s.alerts.records.length →
       s.alerts.records.find? (fun r => r.severity = .note && r.acked) = some v →
       exec (.raiseAlert tag severity station code) s = .next (s.replyOutcome
         ((s.removeRecord v).appendAlert .host sev code.toNat target) tag 0xF3#8 .ok (0#8 :: le16 s.alerts.nextId))) ∧
     ((∀ r ∈ s.alerts.records, ¬ mine r) → 16 ≤ s.alerts.records.length →
       (∀ r ∈ s.alerts.records, r.severity = .note → r.acked = false) →
       exec (.raiseAlert tag severity station code) s = .next (s.replyOutcome
         (s.loseAlert .host sev code.toNat target) tag 0xF3#8 .ok [2#8, 0#8, 0#8])))

/-- What the alert table does to its records. A merge raises the repeat count, sets the condition of a condition kind, takes a
higher severity, and reopens a record that was ACKNOWLEDGED or whose severity rose, posting RAISED (R140); a new record stands
at the end with its fields at their first values and RAISED is posted (R141), and the next id goes on from its own, from 65,535
to 1, past every id that a stored record holds (R138); a lost alert posts TABLE_FULL with its fields, and a LOCKOUT sets the
overflow latches of the stations it named (R142, R35). An acknowledgement posts ACKNOWLEDGED and removes a record whose
condition is clear (R146, R148); a removal posts REMOVED (R147); a condition that goes removes an ACKNOWLEDGED record and is
kept otherwise (R148). That a STUCK button's record is removed so, against the words of R7, is log entry 27. A LOCKOUT that
comes to stand or leaves has the stations it names tested, S0 first for ALL (R143; log entry 19). -/
def Obligations.AlertRecords : Prop :=
  ∀ s : State,
    let posted := fun (t : State) (c : Cause) (d : AlertDetail) => t.post alertLine c fun p => { p with alert := some d }
    let detail := fun r : Alert =>
      ({ id := r.id, kind := r.kind, severity := r.severity, station := r.station, source := r.source, acked := r.acked,
         level := r.level, repeats := r.repeats } : AlertDetail)
    let named := fun target : Option StationId => match target with
      | none => ([0, 1, 2, 3, 4, 5, 6, 7] : List StationId)
      | some st => [st]
    let tested := fun (t : State) (target : Option StationId) => (named target).foldl (fun u st => u.testLock st) t
    let written := fun r : Alert =>
      { s with alerts := { s.alerts with records := s.alerts.records.map fun q => if q.id = r.id then r else q } }
    (∀ (r : Alert) (sev : Severity),
      let rises : Bool := severityCode r.severity < severityCode sev
      let opens := r.acked || rises
      let q : Alert :=
        { r with
          repeats := min 255 (r.repeats + 1)
          condition := if r.kind = .stuckButton ∨ r.kind = .stopLine then some true else none
          severity := if rises then sev else r.severity
          acked := false
          level := if opens then 0 else r.level
          timeInLevel := if opens then 0 else r.timeInLevel }
      let t := if opens then posted (written q) .raised (detail q) else written q
      s.mergeAlert r sev = if rises ∧ sev = .lockout then tested t r.station else t) ∧
    (∀ (kind : AlertKind) (sev : Severity) (source : Nat) (target : Option StationId),
      let q : Alert :=
        { id := s.alerts.nextId, kind := kind, severity := sev, station := target, source := source, acked := false,
          condition := if kind = .stuckButton ∨ kind = .stopLine then some true else none, level := 0, timeInLevel := 0,
          repeats := 1, raiseTime := s.part.uptime }
      (∃ n, s.appendAlert kind sev source target =
        (let t := posted { s with alerts := { s.alerts with records := s.alerts.records ++ [q], nextId := n } } .raised
            (detail q)
         if sev = .lockout then tested t target else t) ∧
        (1 ≤ s.alerts.nextId → s.alerts.nextId ≤ 65535 → s.alerts.records.length < 16 →
          ∃ k, n = (s.alerts.nextId + k) % 65535 + 1 ∧ (∀ r ∈ s.alerts.records ++ [q], r.id ≠ n) ∧
            ∀ j, j < k → ∃ r ∈ s.alerts.records ++ [q], r.id = (s.alerts.nextId + j) % 65535 + 1)) ∧
      s.loseAlert kind sev source target =
        (let t := posted s .tableFull
            { id := 0, kind := kind, severity := sev, station := target, source := source, acked := false, level := 0,
              repeats := 0 }
         if sev = .lockout then
          (named target).foldl (fun u st => (u.putStation st { u.station st with latch := true }).testLock st) t
         else t)) ∧
    (∀ r : Alert,
      (s.removeRecord r =
        (let t := posted
            { s with alerts := { s.alerts with records := s.alerts.records.filter fun q => q.id ≠ r.id } } .removed
            (detail r)
         if r.severity = .lockout then tested t r.station else t)) ∧
      (r.acked = true → s.acknowledge r = s) ∧
      (r.acked = false →
        s.acknowledge r =
          (let q : Alert := { r with acked := true }
           let t := posted (written q) .acknowledged (detail q)
           if r.condition = some false then t.removeRecord q else t))) ∧
    ∀ (kind : AlertKind) (source : Nat) (target : Option StationId),
      let mine := fun r : Alert => r.kind = kind ∧ r.source = source ∧ r.station = target
      ((∀ r ∈ s.alerts.records, ¬ mine r) → s.clearCondition kind source target = s) ∧
      ∀ r, s.alerts.records.find? (fun q => mine q) = some r →
        s.clearCondition kind source target =
          (let q : Alert := { r with condition := some false }
           if r.acked then (written q).removeRecord q else written q)

/-! ## The lamps -/

/-- WRITE_LAMPS writes each byte to the column that the pointer names, and bytes beyond column 31 land on column 31; every
other column and every other scene keeps its bits (R166); that the reply's CLIPPED byte is 1 set and 0 clear is log entry 25.
SHOW_SCENE and SET_MIRROR: a value out of range is BAD_VALUE, lamps that are unavailable FAULT, and otherwise the one setting
is written (R168). -/
def Obligations.LampRequests : Prop :=
  (∀ (tag scene start : Byte) (columns : List Byte) (n : SceneId) (c : Fin 32) (s : State), s.listening → tag ≠ 0#8 →
      scene.toNat = n.val → start.toNat = c.val → 1 ≤ columns.length → columns.length ≤ 32 →
      (s.part.available.lamps = false →
        exec (.writeLamps tag scene start columns) s = .next (s.reply tag 0xF8#8 .fault)) ∧
      (s.part.available.lamps = true →
        ∃ t : State, exec (.writeLamps tag scene start columns) s = .next
            (t.reply tag 0xF8#8 .ok [byteOf columns.length, if 32 < c.val + columns.length then 1#8 else 0#8]) ∧
          t = { s with lamps := { s.lamps with scenes := t.lamps.scenes } } ∧
          (∀ m d, m ≠ n → t.column m d = s.column m d) ∧
          (∀ d : Fin 32, d < c → t.column n d = s.column n d) ∧
          (∀ d : Fin 32, c.val + columns.length ≤ d.val → t.column n d = s.column n d) ∧
          (∀ d : Fin 32, c ≤ d → d.val < 31 → ∀ b, columns[d.val - c.val]? = some b → t.column n d = b) ∧
          ∀ b, 32 ≤ c.val + columns.length → columns.getLast? = some b → t.column n 31 = b)) ∧
  (∀ (tag v : Byte) (s : State), s.listening → tag ≠ 0#8 →
      (4 ≤ v.toNat → exec (.showScene tag v) s = .next (s.reply tag 0xFA#8 .badValue)) ∧
      (v.toNat < 4 → s.part.available.lamps = false → exec (.showScene tag v) s = .next (s.reply tag 0xFA#8 .fault)) ∧
      (∀ n : SceneId, v.toNat = n.val → s.part.available.lamps = true →
        exec (.showScene tag v) s = .next ({ s with lamps := { s.lamps with display := n } }.reply tag 0xFA#8 .ok)) ∧
      (2 ≤ v.toNat → exec (.setMirror tag v) s = .next (s.reply tag 0xFB#8 .badValue)) ∧
      (v.toNat < 2 → s.part.available.lamps = false → exec (.setMirror tag v) s = .next (s.reply tag 0xFB#8 .fault)) ∧
      (v.toNat < 2 → s.part.available.lamps = true →
        exec (.setMirror tag v) s = .next
          ({ s with lamps := { s.lamps with mirror := decide (v = 1#8) } }.reply tag 0xFB#8 .ok)))

/-- The lamp outputs and the beacon. A cell shows its overlay value, or the display scene's bit, its column turned about the
middle with the mirror on, where the value is NONE (R161); the overlay value is that of the one record that claims the cell
(R162), by the tables of R15 and R36 (R163). A lamp is lit while the lamps are available, no test runs (R159) and the composed
value is lit. The beacon's patterns are worked out from the records by the tables of R151 and R152, and its outputs follow them
on the blink clocks while the beacon is available (R153). The outputs of an axis: EN is asserted while its own draw, by its
state, is above 0, and BOOST while it is RUNNING or STOPPING, and neither in REHEARSE mode (R58, Table 4-3); STEP shows the
pulses of its latest tick and DIR the level of its latest segment (R58, R90). While the test runs, the beacon is deasserted but
for item 7, and STEP and DIR stand but for item 5 (R57, R189); what these items drive is a free value, of which nothing is said
(log entry 24). -/
def Obligations.LampBeaconAndAxisOutputs : Prop :=
  (∀ (s : State) (cell : Cell),
    (s.overlayValue cell = .on → s.composed cell = true) ∧ (s.overlayValue cell = .off → s.composed cell = false) ∧
    (s.overlayValue cell = .slow → s.composed cell = s.lamps.slow.on) ∧
    (s.overlayValue cell = .fast → s.composed cell = s.lamps.fast.on) ∧
    (∀ shown : Fin 32, s.overlayValue cell = .none → shown.val = (if s.lamps.mirror then 31 - cell.2.val else cell.2.val) →
      s.composed cell = (s.column s.lamps.display shown).getLsbD cell.1.val) ∧
    (s.lampLit cell = true ↔
      s.part.available.lamps = true ∧ s.part.condition ≠ .testing ∧ s.composed cell = true)) ∧
  (∀ (s : State) (cell : Cell),
    let raised := fun scope : Alert → Prop => ∃ r ∈ s.alerts.records, r.acked = false ∧ scope r
    ((∀ b, (s.button b).cell ≠ some cell) → (∀ st, (s.station st).cell ≠ some cell) → s.overlayValue cell = .none) ∧
    (∀ b, (s.button b).cell = some cell → (∀ i, (s.button i).cell = some cell → i = b) →
      (∀ st, (s.button b).role = .roleShow ∨ (s.button b).role = .roleHold → (s.button b).station = some st →
        s.overlayValue cell = match (s.station st).state with
          | .ready => .on
          | .showing => .slow
          | .resting => .off
          | .locked => .none
          | .offline => .none) ∧
      ((s.button b).role = .roleAck →
        (raised (fun r => (s.button b).station = none ∨ r.station = none ∨ r.station = (s.button b).station) →
          s.overlayValue cell = .fast) ∧
        (¬ raised (fun r => (s.button b).station = none ∨ r.station = none ∨ r.station = (s.button b).station) →
          s.overlayValue cell = .none)) ∧
      ((s.button b).role = .roleStop ∨ (s.button b).role = .roleNone → s.overlayValue cell = .none)) ∧
    ∀ st, (s.station st).cell = some cell → (∀ b, (s.button b).cell ≠ some cell) →
      (∀ i, (s.station i).cell = some cell → i = st) →
      ((s.station st).state = .locked → s.overlayValue cell = .fast) ∧
      ((s.station st).state ≠ .locked → raised (fun r => r.station = none ∨ r.station = some st) →
        s.overlayValue cell = .slow) ∧
      ((s.station st).state ≠ .locked → ¬ raised (fun r => r.station = none ∨ r.station = some st) →
        s.overlayValue cell = .none)) ∧
  (∀ s : State,
    let some' := fun sev : Severity => ∃ r ∈ s.alerts.records, r.acked = false ∧ r.severity = sev
    let upTo := fun (sev : Severity) (n : Nat) => ∀ r ∈ s.alerts.records, r.acked = false → r.severity = sev → r.level ≤ n
    (some' .note → upTo .note 0 → s.notePattern = .slow) ∧
    (some' .note → ¬ upTo .note 0 → s.notePattern = .fast) ∧
    (¬ some' .note → (∃ r ∈ s.alerts.records, r.acked = true) → s.notePattern = .steady) ∧
    (¬ some' .note → (∀ r ∈ s.alerts.records, r.acked = false) → s.notePattern = .off) ∧
    (some' .lockout → s.callPattern = .fast) ∧
    (some' .lockout → upTo .lockout 0 → s.sounderPattern = .off) ∧
    (some' .lockout → ¬ upTo .lockout 0 → upTo .lockout 1 → s.sounderPattern = .slow) ∧
    (some' .lockout → ¬ upTo .lockout 1 → s.sounderPattern = .steady) ∧
    (¬ some' .lockout → s.sounderPattern = .off) ∧
    (¬ some' .lockout → some' .call → upTo .call 0 → s.callPattern = .steady) ∧
    (¬ some' .lockout → some' .call → ¬ upTo .call 0 → upTo .call 1 → s.callPattern = .slow) ∧
    (¬ some' .lockout → some' .call → ¬ upTo .call 1 → s.callPattern = .fast) ∧
    (¬ some' .lockout → ¬ some' .call → s.callPattern = .off)) ∧
  (∀ (s : State) (o : BeaconPin),
    let p := match o with
      | .noteLamp => s.notePattern
      | .callLamp => s.callPattern
      | .sounder => s.sounderPattern
    (s.part.condition ≠ .testing →
      (s.beaconOutput o = true ↔
        s.part.available.beacon = true ∧
          (p = .steady ∨ (p = .slow ∧ s.lamps.slow.on = true) ∨ (p = .fast ∧ s.lamps.fast.on = true)))) ∧
    (s.part.condition = .testing → s.part.remaining.head? ≠ some 7 → s.beaconOutput o = false)) ∧
  (∀ (s : State) (x : AxisId),
    let a := s.axis x
    (s.enOutput x = true ↔ s.rehearses x = false ∧ a.state ≠ .disarmed ∧
      0 < if a.state = .running ∨ a.state = .stopping then a.cfg.runDraw else a.cfg.holdDraw) ∧
    (s.boostOutput x = true ↔ s.rehearses x = false ∧ (a.state = .running ∨ a.state = .stopping)) ∧
    (s.part.condition ≠ .testing ∨ s.part.remaining.head? ≠ some 5 →
      s.stepOutput x = a.stepPulses ∧ s.dirOutput x = a.dirLevel))

/-! ## The event lines -/

/-- SET_EVENT writes a line's enable, level, route and mask when the fields lie in their ranges, the mask holds causes of the
class alone, and the route would not act again on its own causes; it leaves the line's flag, causes and details (R177, R173).
CLEAR_EVENTS of a list of lines without repeats clears the flag, the causes, the announced mark and the details of each, keeps
their configuration and every other line, and reports how many held a flag; a repeat or a number out of range clears nothing
(R179). -/
def Obligations.SetEventAndClearEvents : Prop :=
  (∀ (tag line enable level action p1 p2 : Byte) (mask : BitVec 16) (l : LineId) (en : Bool) (route : RouteAction)
      (s : State), s.attentive → tag ≠ 0#8 → line.toNat = l.val → flagOf enable = some en → level.toNat ≤ 7 →
      routeOf action p1 p2 = some route →
      let own := (lineClass l = .station ∧ mask.getLsbD 5 = true) ∨
        (lineClass l = .alert ∧ ∃ sev st, route = .raiseAlert sev st)
      (2 ^ (lineClass l).causeCount ≤ mask.toNat ∨ own →
        exec (.setEvent tag line enable level action p1 p2 mask) s = .next (s.replyOutcome s tag 0x90#8 .badValue)) ∧
      (mask.toNat < 2 ^ (lineClass l).causeCount → ¬ own →
        exec (.setEvent tag line enable level action p1 p2 mask) s = .next (s.replyOutcome
          (s.putLine l { s.line l with enable := en, level := level.toNat, action := route, mask := mask }) tag 0x90#8 .ok))) ∧
  (∀ (tag : Byte) (lines : List Byte) (s : State), s.listening → tag ≠ 0#8 → 1 ≤ lines.length → lines.length ≤ 43 →
      ((∃ b ∈ lines, 43 ≤ b.toNat) ∨ ¬ lines.Nodup →
        exec (.clearEvents tag lines) s = .next (s.reply tag 0x92#8 .badValue)) ∧
      ((∀ b ∈ lines, b.toNat < 43) → lines.Nodup →
        ∃ (t : State) (n : Nat), exec (.clearEvents tag lines) s = .next (t.reply tag 0x92#8 .ok [byteOf n]) ∧
          n = (allLines.filter fun l => byteOf l.val ∈ lines ∧ (s.line l).flag = true).length ∧
          t = { s with lines := t.lines } ∧
          ∀ l : LineId, t.line l =
            if byteOf l.val ∈ lines then
              { s.line l with
                flag := false, causes := 0#16, announced := false,
                details := { mark := none, chainEnd := none, pairEnd := none, alert := none, start := none } }
            else s.line l))

/-! ## The link -/

/-- A character that arrives (R183, R184): a broken one is dropped. In HUNTING only SYNC starts a frame; a LEN outside 2..250
drops it; every other byte of LEN + 1 restarts the gap time and is kept. The last byte of a frame with a good sum brings its
acceptance, and with a bad sum a FRAME_ERROR and a count (R185, R186). GAP_EXPIRY is taken whatever the gap time is (log entry
9): the frame under assembly is discarded and counted; no reply is sent and no cause posted (R184); the gap time stands at 0 in
HUNTING (log entry 14). The receive holder: a good frame that finds the holder empty and a reply waiting behind a frame under
way is held, and one that finds it full is counted as an overrun and lost (R186). The end of a notice, or of a reply other than
RESTART's OK, frees the transmitter: the reply waiting in the slot begins and empties it, and a request held in the holder is
then served as one that arrives at that moment (R187); with nothing waiting the notice choice is taken, and the chosen line's
notice begins, or the transmitter stays FREE (R188, R175). -/
def Obligations.ByteReceivedGapExpiryAndTransmitEnd : Prop :=
  (∀ (c : Byte) (s : State),
      let assembling := fun bytes : List Byte => { s with link := { s.link with receiver := some bytes, gapTime := 0 } }
      let hunting : State := { s with link := { s.link with receiver := none, gapTime := 0 } }
      exec (.byteReceived c false) s = .next (s.eventOutcome s) ∧
      (s.link.receiver = none → c ≠ 0xA5#8 → exec (.byteReceived c true) s = .next (s.eventOutcome s)) ∧
      (s.link.receiver = none → exec (.byteReceived 0xA5#8 true) s = .next (s.eventOutcome (assembling []))) ∧
      (s.link.receiver = some [] → (c.toNat < 2 ∨ 250 < c.toNat) →
        exec (.byteReceived c true) s = .next (s.eventOutcome hunting)) ∧
      (s.link.receiver = some [] → 2 ≤ c.toNat → c.toNat ≤ 250 →
        exec (.byteReceived c true) s = .next (s.eventOutcome (assembling [c]))) ∧
      (∀ len rest, s.link.receiver = some (len :: rest) → rest.length < len.toNat →
        exec (.byteReceived c true) s = .next (s.eventOutcome (assembling (len :: rest ++ [c])))) ∧
      (∀ len rest, s.link.receiver = some (len :: rest) → len.toNat ≤ rest.length →
        (len :: rest ++ [c]).foldl (· + ·) 0#8 ≠ 0#8 →
        exec (.byteReceived c true) s = .next (s.eventOutcome
          ({ hunting with link := { hunting.link with sumCount := min 255 (s.link.sumCount + 1) } }.post systemLine
            .frameError))) ∧
      (∀ len tag kind body, s.link.receiver = some (len :: tag :: kind :: body) → len.toNat ≤ body.length + 2 →
        (len :: tag :: kind :: body ++ [c]).foldl (· + ·) 0#8 = 0#8 →
        (s.link.holder = none →
          exec (.byteReceived c true) s = .next (s.eventOutcome
            { hunting with
              link := { hunting.link with holder := some { tag := tag, kind := kind, body := body } } })) ∧
        (s.link.holder ≠ none →
          exec (.byteReceived c true) s = .next (s.eventOutcome
            { hunting with link := { hunting.link with overrunCount := min 255 (s.link.overrunCount + 1) } })))) ∧
  (∀ s : State, s.link.receiver ≠ none →
      exec .gapExpiry s = .next (s.eventOutcome
        { s with
          link := { s.link with receiver := none, gapTime := 0, gapCount := min 255 (s.link.gapCount + 1) } })) ∧
  (∀ (tag kind : Byte) (body : List Byte) (reply : Frame) (s : State), s.link.tx ≠ .free → s.link.slot = some reply →
      s.passDue = false → s.handed = [] →
      (s.link.holder = none →
        exec (.badKindRequest tag kind body) s = .next
          { s with link := { s.link with holder := some { tag := tag, kind := kind, body := body } } }) ∧
      (s.link.holder ≠ none →
        exec (.badKindRequest tag kind body) s = .next
          { s with link := { s.link with overrunCount := min 255 (s.link.overrunCount + 1) } })) ∧
  (∀ (sent : Frame) (s : State),
      s.link.tx = .sendingNotice sent ∨ (s.link.tx = .sendingReply sent ∧ ¬ (sent.kind = 0x83#8 ∧ sent.body = [0#8])) →
      s.passDue = false → s.handed = [] →
      let freed : State := { s with link := { s.link with tx := .free } }
      (∀ reply, s.link.slot = some reply →
        let begun : State := { s with link := { s.link with tx := .sendingReply reply, slot := none, holder := none } }
        (s.link.holder = none → exec .transmitEnd s = .next begun) ∧
        ∀ held, s.link.holder = some held → exec .transmitEnd s = .next (begun.request held.tag held.kind held.body)) ∧
      (s.link.slot = none → s.link.holder = none →
        (s.chosenLine = none → exec .transmitEnd s = .next freed) ∧
        ∀ l, s.chosenLine = some l →
          exec .transmitEnd s = .next
            { freed.putLine l { s.line l with announced := true } with
              link := { s.link with tx := .sendingNotice { tag := 0#8, kind := 0xFE#8, body := s.noticeBody l } } }))

/-- The bytes of a frame with a body of at most 248 bytes, received one after another in HUNTING, come to the acceptance of
that frame, with the receiver in HUNTING again (R182, R183, R185); its gap time stands at 0 (log entry 14). -/
def Obligations.FrameBytesRoundTrip : Prop :=
  ∀ (f : Frame) (s : State), f.body.length ≤ 248 → s.link.receiver = none →
    f.bytes.foldl State.takeByte s = { s with link := { s.link with gapTime := 0 } }.acceptFrame f

/-- The link's own checks in their order (R187): tag 0, kind, length, STARTING, FAULT. Each answers with the status alone and
changes nothing else. `s.request` is every request command of its kind and body. A good frame of no request kind is answered
BAD_KIND with its tag: under its kind plus 0x80, or under 0xFF for a kind outside 0x01..0x7F (R187). -/
def Obligations.LinkChecksAndBadKind : Prop :=
  (∀ (tag kind : Byte) (body : List Byte) (s : State), s.unoccupied → s.handed = [] →
      let always := kind = 1#8 ∨ kind = 2#8
      let answer := fun st : Status => s.reply tag (replyKind kind) st
      (tag = 0#8 → s.request tag kind body = answer .badValue) ∧
      (tag ≠ 0#8 → kind.toNat ∉ requestCodes → s.request tag kind body = answer .badKind) ∧
      (tag ≠ 0#8 → kind.toNat ∈ requestCodes → lengthFits kind body.length = false →
        s.request tag kind body = answer .badLength) ∧
      (tag ≠ 0#8 → kind.toNat ∈ requestCodes → lengthFits kind body.length = true → s.part.condition = .testing →
        ¬ always → s.request tag kind body = answer .starting) ∧
      (tag ≠ 0#8 → kind.toNat ∈ requestCodes → lengthFits kind body.length = true → s.part.condition = .failed →
        ¬ always → kind ≠ 3#8 → s.request tag kind body = answer .fault)) ∧
  (∀ (tag kind : Byte) (body : List Byte) (s : State), s.unoccupied → s.handed = [] → tag ≠ 0#8 →
      kind.toNat ∉ requestCodes →
      (1 ≤ kind.toNat → kind.toNat ≤ 127 →
        exec (.badKindRequest tag kind body) s = .next (s.reply tag (kind + 0x80#8) .badKind)) ∧
      (kind = 0#8 ∨ 128 ≤ kind.toNat → exec (.badKindRequest tag kind body) s = .next (s.reply tag 0xFF#8 .badKind)))

/-- HELLO and STATUS are served in every part condition; HELLO changes nothing, and STATUS clears the three link counts after
reporting them when its flag is 1 (R192, R193; the counts' order is log entry 11, and that no pattern is reported log entry
23). RESTART is taken in service and when FAILED: it is answered OK, keeps a copy of the cue entries and the lamp scenes as
they stand, unless a RESTART before it did (log entry 18), and changes nothing else until that reply has been sent (R194). -/
def Obligations.HelloStatusAndRestart : Prop :=
  (∀ (tag : Byte) (s : State), s.unoccupied → s.handed = [] → tag ≠ 0#8 →
      exec (.hello tag) s = .next (s.reply tag 0x81#8 .ok
        ([0x49#8, 0x16#8, 0x48#8, 0x43#8, byteOf (conditionOfPartCode s.part.condition),
          byteOf (startKindCode s.part.startKind), s.part.progress, s.part.failure] ++ le32 s.part.uptime.toNat)) ∧
      (let report : List Byte :=
        [byteOf (conditionOfPartCode s.part.condition), byteOf (startKindCode s.part.startKind), s.part.progress,
          s.part.failure, s.statusAvailability, byteOf s.link.gapCount, byteOf s.link.sumCount,
          byteOf s.link.overrunCount, byteOf s.arbiter.budget, byteOf s.totalAllocation,
          byteOf (stopLineCode s.stopLine.level), byteOf (s.storedCount .note), byteOf (s.raisedCount .note),
          byteOf (s.storedCount .call), byteOf (s.raisedCount .call), byteOf (s.storedCount .lockout),
          byteOf (s.raisedCount .lockout)] ++ le32 s.part.uptime.toNat
       exec (.status tag 0#8) s = .next (s.reply tag 0x82#8 .ok report) ∧
       exec (.status tag 1#8) s = .next
        ({ s with link := { s.link with gapCount := 0, sumCount := 0, overrunCount := 0 } }.reply tag 0x82#8 .ok report))) ∧
  (∀ (tag : Byte) (s : State), s.unoccupied → s.handed = [] → tag ≠ 0#8 → s.part.condition ≠ .testing →
      exec (.restart tag) s = .next
        ({ s with kept := some (s.kept.getD { cues := s.cues, scenes := s.lamps.scenes }) }.reply tag 0x83#8 .ok))

/-! ## Reads and refused indices -/

/-- The reads report the part as it stands and change nothing: READ_BUTTONS, READ_AXIS, READ_BUDGET, READ_ALERTS, READ_EVENTS,
READ_CUE, VALIDATE_CHAIN and READ_LAMPS (R18, R86, R108, R154, R181, R54, R56, R167). READ_STATION and READ_SENSE report the
part as it stands; READ_STATION clears the station's two counts when its flag is 1, and READ_SENSE the fresh and overrun flags
of the channels it reports; nothing else changes (R39, R136). An unavailable scanner is reported with the reset values (R136).
A READ_SENSE with a repeated channel or one out of range is answered BAD_VALUE; READ_CUE and VALIDATE_CHAIN are answered FAULT
while the cue table is unavailable, READ_LAMPS while the lamps are (R54, R56, R167). -/
def Obligations.ReadRequests : Prop :=
  (∀ (tag : Byte) (s : State), s.listening → tag ≠ 0#8 →
      exec (.readButtons tag) s = .next (s.reply tag 0xA2#8 .ok
        (byteOf s.buttonTiming.debounce :: le16 s.buttonTiming.stuckLimit ++
          allButtons.flatMap fun b =>
            let r := s.button b
            [byteOf (polarityCode r.polarity), byteOf (roleCode r.role), byteOf (stationCode r.station)] ++
              le16 r.holdThreshold ++ cellCode r.cell ++
              [byteOf (buttonStateCode r.state), byteOf (levelCode r.level), byteOf r.count] ++ le24 r.heldTime)) ∧
      (∀ (axis : Byte) (x : AxisId), axis.toNat = x.val →
        let a := s.axis x
        let c := a.cfg
        exec (.readAxis tag axis) s = .next (s.reply tag 0xC8#8 .ok
          ([byteOf (stationCode c.station), byteOf (modeCode c.mode),
            byteOf (flagByte [c.pair, c.repeats, c.invert, c.stopPolarity = .closedHigh]), byteOf c.runDraw,
            byteOf c.holdDraw] ++
            leInt24 c.softLow ++ leInt24 c.softHigh ++ [byteOf (channelCode c.guard)] ++ le16 c.jamThreshold ++
            [byteOf c.jamPersistence] ++
            [byteOf (axisStateCode a.state), byteOf (s.allocation x), byteOf (startCode a.start),
              byteOf (currentCode a.current)] ++
            le24 a.segN ++ le24 a.remN ++ [byteOf (dirCode a.dir), byteOf (seekCode a.seek)] ++ le16 a.rate ++
            le16 a.acc ++ [byteOf (phaseCode a.phase)] ++ leInt24 a.position ++
            [byteOf (flagByte [a.valid, a.hostDemand, s.demandFlag x, s.enOutput x, s.boostOutput x, a.dirLevel])] ++
            le16 a.dwell ++ [byteOf a.jamCount] ++ le24 a.elapsed ++ leInt24 a.virtual ++
            [byteOf (dispositionCode a.disposition), byteOf (stopCode a.lowLevel), byteOf (stopCode a.highLevel),
              byteOf a.chain.length] ++
            a.chain.map fun i => byteOf i.val))) ∧
      exec (.readBudget tag) s = .next (s.reply tag 0xD1#8 .ok
        ([byteOf s.arbiter.budget, byteOf (policyCode s.arbiter.policy)] ++ le16 s.arbiter.waitLimit ++
          [byteOf s.arbiter.pointer.val, byteOf s.totalAllocation, byteOf (s.arbiter.budget - s.totalAllocation)] ++
          allAxes.map (fun x => byteOf (s.allocation x)) ++
          (([0, 2, 4, 6] : List AxisId).flatMap fun x =>
            [byteOf (flagByte [(s.pair x).run, (s.pair x).endFlag]), byteOf (s.pair x).loops]) ++
          byteOf s.arbiter.waiting.length :: s.arbiter.waiting.flatMap fun e =>
            [byteOf e.axis.val, byteOf (flagCode e.pair), byteOf e.increase] ++ le16 e.waited ++
              [byteOf (flagCode e.urgent)])) ∧
      (∀ first count : Byte, first.toNat ≤ 15 → 1 ≤ count.toNat → count.toNat ≤ 8 →
        let part := (s.alerts.records.drop first.toNat).take count.toNat
        exec (.readAlerts tag first count) s = .next (s.reply tag 0xF0#8 .ok
          ([byteOf s.alerts.records.length, byteOf (s.raisedCount .note), byteOf (s.raisedCount .call),
            byteOf (s.raisedCount .lockout)] ++ le16 s.alerts.nextId ++ le16 s.alerts.noteInterval ++
            le16 s.alerts.callInterval ++ le16 s.alerts.lockoutInterval ++
            [byteOf (patternCode s.notePattern), byteOf (patternCode s.callPattern), byteOf (patternCode s.sounderPattern),
              byteOf (flagCode s.part.available.beacon), byteOf part.length] ++
            part.flatMap fun r =>
              le16 r.id ++
                [byteOf (alertKindCode r.kind), byteOf (severityCode r.severity), byteOf (stationCode r.station),
                  byteOf r.source, byteOf (flagCode r.acked), byteOf (conditionCode r.condition), byteOf r.level] ++
                le32 r.timeInLevel ++ [byteOf r.repeats] ++ le32 r.raiseTime.toNat))) ∧
      (let flagged := allLines.filter fun l => (s.line l).flag
       exec (.readEvents tag) s = .next (s.reply tag 0x91#8 .ok
        (byteOf s.noticeLevel :: byteOf flagged.length :: flagged.flatMap fun l =>
          byteOf l.val :: le16 (s.line l).causes.toNat ++
            [byteOf (flagByte [(s.line l).announced, (s.line l).enable]), byteOf (s.line l).level]))) ∧
      (∀ (first count : Byte) (i : CueId), first.toNat = i.val → 1 ≤ count.toNat → count.toNat ≤ 8 →
        s.part.failure.getLsbD 0 = false →
        exec (.readCue tag first count) s = .next (s.reply tag 0xB1#8 .ok
          (byteOf (min count.toNat (128 - i.val)) :: (cueRun i count.toNat).flatMap fun j =>
            [byteOf (s.cue j).pins, byteOf j.val, byteOf (kindCode (s.cue j).body), byteOf (cueRefCode (s.cue j).next)] ++
              (s.cue j).body.bytes))) ∧
      (s.part.failure.getLsbD 0 = true → ∀ index count : Byte, index.toNat < 128 →
        exec (.validateChain tag index) s = .next (s.reply tag 0xB2#8 .fault) ∧
        (1 ≤ count.toNat → count.toNat ≤ 8 →
          exec (.readCue tag index count) s = .next (s.reply tag 0xB1#8 .fault))) ∧
      (∀ source start count : Byte, source.toNat < 4 ∨ source = 0x80#8 → start.toNat < 32 → 1 ≤ count.toNat →
        count.toNat ≤ 32 → s.part.available.lamps = false →
        exec (.readLamps tag source start count) s = .next (s.reply tag 0xF9#8 .fault)) ∧
      (∀ (start : Byte) (i : CueId), start.toNat = i.val → s.part.failure.getLsbD 0 = false →
        exec (.validateChain tag start) s = .next
          (match s.walk i with
            | .error (f, j) => s.reply tag 0xB2#8 .chainFault [byteOf f.code, byteOf j.val]
            | .ok chain => s.reply tag 0xB2#8 .ok
              ([byteOf chain.length, byteOf (chain.filter fun j => (s.cue j).body.isMotion).length] ++
                le32 (chain.map fun j => (s.cue j).body.stepSum).sum ++
                le32 (chain.map fun j => (s.cue j).body.dwellSum).sum))) ∧
      (∀ (source start count : Byte) (n : SceneId) (c : Fin 32), source.toNat = n.val → start.toNat = c.val →
        1 ≤ count.toNat → count.toNat ≤ 32 → s.part.available.lamps = true →
        exec (.readLamps tag source start count) s = .next (s.reply tag 0xF9#8 .ok
          ([byteOf (min count.toNat (32 - c.val)), byteOf s.lamps.display.val, byteOf (flagCode s.lamps.mirror)] ++
            (columnRun c.val count.toNat).map (s.column n))) ∧
        exec (.readLamps tag 0x80#8 start count) s = .next (s.reply tag 0xF9#8 .ok
          ([byteOf (min count.toNat (32 - c.val)), byteOf s.lamps.display.val, byteOf (flagCode s.lamps.mirror)] ++
            (columnRun c.val count.toNat).map s.composedColumn)))) ∧
  (∀ (tag : Byte) (s : State), s.listening → tag ≠ 0#8 →
      (∀ (station : Byte) (st : StationId), station.toNat = st.val →
        let r := s.station st
        let axes := allAxes.filter fun x => (s.axis x).cfg.station = some st
        let buttons := allButtons.filter fun b => (s.button b).station = some st
        let report := le16 r.restTime ++ le16 r.idleLimit ++ cellCode r.cell ++ [byteOf (stationStateCode r.state)] ++
          le32 r.restRemaining ++ le32 r.idleTime ++ le16 r.shows ++ le16 r.refused ++
          [byteOf (flagByte [r.latch, s.lockoutStored st, s.buttonDemand st])] ++
          byteOf axes.length :: axes.flatMap (fun x => [byteOf x.val, byteOf (axisStateCode (s.axis x).state)]) ++
          byteOf buttons.length :: buttons.flatMap fun b =>
            [byteOf b.val, byteOf (roleCode (s.button b).role), byteOf (buttonStateCode (s.button b).state)]
        exec (.readStation tag station 0#8) s = .next (s.reply tag 0xAA#8 .ok report) ∧
        exec (.readStation tag station 1#8) s = .next
          ((s.putStation st { r with shows := 0, refused := 0 }).reply tag 0xAA#8 .ok report)) ∧
      (∀ channels : List Byte, 1 ≤ channels.length → channels.length ≤ 8 → channels.Nodup →
        (∀ b ∈ channels, b.toNat < 8) →
        ∃ (t : State) (named : List ChannelId), named.map (fun c => byteOf c.val) = channels ∧
          exec (.readSense tag channels) s = .next (t.reply tag 0xE4#8 .ok
            (if s.part.available.scanner then
              [byteOf (scanStateCode s.scanner.state), byteOf (channelCode (currentChannel s.scanner.state)),
                byteOf (scanModeCode s.scanner.mode), byteOf (scanSourceCode s.scanner.source), byteOf s.scanner.startCh.val,
                byteOf s.scanner.endCh.val, byteOf channels.length] ++
              named.flatMap fun c =>
                let r := s.channel c
                byteOf c.val :: le16 r.raw ++ le16 r.filtered ++
                  [byteOf (flagByte [r.seeded, r.fresh, r.overrun]), byteOf (windowCode r.window),
                    byteOf (candidateCode r.candidate), byteOf r.candidateCount]
             else
              [0#8, 0xFF#8, 0#8, 0#8, 0#8, 0#8, byteOf channels.length] ++
                named.flatMap fun c => [byteOf c.val, 0#8, 0#8, 0#8, 0#8, 0#8, 0#8, 0xFF#8, 0#8])) ∧
          t = { s with channels := t.channels } ∧
          ∀ c, t.channel c = if c ∈ named then { s.channel c with fresh := false, overrun := false } else s.channel c) ∧
      ∀ channels : List Byte, 1 ≤ channels.length → channels.length ≤ 8 →
        (∃ b ∈ channels, 8 ≤ b.toNat) ∨ ¬ channels.Nodup →
        exec (.readSense tag channels) s = .next (s.reply tag 0xE4#8 .badValue))

/-- A request whose index lies outside its range is answered BAD_VALUE and changes nothing: a station, an axis or a channel of
0..7, a button or a first record of 0..15, a cue entry of 0..127, an event line of 0..42, a scene of 0..3 or a lamp source of
these and 0x80, and a column of 0..31. So is one that has another field out of its range, a code that Table 12-2 does not list,
or a flag other than 0 and 1, whatever its index; a WRITE_CUE whose fields have not the length of its kind is answered
BAD_LENGTH before that (R53, R195). An ERASE_CUE of a run in range is answered FAULT while the cue table is unavailable (R55).
(SET_AXIS, DEMAND_AXIS, READ_SENSE, CLEAR_EVENTS, the settings written together, the id of an alert and the lamp settings have
theirs with their own statements.) -/
def Obligations.OutOfRangeIsBadValue : Prop :=
  (∀ (tag n a b c d e g h i j : Byte) (p q : BitVec 24) (v w : BitVec 16) (fields : List Byte) (s : State),
    s.listening → tag ≠ 0#8 →
    (8 ≤ n.toNat → ∀ k ∈
      [(Instr.stationCommandOnline tag n, 0xA9#8), (.stationCommandOffline tag n, 0xA9#8),
        (.stationCommandStart tag n, 0xA9#8), (.stationCommandStop tag n, 0xA9#8),
        (.stationCommandUnlock tag n, 0xA9#8), (.readStation tag n a, 0xAA#8),
        (.setStation tag n v w a b, 0xA8#8), (.setAxis tag n a b c d e p q g v h, 0xC0#8), (.armAxis tag n a b, 0xC1#8),
        (.disarmAxis tag n, 0xC2#8), (.triggerAxis tag n, 0xC3#8), (.demandAxis tag n a, 0xC4#8),
        (.stopAxis tag n, 0xC5#8), (.haltAxis tag n, 0xC6#8), (.setPosition tag n p, 0xC7#8), (.readAxis tag n, 0xC8#8),
        (.setChannel tag n a v w b, 0xE3#8), (.setScan tag n a b c v d, 0xE0#8), (.setScan tag a n b c v d, 0xE0#8)],
      exec k.1 s = .next (s.reply tag k.2 .badValue)) ∧
    (16 ≤ n.toNat →
      exec (.setButton tag n a b c v d e) s = .next (s.reply tag 0xA0#8 .badValue) ∧
      exec (.readAlerts tag n a) s = .next (s.reply tag 0xF0#8 .badValue)) ∧
    (128 ≤ n.toNat → ∀ k ∈
      [(Instr.readCue tag n a, 0xB1#8), (.validateChain tag n, 0xB2#8), (.eraseCue tag n a, 0xB3#8),
        (.armAxis tag a n b, 0xC1#8)],
      exec k.1 s = .next (s.reply tag k.2 .badValue)) ∧
    (128 ≤ n.toNat → lengthFits 0x30#8 (3 + fields.length) = true → cueLengthFits a fields = true →
      exec (.writeCue tag n a b fields) s = .next (s.reply tag 0xB0#8 .badValue)) ∧
    (43 ≤ n.toNat → exec (.setEvent tag n a b c d e v) s = .next (s.reply tag 0x90#8 .badValue)) ∧
    (1 ≤ fields.length → fields.length ≤ 32 →
      (4 ≤ n.toNat → exec (.writeLamps tag n i fields) s = .next (s.reply tag 0xF8#8 .badValue)) ∧
      (32 ≤ n.toNat → exec (.writeLamps tag i n fields) s = .next (s.reply tag 0xF8#8 .badValue))) ∧
    (4 ≤ n.toNat → n ≠ 0x80#8 → exec (.readLamps tag n i j) s = .next (s.reply tag 0xF9#8 .badValue)) ∧
    (32 ≤ n.toNat → exec (.readLamps tag i n j) s = .next (s.reply tag 0xF9#8 .badValue)) ∧
    (4 ≤ n.toNat → exec (.showScene tag n) s = .next (s.reply tag 0xFA#8 .badValue))) ∧
  (∀ (tag : Byte) (s : State), s.listening → tag ≠ 0#8 →
    let bad := fun kind : Byte => Host.Outcome.next (φ := Fault) (ρ := Refusal) (s.reply tag kind .badValue)
    let noStation := fun b : Byte => 8 ≤ b.toNat ∧ b ≠ 0xFF#8
    let noCell := fun row column : Byte =>
      ¬ (row = 0xFF#8 ∧ column = 0xFF#8) ∧ (8 ≤ row.toNat ∨ 32 ≤ column.toNat)
    (∀ (button polarity role station row column : Byte) (hold : BitVec 16),
      2 ≤ polarity.toNat ∨ 5 ≤ role.toNat ∨ noStation station ∨ (station = 0xFF#8 ∧ (role = 1#8 ∨ role = 2#8)) ∨
        hold.toNat < 100 ∨ 10000 < hold.toNat ∨ noCell row column →
      exec (.setButton tag button polarity role station hold row column) s = bad 0xA0#8) ∧
    (∀ (station row column : Byte) (rest idle : BitVec 16),
      6000 < rest.toNat ∨ 600 < idle.toNat ∨ noCell row column →
      exec (.setStation tag station rest idle row column) s = bad 0xA8#8) ∧
    (∀ station clear : Byte, 2 ≤ clear.toNat →
      exec (.readStation tag station clear) s = bad 0xAA#8 ∧ exec (.status tag clear) s = bad 0x82#8) ∧
    (∀ (index kind next : Byte) (fields : List Byte), lengthFits 0x30#8 (3 + fields.length) = true →
      let expected := match kind.toNat with
        | 0 => 0
        | 1 => if fields[10]? = some 1#8 ∨ fields[10]? = some 2#8 then 14 else 11
        | 2 => 9
        | 3 => 2
        | 4 => 1
        | 5 => 1
        | _ => fields.length
      (fields.length ≠ expected →
        exec (.writeCue tag index kind next fields) s = .next (s.reply tag 0xB0#8 .badLength)) ∧
      (fields.length = expected →
        6 ≤ kind.toNat ∨ (128 ≤ next.toNat ∧ next ≠ 0xFF#8) ∨ (kind = 0#8 ∧ next ≠ 0xFF#8) ∨
          (kind = 1#8 ∧ ∃ seek, fields[10]? = some seek ∧ 3 ≤ seek.toNat) ∨
          (kind = 3#8 ∧ (fields = [0#8, 0#8] ∨ ∃ d0 d1, fields = [d0, d1] ∧ 60000 < d0.toNat + 256 * d1.toNat)) ∨
          (kind = 4#8 ∧ ∃ n, fields = [n] ∧ 4 ≤ n.toNat) →
        exec (.writeCue tag index kind next fields) s = bad 0xB0#8)) ∧
    (∀ first count : Byte,
      (count = 0#8 ∨ 8 < count.toNat → exec (.readCue tag first count) s = bad 0xB1#8) ∧
      (count = 0#8 ∨ 128 < count.toNat ∨ 128 < first.toNat + count.toNat →
        exec (.eraseCue tag first count) s = bad 0xB3#8) ∧
      (count ≠ 0#8 → first.toNat + count.toNat ≤ 128 → s.part.failure.getLsbD 0 = true →
        exec (.eraseCue tag first count) s = .next (s.reply tag 0xB3#8 .fault)) ∧
      (count = 0#8 ∨ 8 < count.toNat → exec (.readAlerts tag first count) s = bad 0xF0#8)) ∧
    (∀ (budget policy : Byte) (wait : BitVec 16),
      budget = 0#8 ∨ 63 < budget.toNat ∨ 2 ≤ policy.toNat ∨ 10000 < wait.toNat →
      exec (.setBudget tag budget policy wait) s = bad 0xD0#8) ∧
    (∀ (first last mode source sample : Byte) (period : BitVec 16),
      2 ≤ mode.toNat ∨ 4 ≤ source.toNat ∨ period = 0#16 ∨ 1000 < period.toNat ∨
        (sample ≠ 8#8 ∧ sample ≠ 16#8 ∧ sample ≠ 32#8 ∧ sample ≠ 64#8) →
      exec (.setScan tag first last mode source period sample) s = bad 0xE0#8) ∧
    (∀ (channel shift persistence : Byte) (low high : BitVec 16),
      3 < shift.toNat ∨ 1023 < low.toNat ∨ 1023 < high.toNat ∨ high.toNat < low.toNat ∨ persistence = 0#8 ∨
        15 < persistence.toNat →
      exec (.setChannel tag channel shift low high persistence) s = bad 0xE3#8) ∧
    (∀ severity station code : Byte, 3 ≤ severity.toNat ∨ noStation station →
      exec (.raiseAlert tag severity station code) s = bad 0xF3#8) ∧
    (∀ source start count : Byte, count = 0#8 ∨ 32 < count.toNat →
      exec (.readLamps tag source start count) s = bad 0xF9#8) ∧
    (∀ (line enable level action p1 p2 : Byte) (mask : BitVec 16),
      2 ≤ enable.toNat ∨ 7 < level.toNat ∨ 4 ≤ action.toNat ∨ ((action = 0#8 ∨ action = 2#8) ∧ ¬ (p1 = 0#8 ∧ p2 = 0#8)) ∨
        (action = 1#8 ∧ (8 ≤ p1.toNat ∨ p2 ≠ 0#8)) ∨ (action = 3#8 ∧ (3 ≤ p1.toNat ∨ noStation p2)) →
      exec (.setEvent tag line enable level action p1 p2 mask) s = bad 0x90#8) ∧
    (∀ (axis start follower : Byte) (x : AxisId), axis.toNat = x.val → isLeader x = true → s.paired x = true →
      128 ≤ follower.toNat → exec (.armAxis tag axis start follower) s = bad 0xC1#8))
end

