-- ==== Sys2Proof/Laws/State.lean ====
section
/-! SUPPORT. One lemma for each field and each record update, so that no proof unfolds an update; and reading a record that was written. -/

namespace Sys2Proof.Machine

/-- A vector entry that was written reads as written. -/
theorem vector_get_set_self {α : Type} {n : Nat} (v : Vector α n) (i : Fin n) (a : α) :
    (v.set i.val a i.isLt).get i = a :=
  Vector.getElem_set_self i.isLt

/-- Every other entry reads as before. -/
theorem vector_get_set_ne {α : Type} {n : Nat} (v : Vector α n) (i j : Fin n) (a : α) (h : i ≠ j) :
    (v.set i.val a i.isLt).get j = v.get j :=
  Vector.getElem_set_ne i.isLt j.isLt fun e => h (Fin.ext e)

variable (s : State)

/-! ### putAxis -/

@[simp] theorem State.putAxis_part (x : AxisId) (a : Axis) : (s.putAxis x a).part = s.part := rfl
@[simp] theorem State.putAxis_buttonTiming (x : AxisId) (a : Axis) : (s.putAxis x a).buttonTiming = s.buttonTiming := rfl
@[simp] theorem State.putAxis_buttons (x : AxisId) (a : Axis) : (s.putAxis x a).buttons = s.buttons := rfl
@[simp] theorem State.putAxis_stations (x : AxisId) (a : Axis) : (s.putAxis x a).stations = s.stations := rfl
@[simp] theorem State.putAxis_cues (x : AxisId) (a : Axis) : (s.putAxis x a).cues = s.cues := rfl
@[simp] theorem State.putAxis_pairs (x : AxisId) (a : Axis) : (s.putAxis x a).pairs = s.pairs := rfl
@[simp] theorem State.putAxis_arbiter (x : AxisId) (a : Axis) : (s.putAxis x a).arbiter = s.arbiter := rfl
@[simp] theorem State.putAxis_scanner (x : AxisId) (a : Axis) : (s.putAxis x a).scanner = s.scanner := rfl
@[simp] theorem State.putAxis_channels (x : AxisId) (a : Axis) : (s.putAxis x a).channels = s.channels := rfl
@[simp] theorem State.putAxis_alerts (x : AxisId) (a : Axis) : (s.putAxis x a).alerts = s.alerts := rfl
@[simp] theorem State.putAxis_lamps (x : AxisId) (a : Axis) : (s.putAxis x a).lamps = s.lamps := rfl
@[simp] theorem State.putAxis_lines (x : AxisId) (a : Axis) : (s.putAxis x a).lines = s.lines := rfl
@[simp] theorem State.putAxis_noticeLevel (x : AxisId) (a : Axis) : (s.putAxis x a).noticeLevel = s.noticeLevel := rfl
@[simp] theorem State.putAxis_link (x : AxisId) (a : Axis) : (s.putAxis x a).link = s.link := rfl
@[simp] theorem State.putAxis_stopLine (x : AxisId) (a : Axis) : (s.putAxis x a).stopLine = s.stopLine := rfl
@[simp] theorem State.putAxis_pins (x : AxisId) (a : Axis) : (s.putAxis x a).pins = s.pins := rfl
@[simp] theorem State.putAxis_kept (x : AxisId) (a : Axis) : (s.putAxis x a).kept = s.kept := rfl
@[simp] theorem State.putAxis_passDue (x : AxisId) (a : Axis) : (s.putAxis x a).passDue = s.passDue := rfl
@[simp] theorem State.putAxis_handed (x : AxisId) (a : Axis) : (s.putAxis x a).handed = s.handed := rfl
@[simp] theorem State.putAxis_pending (x : AxisId) (a : Axis) : (s.putAxis x a).pending = s.pending := rfl
@[simp] theorem State.putAxis_axis_self (x : AxisId) (a : Axis) : (s.putAxis x a).axis x = a :=
  vector_get_set_self _ _ _
theorem State.putAxis_axis_ne {x j : AxisId} (h : x ≠ j) (a : Axis) : (s.putAxis x a).axis j = s.axis j :=
  vector_get_set_ne _ _ _ _ h
@[simp] theorem State.putAxis_station (x : AxisId) (a : Axis) (t : StationId) : (s.putAxis x a).station t = s.station t := rfl
@[simp] theorem State.putAxis_button (x : AxisId) (a : Axis) (d : ButtonId) : (s.putAxis x a).button d = s.button d := rfl
@[simp] theorem State.putAxis_cue (x : AxisId) (a : Axis) (j : CueId) : (s.putAxis x a).cue j = s.cue j := rfl
@[simp] theorem State.putAxis_channel (x : AxisId) (a : Axis) (k : ChannelId) : (s.putAxis x a).channel k = s.channel k := rfl
@[simp] theorem State.putAxis_line (x : AxisId) (a : Axis) (m : LineId) : (s.putAxis x a).line m = s.line m := rfl
@[simp] theorem State.putAxis_pair (x : AxisId) (a : Axis) (y : AxisId) : (s.putAxis x a).pair y = s.pair y := rfl

/-! ### putStation -/

@[simp] theorem State.putStation_part (st : StationId) (r : Station) : (s.putStation st r).part = s.part := rfl
@[simp] theorem State.putStation_buttonTiming (st : StationId) (r : Station) : (s.putStation st r).buttonTiming = s.buttonTiming := rfl
@[simp] theorem State.putStation_buttons (st : StationId) (r : Station) : (s.putStation st r).buttons = s.buttons := rfl
@[simp] theorem State.putStation_cues (st : StationId) (r : Station) : (s.putStation st r).cues = s.cues := rfl
@[simp] theorem State.putStation_axes (st : StationId) (r : Station) : (s.putStation st r).axes = s.axes := rfl
@[simp] theorem State.putStation_pairs (st : StationId) (r : Station) : (s.putStation st r).pairs = s.pairs := rfl
@[simp] theorem State.putStation_arbiter (st : StationId) (r : Station) : (s.putStation st r).arbiter = s.arbiter := rfl
@[simp] theorem State.putStation_scanner (st : StationId) (r : Station) : (s.putStation st r).scanner = s.scanner := rfl
@[simp] theorem State.putStation_channels (st : StationId) (r : Station) : (s.putStation st r).channels = s.channels := rfl
@[simp] theorem State.putStation_alerts (st : StationId) (r : Station) : (s.putStation st r).alerts = s.alerts := rfl
@[simp] theorem State.putStation_lamps (st : StationId) (r : Station) : (s.putStation st r).lamps = s.lamps := rfl
@[simp] theorem State.putStation_lines (st : StationId) (r : Station) : (s.putStation st r).lines = s.lines := rfl
@[simp] theorem State.putStation_noticeLevel (st : StationId) (r : Station) : (s.putStation st r).noticeLevel = s.noticeLevel := rfl
@[simp] theorem State.putStation_link (st : StationId) (r : Station) : (s.putStation st r).link = s.link := rfl
@[simp] theorem State.putStation_stopLine (st : StationId) (r : Station) : (s.putStation st r).stopLine = s.stopLine := rfl
@[simp] theorem State.putStation_pins (st : StationId) (r : Station) : (s.putStation st r).pins = s.pins := rfl
@[simp] theorem State.putStation_kept (st : StationId) (r : Station) : (s.putStation st r).kept = s.kept := rfl
@[simp] theorem State.putStation_passDue (st : StationId) (r : Station) : (s.putStation st r).passDue = s.passDue := rfl
@[simp] theorem State.putStation_handed (st : StationId) (r : Station) : (s.putStation st r).handed = s.handed := rfl
@[simp] theorem State.putStation_pending (st : StationId) (r : Station) : (s.putStation st r).pending = s.pending := rfl
@[simp] theorem State.putStation_station_self (st : StationId) (r : Station) : (s.putStation st r).station st = r :=
  vector_get_set_self _ _ _
theorem State.putStation_station_ne {st j : StationId} (h : st ≠ j) (r : Station) : (s.putStation st r).station j = s.station j :=
  vector_get_set_ne _ _ _ _ h
@[simp] theorem State.putStation_axis (st : StationId) (r : Station) (y : AxisId) : (s.putStation st r).axis y = s.axis y := rfl
@[simp] theorem State.putStation_button (st : StationId) (r : Station) (d : ButtonId) : (s.putStation st r).button d = s.button d := rfl
@[simp] theorem State.putStation_cue (st : StationId) (r : Station) (j : CueId) : (s.putStation st r).cue j = s.cue j := rfl
@[simp] theorem State.putStation_channel (st : StationId) (r : Station) (k : ChannelId) : (s.putStation st r).channel k = s.channel k := rfl
@[simp] theorem State.putStation_line (st : StationId) (r : Station) (m : LineId) : (s.putStation st r).line m = s.line m := rfl
@[simp] theorem State.putStation_pair (st : StationId) (r : Station) (y : AxisId) : (s.putStation st r).pair y = s.pair y := rfl

/-! ### putButton -/

@[simp] theorem State.putButton_part (b : ButtonId) (r : Button) : (s.putButton b r).part = s.part := rfl
@[simp] theorem State.putButton_buttonTiming (b : ButtonId) (r : Button) : (s.putButton b r).buttonTiming = s.buttonTiming := rfl
@[simp] theorem State.putButton_stations (b : ButtonId) (r : Button) : (s.putButton b r).stations = s.stations := rfl
@[simp] theorem State.putButton_cues (b : ButtonId) (r : Button) : (s.putButton b r).cues = s.cues := rfl
@[simp] theorem State.putButton_axes (b : ButtonId) (r : Button) : (s.putButton b r).axes = s.axes := rfl
@[simp] theorem State.putButton_pairs (b : ButtonId) (r : Button) : (s.putButton b r).pairs = s.pairs := rfl
@[simp] theorem State.putButton_arbiter (b : ButtonId) (r : Button) : (s.putButton b r).arbiter = s.arbiter := rfl
@[simp] theorem State.putButton_scanner (b : ButtonId) (r : Button) : (s.putButton b r).scanner = s.scanner := rfl
@[simp] theorem State.putButton_channels (b : ButtonId) (r : Button) : (s.putButton b r).channels = s.channels := rfl
@[simp] theorem State.putButton_alerts (b : ButtonId) (r : Button) : (s.putButton b r).alerts = s.alerts := rfl
@[simp] theorem State.putButton_lamps (b : ButtonId) (r : Button) : (s.putButton b r).lamps = s.lamps := rfl
@[simp] theorem State.putButton_lines (b : ButtonId) (r : Button) : (s.putButton b r).lines = s.lines := rfl
@[simp] theorem State.putButton_noticeLevel (b : ButtonId) (r : Button) : (s.putButton b r).noticeLevel = s.noticeLevel := rfl
@[simp] theorem State.putButton_link (b : ButtonId) (r : Button) : (s.putButton b r).link = s.link := rfl
@[simp] theorem State.putButton_stopLine (b : ButtonId) (r : Button) : (s.putButton b r).stopLine = s.stopLine := rfl
@[simp] theorem State.putButton_pins (b : ButtonId) (r : Button) : (s.putButton b r).pins = s.pins := rfl
@[simp] theorem State.putButton_kept (b : ButtonId) (r : Button) : (s.putButton b r).kept = s.kept := rfl
@[simp] theorem State.putButton_passDue (b : ButtonId) (r : Button) : (s.putButton b r).passDue = s.passDue := rfl
@[simp] theorem State.putButton_handed (b : ButtonId) (r : Button) : (s.putButton b r).handed = s.handed := rfl
@[simp] theorem State.putButton_pending (b : ButtonId) (r : Button) : (s.putButton b r).pending = s.pending := rfl
@[simp] theorem State.putButton_button_self (b : ButtonId) (r : Button) : (s.putButton b r).button b = r :=
  vector_get_set_self _ _ _
theorem State.putButton_button_ne {b j : ButtonId} (h : b ≠ j) (r : Button) : (s.putButton b r).button j = s.button j :=
  vector_get_set_ne _ _ _ _ h
@[simp] theorem State.putButton_axis (b : ButtonId) (r : Button) (y : AxisId) : (s.putButton b r).axis y = s.axis y := rfl
@[simp] theorem State.putButton_station (b : ButtonId) (r : Button) (t : StationId) : (s.putButton b r).station t = s.station t := rfl
@[simp] theorem State.putButton_cue (b : ButtonId) (r : Button) (j : CueId) : (s.putButton b r).cue j = s.cue j := rfl
@[simp] theorem State.putButton_channel (b : ButtonId) (r : Button) (k : ChannelId) : (s.putButton b r).channel k = s.channel k := rfl
@[simp] theorem State.putButton_line (b : ButtonId) (r : Button) (m : LineId) : (s.putButton b r).line m = s.line m := rfl
@[simp] theorem State.putButton_pair (b : ButtonId) (r : Button) (y : AxisId) : (s.putButton b r).pair y = s.pair y := rfl

/-! ### putCue -/

@[simp] theorem State.putCue_part (i : CueId) (e : CueEntry) : (s.putCue i e).part = s.part := rfl
@[simp] theorem State.putCue_buttonTiming (i : CueId) (e : CueEntry) : (s.putCue i e).buttonTiming = s.buttonTiming := rfl
@[simp] theorem State.putCue_buttons (i : CueId) (e : CueEntry) : (s.putCue i e).buttons = s.buttons := rfl
@[simp] theorem State.putCue_stations (i : CueId) (e : CueEntry) : (s.putCue i e).stations = s.stations := rfl
@[simp] theorem State.putCue_axes (i : CueId) (e : CueEntry) : (s.putCue i e).axes = s.axes := rfl
@[simp] theorem State.putCue_pairs (i : CueId) (e : CueEntry) : (s.putCue i e).pairs = s.pairs := rfl
@[simp] theorem State.putCue_arbiter (i : CueId) (e : CueEntry) : (s.putCue i e).arbiter = s.arbiter := rfl
@[simp] theorem State.putCue_scanner (i : CueId) (e : CueEntry) : (s.putCue i e).scanner = s.scanner := rfl
@[simp] theorem State.putCue_channels (i : CueId) (e : CueEntry) : (s.putCue i e).channels = s.channels := rfl
@[simp] theorem State.putCue_alerts (i : CueId) (e : CueEntry) : (s.putCue i e).alerts = s.alerts := rfl
@[simp] theorem State.putCue_lamps (i : CueId) (e : CueEntry) : (s.putCue i e).lamps = s.lamps := rfl
@[simp] theorem State.putCue_lines (i : CueId) (e : CueEntry) : (s.putCue i e).lines = s.lines := rfl
@[simp] theorem State.putCue_noticeLevel (i : CueId) (e : CueEntry) : (s.putCue i e).noticeLevel = s.noticeLevel := rfl
@[simp] theorem State.putCue_link (i : CueId) (e : CueEntry) : (s.putCue i e).link = s.link := rfl
@[simp] theorem State.putCue_stopLine (i : CueId) (e : CueEntry) : (s.putCue i e).stopLine = s.stopLine := rfl
@[simp] theorem State.putCue_pins (i : CueId) (e : CueEntry) : (s.putCue i e).pins = s.pins := rfl
@[simp] theorem State.putCue_kept (i : CueId) (e : CueEntry) : (s.putCue i e).kept = s.kept := rfl
@[simp] theorem State.putCue_passDue (i : CueId) (e : CueEntry) : (s.putCue i e).passDue = s.passDue := rfl
@[simp] theorem State.putCue_handed (i : CueId) (e : CueEntry) : (s.putCue i e).handed = s.handed := rfl
@[simp] theorem State.putCue_pending (i : CueId) (e : CueEntry) : (s.putCue i e).pending = s.pending := rfl
@[simp] theorem State.putCue_cue_self (i : CueId) (e : CueEntry) : (s.putCue i e).cue i = e :=
  vector_get_set_self _ _ _
theorem State.putCue_cue_ne {i j : CueId} (h : i ≠ j) (e : CueEntry) : (s.putCue i e).cue j = s.cue j :=
  vector_get_set_ne _ _ _ _ h
@[simp] theorem State.putCue_axis (i : CueId) (e : CueEntry) (y : AxisId) : (s.putCue i e).axis y = s.axis y := rfl
@[simp] theorem State.putCue_station (i : CueId) (e : CueEntry) (t : StationId) : (s.putCue i e).station t = s.station t := rfl
@[simp] theorem State.putCue_button (i : CueId) (e : CueEntry) (d : ButtonId) : (s.putCue i e).button d = s.button d := rfl
@[simp] theorem State.putCue_channel (i : CueId) (e : CueEntry) (k : ChannelId) : (s.putCue i e).channel k = s.channel k := rfl
@[simp] theorem State.putCue_line (i : CueId) (e : CueEntry) (m : LineId) : (s.putCue i e).line m = s.line m := rfl
@[simp] theorem State.putCue_pair (i : CueId) (e : CueEntry) (y : AxisId) : (s.putCue i e).pair y = s.pair y := rfl

/-! ### putChannel -/

@[simp] theorem State.putChannel_part (c : ChannelId) (r : Channel) : (s.putChannel c r).part = s.part := rfl
@[simp] theorem State.putChannel_buttonTiming (c : ChannelId) (r : Channel) : (s.putChannel c r).buttonTiming = s.buttonTiming := rfl
@[simp] theorem State.putChannel_buttons (c : ChannelId) (r : Channel) : (s.putChannel c r).buttons = s.buttons := rfl
@[simp] theorem State.putChannel_stations (c : ChannelId) (r : Channel) : (s.putChannel c r).stations = s.stations := rfl
@[simp] theorem State.putChannel_cues (c : ChannelId) (r : Channel) : (s.putChannel c r).cues = s.cues := rfl
@[simp] theorem State.putChannel_axes (c : ChannelId) (r : Channel) : (s.putChannel c r).axes = s.axes := rfl
@[simp] theorem State.putChannel_pairs (c : ChannelId) (r : Channel) : (s.putChannel c r).pairs = s.pairs := rfl
@[simp] theorem State.putChannel_arbiter (c : ChannelId) (r : Channel) : (s.putChannel c r).arbiter = s.arbiter := rfl
@[simp] theorem State.putChannel_scanner (c : ChannelId) (r : Channel) : (s.putChannel c r).scanner = s.scanner := rfl
@[simp] theorem State.putChannel_alerts (c : ChannelId) (r : Channel) : (s.putChannel c r).alerts = s.alerts := rfl
@[simp] theorem State.putChannel_lamps (c : ChannelId) (r : Channel) : (s.putChannel c r).lamps = s.lamps := rfl
@[simp] theorem State.putChannel_lines (c : ChannelId) (r : Channel) : (s.putChannel c r).lines = s.lines := rfl
@[simp] theorem State.putChannel_noticeLevel (c : ChannelId) (r : Channel) : (s.putChannel c r).noticeLevel = s.noticeLevel := rfl
@[simp] theorem State.putChannel_link (c : ChannelId) (r : Channel) : (s.putChannel c r).link = s.link := rfl
@[simp] theorem State.putChannel_stopLine (c : ChannelId) (r : Channel) : (s.putChannel c r).stopLine = s.stopLine := rfl
@[simp] theorem State.putChannel_pins (c : ChannelId) (r : Channel) : (s.putChannel c r).pins = s.pins := rfl
@[simp] theorem State.putChannel_kept (c : ChannelId) (r : Channel) : (s.putChannel c r).kept = s.kept := rfl
@[simp] theorem State.putChannel_passDue (c : ChannelId) (r : Channel) : (s.putChannel c r).passDue = s.passDue := rfl
@[simp] theorem State.putChannel_handed (c : ChannelId) (r : Channel) : (s.putChannel c r).handed = s.handed := rfl
@[simp] theorem State.putChannel_pending (c : ChannelId) (r : Channel) : (s.putChannel c r).pending = s.pending := rfl
@[simp] theorem State.putChannel_channel_self (c : ChannelId) (r : Channel) : (s.putChannel c r).channel c = r :=
  vector_get_set_self _ _ _
theorem State.putChannel_channel_ne {c j : ChannelId} (h : c ≠ j) (r : Channel) : (s.putChannel c r).channel j = s.channel j :=
  vector_get_set_ne _ _ _ _ h
@[simp] theorem State.putChannel_axis (c : ChannelId) (r : Channel) (y : AxisId) : (s.putChannel c r).axis y = s.axis y := rfl
@[simp] theorem State.putChannel_station (c : ChannelId) (r : Channel) (t : StationId) : (s.putChannel c r).station t = s.station t := rfl
@[simp] theorem State.putChannel_button (c : ChannelId) (r : Channel) (d : ButtonId) : (s.putChannel c r).button d = s.button d := rfl
@[simp] theorem State.putChannel_cue (c : ChannelId) (r : Channel) (j : CueId) : (s.putChannel c r).cue j = s.cue j := rfl
@[simp] theorem State.putChannel_line (c : ChannelId) (r : Channel) (m : LineId) : (s.putChannel c r).line m = s.line m := rfl
@[simp] theorem State.putChannel_pair (c : ChannelId) (r : Channel) (y : AxisId) : (s.putChannel c r).pair y = s.pair y := rfl

/-! ### putLine -/

@[simp] theorem State.putLine_part (l : LineId) (r : Line) : (s.putLine l r).part = s.part := rfl
@[simp] theorem State.putLine_buttonTiming (l : LineId) (r : Line) : (s.putLine l r).buttonTiming = s.buttonTiming := rfl
@[simp] theorem State.putLine_buttons (l : LineId) (r : Line) : (s.putLine l r).buttons = s.buttons := rfl
@[simp] theorem State.putLine_stations (l : LineId) (r : Line) : (s.putLine l r).stations = s.stations := rfl
@[simp] theorem State.putLine_cues (l : LineId) (r : Line) : (s.putLine l r).cues = s.cues := rfl
@[simp] theorem State.putLine_axes (l : LineId) (r : Line) : (s.putLine l r).axes = s.axes := rfl
@[simp] theorem State.putLine_pairs (l : LineId) (r : Line) : (s.putLine l r).pairs = s.pairs := rfl
@[simp] theorem State.putLine_arbiter (l : LineId) (r : Line) : (s.putLine l r).arbiter = s.arbiter := rfl
@[simp] theorem State.putLine_scanner (l : LineId) (r : Line) : (s.putLine l r).scanner = s.scanner := rfl
@[simp] theorem State.putLine_channels (l : LineId) (r : Line) : (s.putLine l r).channels = s.channels := rfl
@[simp] theorem State.putLine_alerts (l : LineId) (r : Line) : (s.putLine l r).alerts = s.alerts := rfl
@[simp] theorem State.putLine_lamps (l : LineId) (r : Line) : (s.putLine l r).lamps = s.lamps := rfl
@[simp] theorem State.putLine_noticeLevel (l : LineId) (r : Line) : (s.putLine l r).noticeLevel = s.noticeLevel := rfl
@[simp] theorem State.putLine_link (l : LineId) (r : Line) : (s.putLine l r).link = s.link := rfl
@[simp] theorem State.putLine_stopLine (l : LineId) (r : Line) : (s.putLine l r).stopLine = s.stopLine := rfl
@[simp] theorem State.putLine_pins (l : LineId) (r : Line) : (s.putLine l r).pins = s.pins := rfl
@[simp] theorem State.putLine_kept (l : LineId) (r : Line) : (s.putLine l r).kept = s.kept := rfl
@[simp] theorem State.putLine_passDue (l : LineId) (r : Line) : (s.putLine l r).passDue = s.passDue := rfl
@[simp] theorem State.putLine_handed (l : LineId) (r : Line) : (s.putLine l r).handed = s.handed := rfl
@[simp] theorem State.putLine_pending (l : LineId) (r : Line) : (s.putLine l r).pending = s.pending := rfl
@[simp] theorem State.putLine_line_self (l : LineId) (r : Line) : (s.putLine l r).line l = r :=
  vector_get_set_self _ _ _
theorem State.putLine_line_ne {l j : LineId} (h : l ≠ j) (r : Line) : (s.putLine l r).line j = s.line j :=
  vector_get_set_ne _ _ _ _ h
@[simp] theorem State.putLine_axis (l : LineId) (r : Line) (y : AxisId) : (s.putLine l r).axis y = s.axis y := rfl
@[simp] theorem State.putLine_station (l : LineId) (r : Line) (t : StationId) : (s.putLine l r).station t = s.station t := rfl
@[simp] theorem State.putLine_button (l : LineId) (r : Line) (d : ButtonId) : (s.putLine l r).button d = s.button d := rfl
@[simp] theorem State.putLine_cue (l : LineId) (r : Line) (j : CueId) : (s.putLine l r).cue j = s.cue j := rfl
@[simp] theorem State.putLine_channel (l : LineId) (r : Line) (k : ChannelId) : (s.putLine l r).channel k = s.channel k := rfl
@[simp] theorem State.putLine_pair (l : LineId) (r : Line) (y : AxisId) : (s.putLine l r).pair y = s.pair y := rfl

/-! ### putPair -/

@[simp] theorem State.putPair_part (x : AxisId) (p : PairCtx) : (s.putPair x p).part = s.part := rfl
@[simp] theorem State.putPair_buttonTiming (x : AxisId) (p : PairCtx) : (s.putPair x p).buttonTiming = s.buttonTiming := rfl
@[simp] theorem State.putPair_buttons (x : AxisId) (p : PairCtx) : (s.putPair x p).buttons = s.buttons := rfl
@[simp] theorem State.putPair_stations (x : AxisId) (p : PairCtx) : (s.putPair x p).stations = s.stations := rfl
@[simp] theorem State.putPair_cues (x : AxisId) (p : PairCtx) : (s.putPair x p).cues = s.cues := rfl
@[simp] theorem State.putPair_axes (x : AxisId) (p : PairCtx) : (s.putPair x p).axes = s.axes := rfl
@[simp] theorem State.putPair_arbiter (x : AxisId) (p : PairCtx) : (s.putPair x p).arbiter = s.arbiter := rfl
@[simp] theorem State.putPair_scanner (x : AxisId) (p : PairCtx) : (s.putPair x p).scanner = s.scanner := rfl
@[simp] theorem State.putPair_channels (x : AxisId) (p : PairCtx) : (s.putPair x p).channels = s.channels := rfl
@[simp] theorem State.putPair_alerts (x : AxisId) (p : PairCtx) : (s.putPair x p).alerts = s.alerts := rfl
@[simp] theorem State.putPair_lamps (x : AxisId) (p : PairCtx) : (s.putPair x p).lamps = s.lamps := rfl
@[simp] theorem State.putPair_lines (x : AxisId) (p : PairCtx) : (s.putPair x p).lines = s.lines := rfl
@[simp] theorem State.putPair_noticeLevel (x : AxisId) (p : PairCtx) : (s.putPair x p).noticeLevel = s.noticeLevel := rfl
@[simp] theorem State.putPair_link (x : AxisId) (p : PairCtx) : (s.putPair x p).link = s.link := rfl
@[simp] theorem State.putPair_stopLine (x : AxisId) (p : PairCtx) : (s.putPair x p).stopLine = s.stopLine := rfl
@[simp] theorem State.putPair_pins (x : AxisId) (p : PairCtx) : (s.putPair x p).pins = s.pins := rfl
@[simp] theorem State.putPair_kept (x : AxisId) (p : PairCtx) : (s.putPair x p).kept = s.kept := rfl
@[simp] theorem State.putPair_passDue (x : AxisId) (p : PairCtx) : (s.putPair x p).passDue = s.passDue := rfl
@[simp] theorem State.putPair_handed (x : AxisId) (p : PairCtx) : (s.putPair x p).handed = s.handed := rfl
@[simp] theorem State.putPair_pending (x : AxisId) (p : PairCtx) : (s.putPair x p).pending = s.pending := rfl
@[simp] theorem State.putPair_pair_self (x : AxisId) (p : PairCtx) : (s.putPair x p).pair x = p :=
  vector_get_set_self _ _ _
@[simp] theorem State.putPair_axis (x : AxisId) (p : PairCtx) (y : AxisId) : (s.putPair x p).axis y = s.axis y := rfl
@[simp] theorem State.putPair_station (x : AxisId) (p : PairCtx) (t : StationId) : (s.putPair x p).station t = s.station t := rfl
@[simp] theorem State.putPair_button (x : AxisId) (p : PairCtx) (d : ButtonId) : (s.putPair x p).button d = s.button d := rfl
@[simp] theorem State.putPair_cue (x : AxisId) (p : PairCtx) (j : CueId) : (s.putPair x p).cue j = s.cue j := rfl
@[simp] theorem State.putPair_channel (x : AxisId) (p : PairCtx) (k : ChannelId) : (s.putPair x p).channel k = s.channel k := rfl
@[simp] theorem State.putPair_line (x : AxisId) (p : PairCtx) (m : LineId) : (s.putPair x p).line m = s.line m := rfl

/-! ### post -/

@[simp] theorem State.post_part (l : LineId) (c : Cause) (d : Details → Details) : (s.post l c d).part = s.part := by
  unfold State.post; split <;> [(dsimp only; split <;> rfl); rfl]
@[simp] theorem State.post_buttonTiming (l : LineId) (c : Cause) (d : Details → Details) : (s.post l c d).buttonTiming = s.buttonTiming := by
  unfold State.post; split <;> [(dsimp only; split <;> rfl); rfl]
@[simp] theorem State.post_buttons (l : LineId) (c : Cause) (d : Details → Details) : (s.post l c d).buttons = s.buttons := by
  unfold State.post; split <;> [(dsimp only; split <;> rfl); rfl]
@[simp] theorem State.post_stations (l : LineId) (c : Cause) (d : Details → Details) : (s.post l c d).stations = s.stations := by
  unfold State.post; split <;> [(dsimp only; split <;> rfl); rfl]
@[simp] theorem State.post_cues (l : LineId) (c : Cause) (d : Details → Details) : (s.post l c d).cues = s.cues := by
  unfold State.post; split <;> [(dsimp only; split <;> rfl); rfl]
@[simp] theorem State.post_axes (l : LineId) (c : Cause) (d : Details → Details) : (s.post l c d).axes = s.axes := by
  unfold State.post; split <;> [(dsimp only; split <;> rfl); rfl]
@[simp] theorem State.post_pairs (l : LineId) (c : Cause) (d : Details → Details) : (s.post l c d).pairs = s.pairs := by
  unfold State.post; split <;> [(dsimp only; split <;> rfl); rfl]
@[simp] theorem State.post_arbiter (l : LineId) (c : Cause) (d : Details → Details) : (s.post l c d).arbiter = s.arbiter := by
  unfold State.post; split <;> [(dsimp only; split <;> rfl); rfl]
@[simp] theorem State.post_scanner (l : LineId) (c : Cause) (d : Details → Details) : (s.post l c d).scanner = s.scanner := by
  unfold State.post; split <;> [(dsimp only; split <;> rfl); rfl]
@[simp] theorem State.post_channels (l : LineId) (c : Cause) (d : Details → Details) : (s.post l c d).channels = s.channels := by
  unfold State.post; split <;> [(dsimp only; split <;> rfl); rfl]
@[simp] theorem State.post_alerts (l : LineId) (c : Cause) (d : Details → Details) : (s.post l c d).alerts = s.alerts := by
  unfold State.post; split <;> [(dsimp only; split <;> rfl); rfl]
@[simp] theorem State.post_lamps (l : LineId) (c : Cause) (d : Details → Details) : (s.post l c d).lamps = s.lamps := by
  unfold State.post; split <;> [(dsimp only; split <;> rfl); rfl]
@[simp] theorem State.post_noticeLevel (l : LineId) (c : Cause) (d : Details → Details) : (s.post l c d).noticeLevel = s.noticeLevel := by
  unfold State.post; split <;> [(dsimp only; split <;> rfl); rfl]
@[simp] theorem State.post_link (l : LineId) (c : Cause) (d : Details → Details) : (s.post l c d).link = s.link := by
  unfold State.post; split <;> [(dsimp only; split <;> rfl); rfl]
@[simp] theorem State.post_stopLine (l : LineId) (c : Cause) (d : Details → Details) : (s.post l c d).stopLine = s.stopLine := by
  unfold State.post; split <;> [(dsimp only; split <;> rfl); rfl]
@[simp] theorem State.post_pins (l : LineId) (c : Cause) (d : Details → Details) : (s.post l c d).pins = s.pins := by
  unfold State.post; split <;> [(dsimp only; split <;> rfl); rfl]
@[simp] theorem State.post_kept (l : LineId) (c : Cause) (d : Details → Details) : (s.post l c d).kept = s.kept := by
  unfold State.post; split <;> [(dsimp only; split <;> rfl); rfl]
@[simp] theorem State.post_passDue (l : LineId) (c : Cause) (d : Details → Details) : (s.post l c d).passDue = s.passDue := by
  unfold State.post; split <;> [(dsimp only; split <;> rfl); rfl]
@[simp] theorem State.post_pending (l : LineId) (c : Cause) (d : Details → Details) : (s.post l c d).pending = s.pending := by
  unfold State.post; split <;> [(dsimp only; split <;> rfl); rfl]
@[simp] theorem State.post_axis (l : LineId) (c : Cause) (d : Details → Details) (x' : AxisId) :
    (s.post l c d).axis x' = s.axis x' := by
  simp [State.axis]
@[simp] theorem State.post_station (l : LineId) (c : Cause) (d : Details → Details) (st' : StationId) :
    (s.post l c d).station st' = s.station st' := by
  simp [State.station]
@[simp] theorem State.post_button (l : LineId) (c : Cause) (d : Details → Details) (b' : ButtonId) :
    (s.post l c d).button b' = s.button b' := by
  simp [State.button]
@[simp] theorem State.post_cue (l : LineId) (c : Cause) (d : Details → Details) (i' : CueId) :
    (s.post l c d).cue i' = s.cue i' := by
  simp [State.cue]
@[simp] theorem State.post_channel (l : LineId) (c : Cause) (d : Details → Details) (c' : ChannelId) :
    (s.post l c d).channel c' = s.channel c' := by
  simp [State.channel]
@[simp] theorem State.post_pair (l : LineId) (c : Cause) (d : Details → Details) (x' : AxisId) :
    (s.post l c d).pair x' = s.pair x' := by
  simp [State.pair]

end Sys2Proof.Machine
end

