-- ==== Sys2Proof/Laws/Kept.lean ====
section
/-! SUPPORT. What the operations between the blocks can do, said once: a property that the record updates listed in `Kept` keep is kept by
every operation of Ops, Alerts, Axes, Arbiter and Stations. -/

namespace Sys2Proof.Machine

/-- A property of states that every update an operation between the blocks makes keeps. A cause arrives only on a line of its class. -/
structure Kept (P : State → Prop) : Prop where
  axes : ∀ s v, P s → P { s with axes := v }
  stations : ∀ s v, P s → P { s with stations := v }
  cues : ∀ s v, P s → P { s with cues := v }
  pairs : ∀ s v, P s → P { s with pairs := v }
  arbiter : ∀ s v, P s → P { s with arbiter := v }
  scanner : ∀ s v, P s → P { s with scanner := v }
  display : ∀ s n, P s → P { s with lamps := { s.lamps with display := n } }
  passDue : ∀ s v, P s → P { s with passDue := v }
  handed : ∀ s v, P s → P { s with handed := v }
  arrive : ∀ s l c d, c.bit < (lineClass l).causeCount → P s → P (s.putLine l ((s.line l).arrive c d))
  remove : ∀ s id, P s → P (s.putRecords (s.alerts.records.filter (·.id ≠ id)))
  update : ∀ s r r0, r0 ∈ s.alerts.records → r.id = r0.id → r.identity = r0.identity → P s →
    P (s.updateRecord r.id fun _ => r)
  append : ∀ s t r, P s → P t → r.id = t.alerts.nextId → (∀ q ∈ t.alerts.records, q.identity ≠ r.identity) →
    (t.alerts.records.length < Config.alertCapacity ∨
      ∃ v ∈ s.alerts.records, t.alerts.records = s.alerts.records.filter (·.id ≠ v.id)) →
    P { t with
        alerts :=
          { t.alerts with
            records := t.alerts.records ++ [r]
            nextId := freeId (t.alerts.records ++ [r]) 17 (nextIdAfter t.alerts.nextId) } }

/-- A fold keeps what its step keeps. -/
theorem foldl_kept {α β : Type} {P : β → Prop} {f : β → α → β} (hf : ∀ t x, P t → P (f t x)) :
    ∀ (l : List α) (s : β), P s → P (l.foldl f s)
  | [], _, h => h
  | x :: l, s, h => foldl_kept hf l (f s x) (hf s x h)

/-- Both branches keep a property. -/
theorem ite_kept {β : Type} {P : β → Prop} {c : Prop} [Decidable c] {a b : β} (ha : P a) (hb : P b) :
    P (if c then a else b) := by
  split
  · exact ha
  · exact hb

/-! ### The classes of the lines (Table 10-1) -/

@[simp] theorem lineClass_button (b : ButtonId) : lineClass (buttonLine b) = .button := by revert b; decide
@[simp] theorem lineClass_axis (x : AxisId) : lineClass (axisLine x) = .axis := by revert x; decide
@[simp] theorem lineClass_channel (c : ChannelId) : lineClass (channelLine c) = .channel := by revert c; decide
@[simp] theorem lineClass_station (st : StationId) : lineClass (stationLine st) = .station := by revert st; decide
@[simp] theorem lineClass_scanner : lineClass scannerLine = .scanner := by decide
@[simp] theorem lineClass_alert : lineClass alertLine = .alert := by decide
@[simp] theorem lineClass_system : lineClass systemLine = .system := by decide

variable {P : State → Prop} (K : Kept P) {s : State}
include K

/-! ### Ops -/

theorem post_kept {l : LineId} {c : Cause} {d : Details → Details} (hc : c.bit < (lineClass l).causeCount)
    (h : P s) : P (s.post l c d) := by
  unfold State.post
  split
  · dsimp only
    split
    · exact K.handed _ _ (K.arrive _ _ _ _ hc h)
    · exact K.arrive _ _ _ _ hc h
  · exact h

theorem axisPost_kept {x : AxisId} {c : Cause} {d : Details → Details} (hc : c.bit < 11) (h : P s) :
    P (s.post (axisLine x) c d) := post_kept K (by simpa [LineClass.causeCount] using hc) h

theorem stationPost_kept {st : StationId} {c : Cause} {d : Details → Details} (hc : c.bit < 7) (h : P s) :
    P (s.post (stationLine st) c d) := post_kept K (by simpa [LineClass.causeCount] using hc) h

theorem putAxis_kept {x : AxisId} {a : Axis} (h : P s) : P (s.putAxis x a) := K.axes _ _ h
theorem putStation_kept {st : StationId} {r : Station} (h : P s) : P (s.putStation st r) := K.stations _ _ h
theorem putCue_kept {i : CueId} {e : CueEntry} (h : P s) : P (s.putCue i e) := K.cues _ _ h
theorem putPair_kept {x : AxisId} {p : PairCtx} (h : P s) : P (s.putPair x p) := K.pairs _ _ h

theorem joinPending_kept {x : AxisId} (h : P s) : P (s.joinPending x) :=
  K.passDue { s with arbiter := (s.joinPending x).arbiter } true (K.arbiter s _ h)
theorem withdraw_kept {x : AxisId} (h : P s) : P (s.withdraw x) :=
  K.passDue { s with arbiter := (s.withdraw x).arbiter } (s.withdraw x).passDue (K.arbiter s _ h)

theorem scanTrigger_kept {src : ScanSource} (h : P s) : P (s.scanTrigger src) := by
  unfold State.scanTrigger
  split
  · split
    · exact h
    · exact K.scanner _ _ h
    · split
      · exact post_kept K (by simp [Cause.bit, LineClass.causeCount]) h
      · exact h
  · exact h

theorem restStation_kept {st : StationId} (h : P s) : P (s.restStation st) := by
  unfold State.restStation
  dsimp only
  split <;> exact stationPost_kept K (by simp [Cause.bit]) (putStation_kept K h)

theorem testActivity_kept {st : StationId} (h : P s) : P (s.testActivity st) := by
  unfold State.testActivity
  split
  · exact restStation_kept K h
  · exact h

theorem reportState_kept {x : AxisId} {old new : AxisState} (h : P s) : P (s.reportState x old new) := by
  unfold State.reportState
  split
  · exact h
  · dsimp only
    split <;> split <;> first
      | exact testActivity_kept K (putStation_kept K h)
      | exact testActivity_kept K h
      | exact putStation_kept K h
      | exact h

theorem enter_kept {x : AxisId} {new : AxisState} {f : Axis → Axis} (h : P s) : P (s.enter x new f) := by
  unfold State.enter
  dsimp only
  split
  · exact scanTrigger_kept K (reportState_kept K (putAxis_kept K h))
  · exact reportState_kept K (putAxis_kept K h)

theorem pinChain_kept {chain : List CueId} (h : P s) : P (s.pinChain chain) :=
  foldl_kept (fun _ _ ht => putCue_kept K ht) chain s h
theorem unpinChain_kept {chain : List CueId} (h : P s) : P (s.unpinChain chain) :=
  foldl_kept (fun _ _ ht => putCue_kept K ht) chain s h

theorem disarm_kept {x : AxisId} {keep : Bool} (h : P s) : P (s.disarm x keep) := by
  unfold State.disarm
  split
  · exact h
  · exact enter_kept K (unpinChain_kept K h)

theorem settlePair_kept {x : AxisId} (h : P s) : P (s.settlePair x) := by
  unfold State.settlePair
  dsimp only
  split
  · exact putPair_kept K h
  · exact h

theorem settleBy_kept {x : AxisId} {d : Disposition} (h : P s) : P (s.settleBy x d) := by
  unfold State.settleBy
  dsimp only
  apply settlePair_kept K
  split
  · refine axisPost_kept K (by simp [Cause.bit]) (putPair_kept K ?_)
    split
    · exact enter_kept K h
    · split
      · exact disarm_kept K h
      · exact enter_kept K h
    · exact disarm_kept K h
  · split
    · exact enter_kept K h
    · split
      · exact disarm_kept K h
      · exact enter_kept K h
    · exact disarm_kept K h

theorem handDisposition_kept {x : AxisId} {d : Disposition} (h : P s) : P (s.handDisposition x d) := by
  unfold State.handDisposition
  split
  · exact enter_kept K h
  · exact putAxis_kept K h
  · exact settleBy_kept K (withdraw_kept K h)
  · exact settleBy_kept K h
  · exact settleBy_kept K h
  · split
    · exact disarm_kept K h
    · exact h
  · exact h

theorem handAll_kept {xs : List AxisId} {d : Disposition} (h : P s) : P (s.handAll xs d) :=
  foldl_kept (fun _ _ ht => handDisposition_kept K ht) xs s h

/-! ### Alerts -/

theorem postAlert_kept {c : Cause} {d : AlertDetail} (hc : c.bit < 5) (h : P s) : P (s.postAlert c d) :=
  post_kept K (by simpa [LineClass.causeCount] using hc) h

theorem lockStation_kept {st : StationId} (h : P s) : P (s.lockStation st) :=
  handAll_kept K (stationPost_kept K (by simp [Cause.bit]) (putStation_kept K h))

theorem testLock_kept {st : StationId} (h : P s) : P (s.testLock st) := by
  unfold State.testLock
  split
  · exact h
  · split
    · exact h
    · exact restStation_kept K h
  · split
    · exact lockStation_kept K h
    · exact h

theorem testLocks_kept {target : Option StationId} (h : P s) : P (s.testLocks target) :=
  foldl_kept (fun _ _ ht => testLock_kept K ht) _ s h

theorem setLatches_kept {target : Option StationId} (h : P s) : P (s.setLatches target) :=
  foldl_kept (fun _ _ ht => testLock_kept K (putStation_kept K ht)) _ s h

theorem removeRecord_kept {r : Alert} (h : P s) : P (s.removeRecord r) := by
  have h1 : P ((s.putRecords (s.alerts.records.filter (·.id ≠ r.id))).postAlert .removed r.detail) :=
    postAlert_kept K (by simp [Cause.bit]) (K.remove s r.id h)
  unfold State.removeRecord
  dsimp only
  split
  · exact testLocks_kept K h1
  · exact h1

theorem acknowledge_kept {r : Alert} (hr : r ∈ s.alerts.records) (h : P s) : P (s.acknowledge r) := by
  unfold State.acknowledge
  split
  · exact h
  · have h1 := postAlert_kept K (c := .acknowledged) (d := ({ r with acked := true } : Alert).detail)
      (by simp [Cause.bit]) (K.update s { r with acked := true } r hr rfl rfl h)
    dsimp only
    split
    · exact removeRecord_kept K h1
    · exact h1

theorem clearCondition_kept {kind : AlertKind} {source : Nat} {station : Option StationId} (h : P s) :
    P (s.clearCondition kind source station) := by
  unfold State.clearCondition
  split
  · exact h
  · rename_i r hr
    have h1 := K.update s { r with condition := some false } r (List.mem_of_find?_eq_some hr) rfl rfl h
    dsimp only
    split
    · exact removeRecord_kept K h1
    · exact h1

theorem mergeAlert_kept {r : Alert} {severity : Severity} (hr : r ∈ s.alerts.records) (h : P s) : P (s.mergeAlert r severity) := by
  unfold State.mergeAlert
  extract_lets rises reopens r1 s1 s2
  have h1 : P s1 := K.update s r1 r hr rfl rfl h
  have h2 : P s2 := by
    show P (if reopens then s1.postAlert .raised r1.detail else s1)
    split
    · exact postAlert_kept K (by simp [Cause.bit]) h1
    · exact h1
  split
  · exact testLocks_kept K h2
  · exact h2

theorem appendAlert_kept {t : State} {kind : AlertKind} {severity : Severity} {source : Nat}
    {station : Option StationId} (h : P s) (ht : P t)
    (new : ∀ q ∈ t.alerts.records, q.identity ≠ (kind, source, station))
    (room : t.alerts.records.length < Config.alertCapacity ∨
      ∃ v ∈ s.alerts.records, t.alerts.records = s.alerts.records.filter (·.id ≠ v.id)) :
    P (t.appendAlert kind severity source station) := by
  unfold State.appendAlert
  extract_lets r records src s1 s2
  have h1 : P s1 := K.append s t r h ht rfl new room
  have h2 : P s2 := postAlert_kept K (by simp [Cause.bit]) h1
  split
  · exact testLocks_kept K h2
  · exact h2

theorem loseAlert_kept {kind : AlertKind} {severity : Severity} {source : Nat} {station : Option StationId}
    (h : P s) : P (s.loseAlert kind severity source station) := by
  unfold State.loseAlert
  dsimp only
  split
  · exact setLatches_kept K (postAlert_kept K (by simp [Cause.bit]) h)
  · exact postAlert_kept K (by simp [Cause.bit]) h

omit K in
/-- The record that a raise evicts is a NOTE, so its removal tests no lock and leaves the other records (R142). -/
theorem evictable_removed {v : Alert} (hv : evictable s.alerts.records = some v) :
    (s.removeRecord v).alerts.records = s.alerts.records.filter (·.id ≠ v.id) := by
  have hn : v.severity = .note := by
    have := List.find?_some hv
    simp at this
    exact this.1
  simp [State.removeRecord, hn, State.postAlert, State.putRecords]

theorem raise_kept {kind : AlertKind} {severity : Severity} {source : Nat} {station : Option StationId} (h : P s) :
    P (s.raise kind severity source station).1 := by
  unfold State.raise
  split
  · rename_i r hr
    exact mergeAlert_kept K (List.mem_of_find?_eq_some hr) h
  · rename_i hnone
    have new : ∀ q ∈ s.alerts.records, q.identity ≠ (kind, source, station) := by
      intro q hq hid
      have := List.find?_eq_none.mp hnone q hq
      simp only [Alert.identity, Prod.mk.injEq] at hid
      simp [Alert.hasIdentity, hid] at this
    split
    · rename_i hlen
      exact appendAlert_kept K h h new (Or.inl hlen)
    · split
      · rename_i v hv
        refine appendAlert_kept K h (removeRecord_kept K h) (fun q hq => ?_)
          (Or.inr ⟨v, List.mem_of_find?_eq_some hv, evictable_removed hv⟩)
        rw [evictable_removed hv] at hq
        exact new q (List.mem_of_mem_filter hq)
      · exact loseAlert_kept K h

omit K in
/-- The record that an ACK press acknowledges is stored (R13). -/
theorem ackChoice_mem {scope : Option StationId} {r : Alert} (hr : s.ackChoice scope = some r) :
    r ∈ s.alerts.records := by
  have key : ∀ p : Alert → Bool, (s.alerts.records.filter fun r => !r.acked && r.inScope scope).find? p = some r →
      r ∈ s.alerts.records := fun p hp => List.mem_of_mem_filter (List.mem_of_find?_eq_some hp)
  unfold State.ackChoice at hr
  simp only [Option.or_eq_some_iff] at hr
  rcases hr with h | ⟨-, h | ⟨-, h⟩⟩
  all_goals exact key _ h

theorem ackPress_kept {scope : Option StationId} (h : P s) : P (s.ackPress scope) := by
  unfold State.ackPress
  split
  · exact h
  · rename_i r hr
    exact acknowledge_kept K (ackChoice_mem hr) h

theorem ackHold_kept {scope : Option StationId} (h : P s) : P (s.ackHold scope) := by
  unfold State.ackHold
  split
  · exact h
  · exact removeRecord_kept K h

theorem escalate_kept {id : Nat} (h : P s) : P (s.escalate id) := by
  unfold State.escalate
  split
  · exact h
  · rename_i r hr
    have hid : r.id = id := by simpa using List.find?_some hr
    split
    · exact h
    · dsimp only
      subst hid
      exact postAlert_kept K (by simp [Cause.bit])
        (K.update s { r with level := r.level + 1, timeInLevel := 0 } r (List.mem_of_find?_eq_some hr) rfl rfl h)

/-! ### Axes -/

theorem endRun_kept {x : AxisId} (h : P s) : P (s.endRun x) := by
  unfold State.endRun
  split
  · exact settlePair_kept K (handDisposition_kept K h)
  · exact h

theorem halt_kept {x : AxisId} {why : HaltCause} (h : P s) : P (s.halt x why) := by
  unfold State.halt
  dsimp only
  split
  · exact h
  · have h2 : P (if (s.axis x).state.moving ∧ !s.rehearses x then
        (s.withdraw x).putAxis x { (s.withdraw x).axis x with valid := false } else s.withdraw x) := by
      split
      · exact putAxis_kept K (withdraw_kept K h)
      · exact withdraw_kept K h
    have h3 := axisPost_kept K (x := x) (c := why.cause) (d := id) (by cases why <;> simp [HaltCause.cause, Cause.bit])
      (disarm_kept K (x := x) (keep := true) h2)
    cases why
    · exact settlePair_kept K h3
    · exact raise_kept K (endRun_kept K h3)
    · exact raise_kept K (endRun_kept K h3)

theorem haltAll_kept {xs : List AxisId} (h : P s) : P (s.haltAll xs) :=
  foldl_kept (fun _ _ ht => halt_kept K ht) xs s h

theorem seekMiss_kept {x : AxisId} (h : P s) : P (s.seekMiss x) :=
  settlePair_kept K (endRun_kept K (disarm_kept K (axisPost_kept K (by simp [Cause.bit]) h)))

theorem stepCue_kept {x : AxisId} (h : P s) : P (s.stepCue x) := by
  unfold State.stepCue
  split
  · exact h
  · exact putAxis_kept K h

theorem completeEntry_kept {x : AxisId} (h : P s) : P (s.completeEntry x).1 := by
  unfold State.completeEntry
  dsimp only
  split
  · exact enter_kept K (axisPost_kept K (by simp [Cause.bit]) (stepCue_kept K h))
  · exact stepCue_kept K h

theorem completeStopping_kept {x : AxisId} (h : P s) : P (s.completeStopping x) := by
  unfold State.completeStopping
  dsimp only
  apply settleBy_kept K
  split
  · exact axisPost_kept K (by simp [Cause.bit]) (stepCue_kept K h)
  · exact stepCue_kept K h

theorem settleChainEnd_kept {x : AxisId} (h : P s) : P (s.settleChainEnd x) := by
  unfold State.settleChainEnd
  dsimp only
  split
  · exact enter_kept K (axisPost_kept K (by simp [Cause.bit]) h)
  · exact disarm_kept K (axisPost_kept K (by simp [Cause.bit]) h)

theorem restartLeader_kept {x : AxisId} (h : P s) : P (s.restartLeader x) := by
  unfold State.restartLeader
  dsimp only
  exact enter_kept K (putPair_kept K h)

theorem endPair_kept {x : AxisId} (h : P s) : P (s.endPair x) :=
  settlePair_kept K (handDisposition_kept K (putPair_kept K (settleChainEnd_kept K h)))

theorem chainEnd_kept {x : AxisId} (h : P s) : P (s.chainEnd x) := by
  unfold State.chainEnd
  split
  · split
    · exact restartLeader_kept K h
    · exact endPair_kept K h
  · exact settleChainEnd_kept K h

theorem takeHome_kept {x : AxisId} {home : Int} (h : P s) : P (s.takeHome x home) :=
  axisPost_kept K (by simp [Cause.bit]) (putAxis_kept K h)

theorem takeVirtualHome_kept {x : AxisId} {home : Int} (h : P s) : P (s.takeVirtualHome x home) := putAxis_kept K h

theorem setDir_kept {x : AxisId} (h : P s) : P (s.setDir x) := by
  unfold State.setDir
  dsimp only
  split
  · exact h
  · exact putAxis_kept K h

theorem motionOutcome_kept {x : AxisId} {p : Profile} {home : Option Int} (h : P s) :
    P (s.motionOutcome x p home).1 := by
  have h1 : P (s.setDir x) := setDir_kept K h
  generalize hs : s.motionOutcome x p home = o
  unfold State.motionOutcome at hs
  dsimp only at hs
  generalize s.setDir x = s1 at hs h1
  have hp : P (s1.enter x .paused) := enter_kept K h1
  have hr : P (s1.enter x .running fun b => b.startRamp p) := enter_kept K h1
  have hq : P ((s1.enter x .pending fun b => b.startRamp p).joinPending x) := joinPending_kept K (enter_kept K h1)
  have hh : P ((s1.enter x .running fun b => b.startRamp p).halt x .endStop) := halt_kept K hr
  have hv : ∀ v, P (s.takeVirtualHome x v) := fun v => takeVirtualHome_kept K h
  have hm : P (s.seekMiss x) := seekMiss_kept K h
  generalize (s1.enter x .running fun b => b.startRamp p).halt x .endStop = t1 at hs hh
  generalize s1.enter x .running (fun b => b.startRamp p) = t2 at hs hr
  generalize (s1.enter x .pending fun b => b.startRamp p).joinPending x = t3 at hs hq
  generalize s1.enter x .paused = t4 at hs hp
  generalize s.seekMiss x = t5 at hs hm
  repeat' split at hs
  all_goals subst hs; first | assumption | exact hv _

theorem loadMotion_kept {x : AxisId} {travel : Int} {p : Profile} {seek : Option (StopSide × Int)} (h : P s) :
    P (s.loadMotion x travel p seek).1 := by
  unfold State.loadMotion
  dsimp only
  cases seek with
  | none =>
    dsimp only
    refine motionOutcome_kept K (ite_kept ?_ ?_)
    · exact axisPost_kept K (c := .softLimit) (by simp [Cause.bit]) (putAxis_kept K (putAxis_kept K h))
    · exact putAxis_kept K (putAxis_kept K h)
  | some sh =>
    dsimp only
    split
    · exact takeHome_kept K (putAxis_kept K h)
    · exact motionOutcome_kept K (putAxis_kept K (putAxis_kept K h))

theorem loadOne_kept {x : AxisId} (h : P s) : P (s.loadOne x).1 := by
  unfold State.loadOne
  split
  · exact h
  · exact chainEnd_kept K h
  · split
    · exact h
    · exact loadMotion_kept K h
    · exact loadMotion_kept K h
    · dsimp only; exact enter_kept K h
    · dsimp only
      split
      · exact h
      · exact K.display _ _ h
    · exact axisPost_kept K (by simp [Cause.bit]) h

theorem loadEntries_kept {x : AxisId} : ∀ (fuel : Nat) {s : State}, P s → P (State.loadEntries x fuel s)
  | 0, _, h => h
  | fuel + 1, s, h => by
    unfold State.loadEntries
    dsimp only
    split
    · split
      · exact loadEntries_kept fuel (completeEntry_kept K (loadOne_kept K h))
      · exact completeEntry_kept K (loadOne_kept K h)
    · exact loadOne_kept K h

theorem load_kept {x : AxisId} (h : P s) : P (s.load x) := loadEntries_kept K _ h

theorem completeAndGoOn_kept {x : AxisId} (h : P s) : P (s.completeAndGoOn x) := by
  unfold State.completeAndGoOn
  dsimp only
  split
  · exact load_kept K (completeEntry_kept K h)
  · exact completeEntry_kept K h

theorem loadMember_kept {x : AxisId} {st : AxisState} (h : P s) : P (s.loadMember x st) := by
  unfold State.loadMember
  split
  · exact load_kept K h
  · exact h

theorem triggerPair_kept {x : AxisId} (h : P s) : P (s.triggerPair x) := by
  unfold State.triggerPair
  dsimp only
  split
  · exact loadMember_kept K (loadMember_kept K (putAxis_kept K (putAxis_kept K (putPair_kept K h))))
  · exact joinPending_kept K (enter_kept K (enter_kept K (putPair_kept K h)))

theorem trigger_kept {x : AxisId} (h : P s) : P (s.trigger x) := by
  unfold State.trigger
  split
  · split
    · exact triggerPair_kept K h
    · split
      · exact load_kept K (putAxis_kept K h)
      · exact load_kept K h
  · exact h

theorem demandDrop_kept {x : AxisId} (h : P s) : P (s.demandDrop x) := by
  unfold State.demandDrop
  split
  · exact enter_kept K h
  · exact enter_kept K (withdraw_kept K h)
  · exact h

theorem demandReturn_kept {x : AxisId} (h : P s) : P (s.demandReturn x) := by
  unfold State.demandReturn
  dsimp only
  split
  · split
    · exact load_kept K h
    · split
      · exact h
      · exact joinPending_kept K (enter_kept K h)
  · split
    · exact enter_kept K h
    · exact h
  · exact h

theorem demandChange_kept {x : AxisId} {asserted : Bool} (h : P s) : P (s.demandChange x asserted) := by
  unfold State.demandChange
  split
  · split
    · exact demandReturn_kept K h
    · exact demandDrop_kept K h
  · exact h

/-- What a completed segment goes on to. -/
theorem goOn_kept {x : AxisId} {stopping : Prop} [Decidable stopping] (h : P s) :
    P (if stopping then s.completeStopping x else s.completeAndGoOn x) := by
  split
  · exact completeStopping_kept K h
  · exact completeAndGoOn_kept K h

theorem countReached_kept {x : AxisId} (h : P s) : P (s.countReached x) := by
  unfold State.countReached
  dsimp only
  split
  · exact goOn_kept K h
  · split
    · exact goOn_kept K (takeVirtualHome_kept K h)
    · exact seekMiss_kept K h

theorem rampTick_kept {x : AxisId} (h : P s) : P (s.rampTick x) := by
  unfold State.rampTick
  split
  · split
    · exact h
    · dsimp only
      split
      · exact countReached_kept K (putAxis_kept K h)
      · split
        · exact settleBy_kept K (putAxis_kept K h)
        · exact putAxis_kept K h
  · exact h

theorem dwellExpiry_kept {x : AxisId} (h : P s) : P (s.dwellExpiry x) := by
  unfold State.dwellExpiry
  dsimp only
  split
  · split
    · exact load_kept K (putAxis_kept K h)
    · exact completeAndGoOn_kept K (putAxis_kept K h)
  · exact h

theorem tripped_kept {x : AxisId} {side : StopSide} (h : P s) : P (s.tripped x side) := by
  unfold State.tripped
  dsimp only
  split
  · exact goOn_kept K (takeHome_kept K h)
  · exact halt_kept K h

theorem endStopChange_kept {x : AxisId} {side : StopSide} {level : Bool} (h : P s) :
    P (s.endStopChange x side level) := by
  unfold State.endStopChange
  dsimp only
  split
  · exact h
  · split
    · exact tripped_kept K (putAxis_kept K h)
    · exact putAxis_kept K h

theorem grantTrip_kept {x : AxisId} (h : P s) : P (s.grantTrip x) := by
  unfold State.grantTrip
  dsimp only
  split
  · exact tripped_kept K h
  · exact h

/-! ### The arbiter -/

theorem grant_kept {e : PendingEntry} (h : P s) : P (s.grant e) := by
  unfold State.grant
  dsimp only
  split
  · exact putPair_kept K (K.arbiter _ _ h)
  · exact enter_kept K (K.arbiter _ _ h)

theorem urgentGrants_kept : ∀ (fuel : Nat) {s : State} {g : List PendingEntry}, P s → P (urgentGrants fuel s g).1
  | 0, _, _, h => h
  | fuel + 1, s, g, h => by
    unfold urgentGrants
    split
    · exact h
    · split
      · exact urgentGrants_kept fuel (grant_kept K h)
      · exact h

theorem orderedGrants_kept : ∀ (xs : List AxisId) {s : State} {g : List PendingEntry},
    P s → P (orderedGrants xs s g).1
  | [], _, _, h => h
  | x :: xs, s, g, h => by
    unfold orderedGrants
    split
    · exact orderedGrants_kept xs h
    · split
      · exact orderedGrants_kept xs (grant_kept K h)
      · exact orderedGrants_kept xs h

theorem passGrants_kept (h : P s) : P s.passGrants.1 := by
  have h1 := urgentGrants_kept K 9 (g := []) h
  unfold State.passGrants
  split
  · rename_i heq
    rw [heq] at h1
    exact h1
  · rename_i heq
    rw [heq] at h1
    exact orderedGrants_kept K _ h1

theorem afterGrant_kept {e : PendingEntry} (h : P s) : P (s.afterGrant e) := by
  unfold State.afterGrant
  split
  · exact settlePair_kept K (loadMember_kept K (loadMember_kept K h))
  · exact grantTrip_kept K h

theorem settleEvent_kept : ∀ (fuel : Nat) {before after : State}, P after → P (settleEvent fuel before after)
  | 0, _, _, h => h
  | fuel + 1, before, after, h => by
    unfold settleEvent
    split
    · exact settleEvent_kept fuel
        (foldl_kept (fun _ _ ht => afterGrant_kept K ht) _ _ (passGrants_kept K (K.passDue _ _ (K.arbiter after _ h))))
    · exact h

theorem settled_kept {before after : State} (h : P after) : P (before.settled after) := settleEvent_kept K _ h

theorem markUrgent_kept {due : PendingEntry → Bool} (h : P s) : P (s.markUrgent due) := by
  unfold State.markUrgent
  extract_lets hit src s1
  exact foldl_kept (fun _ _ ht => axisPost_kept K (by simp [Cause.bit]) ht) _ _
    (K.passDue { s with arbiter := s1.arbiter } s1.passDue (K.arbiter s _ h))

theorem entryUrgent_kept {x : AxisId} (h : P s) : P (s.entryUrgent x) := by
  unfold State.entryUrgent
  split
  · exact h
  · exact markUrgent_kept K (K.arbiter _ _ h)

/-! ### Stations -/

theorem enterShowing_kept {st : StationId} (h : P s) : P (s.enterShowing st) :=
  stationPost_kept K (by simp [Cause.bit]) (putStation_kept K h)

theorem triggerAll_kept {xs : List AxisId} (h : P s) : P (s.triggerAll xs) :=
  foldl_kept (fun _ _ ht => trigger_kept K ht) xs s h

theorem refuseStart_kept {st : StationId} (h : P s) : P (s.refuseStart st) :=
  stationPost_kept K (by simp [Cause.bit]) (putStation_kept K h)

theorem startStation_kept {st : StationId} (h : P s) : P (s.startStation st).1 := by
  unfold State.startStation
  dsimp only
  split
  · exact testActivity_kept K (triggerAll_kept K (enterShowing_kept K h))
  · exact refuseStart_kept K h

theorem demandPress_kept {st : StationId} (h : P s) : P (s.demandPress st).1 := by
  unfold State.demandPress
  dsimp only
  split
  · split
    · exact refuseStart_kept K h
    · exact testActivity_kept K (triggerAll_kept K (enterShowing_kept K h))
  · exact testActivity_kept K (triggerAll_kept K h)
  · exact refuseStart_kept K h

theorem stopStation_kept {st : StationId} (h : P s) : P (s.stopStation st) := handAll_kept K h

theorem restExpiry_kept {st : StationId} (h : P s) : P (s.restExpiry st) := by
  unfold State.restExpiry
  dsimp only
  split
  · exact stationPost_kept K (by simp [Cause.bit]) (putStation_kept K h)
  · exact h

theorem idleTimeout_kept {st : StationId} (h : P s) : P (s.idleTimeout st) := by
  unfold State.idleTimeout
  split
  · exact handAll_kept K (stationPost_kept K (by simp [Cause.bit]) h)
  · exact h

theorem bringOnline_kept {st : StationId} (h : P s) : P (s.bringOnline st) := by
  unfold State.bringOnline
  dsimp only
  split
  · split <;> exact stationPost_kept K (by simp [Cause.bit]) (putStation_kept K h)
  · exact h

theorem takeOffline_kept {st : StationId} (h : P s) : P (s.takeOffline st) := by
  unfold State.takeOffline
  dsimp only
  split
  · exact h
  · exact handAll_kept K (stationPost_kept K (by simp [Cause.bit]) (putStation_kept K h))

theorem unlockStation_kept {st : StationId} (h : P s) : P (s.unlockStation st) := by
  unfold State.unlockStation
  dsimp only
  split
  · exact testLock_kept K (putStation_kept K h)
  · exact h

/-! ### Route actions and the STOP line -/

theorem routeActs_kept {l : LineId} {act : RouteAction} (h : P s) : P (s.routeActs l act) := by
  unfold State.routeActs
  split
  · exact h
  · exact startStation_kept K h
  · exact scanTrigger_kept K h
  · exact raise_kept K h

theorem applyStop_kept (h : P s) : P s.applyStop := raise_kept K (haltAll_kept K h)

theorem applyRelease_kept (h : P s) : P s.applyRelease := clearCondition_kept K h

end Sys2Proof.Machine
end

