-- ==== Sys2Proof/Laws/KeptRequests.lean ====
section
/-! SUPPORT. What a served request can do, said once: a property that the record updates of `Kept` and of `KeptRequests` keep is kept by every
button operation and by every request's action. -/

namespace Sys2Proof.Machine

/-- A property of states that every update a request or a button event makes keeps. A channel record is rewritten within its ranges, a line
within its form, and a request rewrites no part of the link but its three counts. -/
structure KeptRequests (P : State → Prop) : Prop extends Kept P where
  buttons : ∀ s v, P s → P { s with buttons := v }
  buttonTiming : ∀ s v, P s → P { s with buttonTiming := v }
  lamps : ∀ s v, P s → P { s with lamps := v }
  noticeLevel : ∀ s v, P s → P { s with noticeLevel := v }
  channels : ∀ s v, P s → (∀ c, (s.channel c).inBounds → Channel.inBounds (v.get c)) → P { s with channels := v }
  line : ∀ s l r, P s → ((s.line l).formed l → r.formed l) → P (s.putLine l r)
  intervals : ∀ s n c l, P s →
    P { s with alerts := { s.alerts with noteInterval := n, callInterval := c, lockoutInterval := l } }
  kept : ∀ s v, P s → P { s with kept := v }
  counts : ∀ s g u o, P s → P { s with link := { s.link with gapCount := g, sumCount := u, overrunCount := o } }

/-- Both branches of a request keep a property. -/
theorem ite_fst_kept {P : State → Prop} {c : Prop} [Decidable c] {a b : State × List Byte} (ha : P a.1) (hb : P b.1) :
    P (if c then a else b).1 := by
  split
  · exact ha
  · exact hb

variable {P : State → Prop} (K : KeptRequests P) {s : State}
include K

theorem putButton_kept {b : ButtonId} {r : Button} (h : P s) : P (s.putButton b r) := K.buttons _ _ h

theorem putChannel_kept {c : ChannelId} {r : Channel} (h : P s) (hr : (s.channel c).inBounds → r.inBounds) :
    P (s.putChannel c r) := by
  refine K.channels _ _ h fun c' hc' => ?_
  by_cases hcc : c' = c
  · subst hcc
    rw [vector_get_set_self]
    exact hr hc'
  · rw [vector_get_set_ne _ _ _ _ (Ne.symm hcc)]
    exact hc'

/-! ### Buttons -/

theorem handDemand_kept {st : StationId} (h : P s) : P (s.handDemand st) :=
  foldl_kept (fun _ _ ht => demandChange_kept K.toKept ht) _ s h

theorem demandAfter_kept {before : State} {b : ButtonId} (h : P s) : P (before.demandAfter s b) := by
  unfold State.demandAfter
  split
  · exact h
  · split
    · exact h
    · exact handDemand_kept K h

theorem buttonPost_kept {b : ButtonId} {c : Cause} {d : Details → Details} (hc : c.bit < 5) (h : P s) :
    P (s.post (buttonLine b) c d) := post_kept K.toKept (by simpa [LineClass.causeCount] using hc) h

theorem pressAction_kept {before : State} {b : ButtonId} (h : P s) : P (before.pressAction s b) := by
  unfold State.pressAction
  dsimp only
  split
  · exact h
  · split
    · exact h
    · exact ite_kept (startStation_kept K.toKept h)
        (buttonPost_kept K (by simp [Cause.bit]) (startStation_kept K.toKept h))
  · split
    · exact h
    · exact ite_kept (demandPress_kept K.toKept (demandAfter_kept K h))
        (buttonPost_kept K (by simp [Cause.bit]) (demandPress_kept K.toKept (demandAfter_kept K h)))
  · exact ackPress_kept K.toKept h
  · exact foldl_kept (fun _ _ ht => stopStation_kept K.toKept ht) _ s h

theorem buttonPress_kept {b : ButtonId} (h : P s) : P (s.buttonPress b) :=
  pressAction_kept K (buttonPost_kept K (by simp [Cause.bit]) (putButton_kept K h))

theorem enterStuck_kept {b : ButtonId} (h : P s) : P (s.enterStuck b) := by
  have h1 : ∀ r, P ((((s.putButton b r).post (buttonLine b) .stuck).raise .stuckButton .call b.val
      (s.button b).alertStation).1) := fun r =>
    raise_kept K.toKept (buttonPost_kept K (by simp [Cause.bit]) (putButton_kept K h))
  unfold State.enterStuck
  dsimp only
  split
  · exact demandAfter_kept K (h1 _)
  · exact h1 _

theorem enterHeld_kept {b : ButtonId} (h : P s) : P (s.enterHeld b) := by
  have h1 : ∀ r, P ((s.putButton b r).post (buttonLine b) .hold) := fun r =>
    buttonPost_kept K (by simp [Cause.bit]) (putButton_kept K h)
  unfold State.enterHeld
  dsimp only
  split
  · exact ackHold_kept K.toKept (h1 _)
  · exact h1 _

theorem compareHeld_kept {b : ButtonId} (h : P s) : P (s.compareHeld b) := by
  unfold State.compareHeld
  dsimp only
  split
  · exact ite_kept (enterStuck_kept K h) (ite_kept (enterHeld_kept K h) h)
  · exact ite_kept (enterStuck_kept K h) h
  · exact h

theorem buttonRelease_kept {b : ButtonId} (h : P s) : P (s.buttonRelease b) := by
  have h1 : ∀ r, P ((s.putButton b r).post (buttonLine b) .release) := fun r =>
    buttonPost_kept K (by simp [Cause.bit]) (putButton_kept K h)
  unfold State.buttonRelease
  dsimp only
  split
  · exact h1 _
  · exact clearCondition_kept K.toKept (h1 _)
  · exact ite_kept (demandAfter_kept K (h1 _)) (h1 _)

theorem buttonSettle_kept {b : ButtonId} {c : Contact} (h : P s) : P (s.buttonSettle b c) := by
  unfold State.buttonSettle
  dsimp only
  split
  · exact demandAfter_kept K (putButton_kept K h)
  · exact putButton_kept K h

theorem countHeld_kept {b : ButtonId} (h : P s) : P (s.countHeld b) := by
  unfold State.countHeld
  dsimp only
  split
  · exact h
  · exact compareHeld_kept K (putButton_kept K h)

theorem sampleButton_kept {b : ButtonId} (h : P s) : P (s.sampleButton b) := by
  unfold State.sampleButton
  dsimp only
  split
  · unfold State.sampleSettled
    dsimp only
    split
    · exact countHeld_kept K (putButton_kept K h)
    · split
      · exact ite_kept (buttonPress_kept K h) (buttonRelease_kept K h)
      · exact countHeld_kept K (putButton_kept K h)
  · unfold State.sampleUnsettled
    dsimp only
    exact ite_kept (buttonSettle_kept K h) (putButton_kept K h)

/-! ### The requests of the hall: buttons, stations, cues -/

theorem reqSetButton_kept {b p r st : Byte} {hold : Nat} {row col : Byte} (h : P s) :
    P (reqSetButton b p r st hold row col s).1 := by
  unfold reqSetButton
  dsimp only
  repeat' split
  all_goals first | exact h | exact putButton_kept K h

theorem reqSetButtonTiming_kept {d : Byte} {n : Nat} (h : P s) : P (reqSetButtonTiming d n s).1 := by
  unfold reqSetButtonTiming
  split
  · exact K.buttonTiming _ _ h
  · exact h

theorem reqSetStation_kept {st : Byte} {rest idle : Nat} {row col : Byte} (h : P s) :
    P (reqSetStation st rest idle row col s).1 := by
  unfold reqSetStation
  dsimp only
  repeat' split
  all_goals first | exact h | exact putStation_kept K.toKept h

theorem stationCommand_kept {st c : Byte} (h : P s) : P (stationCommand st c s).1 := by
  unfold stationCommand
  split
  · unfold reqStationOnline
    split
    · exact h
    · exact bringOnline_kept K.toKept h
  · unfold reqStationOffline
    split
    · exact h
    · exact takeOffline_kept K.toKept h
  · unfold reqStationStart
    split
    · exact h
    · exact startStation_kept K.toKept h
  · unfold reqStationStop
    split
    · exact h
    · exact stopStation_kept K.toKept h
  · unfold reqStationUnlock
    split
    · exact h
    · exact unlockStation_kept K.toKept h
  · exact h

theorem reqReadStation_kept {st clear : Byte} (h : P s) : P (reqReadStation st clear s).1 := by
  unfold reqReadStation
  split
  · exact ite_kept (putStation_kept K.toKept h) h
  · exact h

theorem reqWriteCue_kept {i k n : Byte} {fields : List Byte} (h : P s) : P (reqWriteCue i k n fields s).1 := by
  unfold reqWriteCue
  repeat' split
  all_goals first | exact h | exact putCue_kept K.toKept h

omit K in
theorem reqReadCue_kept {f c : Byte} (h : P s) : P (reqReadCue f c s).1 := by
  unfold reqReadCue
  repeat' split
  all_goals exact h

omit K in
theorem reqValidateChain_kept {i : Byte} (h : P s) : P (reqValidateChain i s).1 := by
  unfold reqValidateChain
  repeat' split
  all_goals exact h

theorem reqEraseCue_kept {f c : Byte} (h : P s) : P (reqEraseCue f c s).1 := by
  unfold reqEraseCue
  repeat' split
  all_goals first
    | exact h
    | (dsimp only
       split
       · exact h
       · exact foldl_kept (fun _ _ ht => putCue_kept K.toKept ht) _ s h)

theorem hallAction_kept {kind : Byte} {body : List Byte} (h : P s) : P (hallAction kind body s).1 := by
  unfold hallAction
  repeat' (refine ite_fst_kept ?_ ?_)
  all_goals try split
  all_goals first
    | exact reqSetButton_kept K h
    | exact reqSetButtonTiming_kept K h
    | exact reqSetStation_kept K h
    | exact stationCommand_kept K h
    | exact reqReadStation_kept K h
    | exact reqWriteCue_kept K h
    | exact reqReadCue_kept h
    | exact reqValidateChain_kept h
    | exact reqEraseCue_kept K h
    | exact h

/-! ### The requests of the axes and the arbiter -/

theorem dissolve_kept {x : AxisId} {mode : AxisMode} (h : P s) : P (s.dissolve x mode) :=
  putAxis_kept K.toKept (putPair_kept K.toKept h)

theorem configureAxis_kept {x : AxisId} {c : AxisConfig} (h : P s) : P (s.configureAxis x c) :=
  ite_kept (dissolve_kept K (putAxis_kept K.toKept h)) (putAxis_kept K.toKept h)

theorem reqSetAxis_kept {x st m fl r hd : Byte} {lo hi : Int} {g : Byte} {j : Nat} {t : Byte} (h : P s) :
    P (reqSetAxis x st m fl r hd lo hi g j t s).1 := by
  unfold reqSetAxis
  repeat' split
  all_goals first | exact h | exact configureAxis_kept K h

theorem armMember_kept {x : AxisId} {i : CueId} {chain : List CueId} (h : P s) : P (s.armMember x i chain) :=
  enter_kept K.toKept (pinChain_kept K.toKept h)

theorem armWith_kept {x : AxisId} {ms : List (AxisId × CueId × List CueId)} (h : P s) : P (s.armWith x ms).1 := by
  have h1 : P (ms.foldl (fun t m => t.armMember m.1 m.2.1 m.2.2) s) :=
    foldl_kept (fun _ _ ht => armMember_kept K ht) ms s h
  unfold State.armWith
  dsimp only
  repeat' split
  all_goals first | exact h | exact h1 | exact putPair_kept K.toKept h1

theorem armChecks_kept {x : AxisId} {i : CueId} {second : Option CueId} (h : P s) : P (s.armChecks x i second).1 := by
  unfold State.armChecks
  repeat' split
  all_goals first | exact h | exact armWith_kept K h

theorem reqArmAxis_kept {x i j : Byte} (h : P s) : P (reqArmAxis x i j s).1 := by
  unfold reqArmAxis
  repeat' split
  all_goals first | exact h | exact armChecks_kept K h

theorem reqDisarmAxis_kept {x : Byte} (h : P s) : P (reqDisarmAxis x s).1 := by
  unfold reqDisarmAxis
  dsimp only
  repeat' split
  all_goals first | exact h | exact foldl_kept (fun _ _ ht => disarm_kept K.toKept ht) _ s h

theorem joinShow_kept {st : StationId} (h : P s) : P (s.joinShow st) :=
  ite_kept (enterShowing_kept K.toKept h) (putStation_kept K.toKept h)

theorem reqTriggerAxis_kept {x : Byte} (h : P s) : P (reqTriggerAxis x s).1 := by
  unfold reqTriggerAxis
  repeat' split
  all_goals first
    | exact h
    | exact testActivity_kept K.toKept (trigger_kept K.toKept (joinShow_kept K h))

theorem reqDemandAxis_kept {x f : Byte} (h : P s) : P (reqDemandAxis x f s).1 := by
  unfold reqDemandAxis
  dsimp only
  split
  · split
    · exact h
    · exact ite_kept (putAxis_kept K.toKept h) (demandChange_kept K.toKept (putAxis_kept K.toKept h))
  · exact h

theorem reqStopAxis_kept {x : Byte} (h : P s) : P (reqStopAxis x s).1 := by
  unfold reqStopAxis
  dsimp only
  repeat' split
  all_goals first | exact h | exact handAll_kept K.toKept h

theorem reqHaltAxis_kept {x : Byte} (h : P s) : P (reqHaltAxis x s).1 := by
  unfold reqHaltAxis
  split
  · exact h
  · exact haltAll_kept K.toKept h

theorem reqSetPosition_kept {x : Byte} {z : Int} (h : P s) : P (reqSetPosition x z s).1 := by
  unfold reqSetPosition
  dsimp only
  repeat' split
  all_goals first | exact h | exact putAxis_kept K.toKept h

omit K in
theorem reqReadAxis_kept {x : Byte} (h : P s) : P (reqReadAxis x s).1 := by
  unfold reqReadAxis
  split <;> exact h

theorem reqSetBudget_kept {b p : Byte} {w : Nat} (h : P s) : P (reqSetBudget b p w s).1 := by
  unfold reqSetBudget
  split
  · split
    · exact h
    · split
      · exact h
      · rename_i v q _ _ _ _
        exact markUrgent_kept K.toKept
          (K.passDue { s with arbiter := { s.arbiter with budget := v, policy := q, waitLimit := w } } _
            (K.arbiter s _ h))
  · exact h

theorem axisAction_kept {kind : Byte} {body : List Byte} (h : P s) : P (axisAction kind body s).1 := by
  unfold axisAction
  repeat' (refine ite_fst_kept ?_ ?_)
  all_goals try split
  all_goals first
    | exact reqSetAxis_kept K h
    | exact reqArmAxis_kept K h
    | exact reqDisarmAxis_kept K h
    | exact reqTriggerAxis_kept K h
    | exact reqDemandAxis_kept K h
    | exact reqStopAxis_kept K h
    | exact reqHaltAxis_kept K h
    | exact reqSetPosition_kept K h
    | exact reqReadAxis_kept h
    | exact reqSetBudget_kept K h
    | exact h

/-! ### The requests of the scanner, the alert table and the lamp matrix -/

theorem reqSetScan_kept {a b m src : Byte} {p : Nat} {t : Byte} (h : P s) : P (reqSetScan a b m src p t s).1 := by
  unfold reqSetScan
  split
  · split
    · exact h
    · exact K.scanner _ _ h
  · exact h

theorem prepareChannels_kept (h : P s) : P s.prepareChannels := by
  refine K.channels _ _ h fun c hc => ?_
  have : (s.channels.map Channel.prepare).get c = (s.channel c).prepare := by
    simp [State.channel, Vector.get]
  rw [this]
  exact hc

theorem scanSwitch_kept {f : Byte} (h : P s) : P (scanSwitch f s).1 := by
  unfold scanSwitch
  split
  · unfold reqScanEnable
    split
    · split
      · exact h
      · exact K.scanner _ _ (prepareChannels_kept K h)
    · exact h
  · unfold reqScanDisable
    split
    · exact h
    · exact K.scanner _ _ h
  · exact h

theorem reqScanTrigger_kept (h : P s) : P (reqScanTrigger s).1 := by
  unfold reqScanTrigger
  repeat' split
  all_goals first | exact h | exact scanTrigger_kept K.toKept h

theorem reqSetChannel_kept {c k : Byte} {lo hi : Nat} {p : Byte} (h : P s) : P (reqSetChannel c k lo hi p s).1 := by
  unfold reqSetChannel
  split
  · split
    · exact h
    · split
      · exact h
      · exact putChannel_kept K h fun hc => hc
  · exact h

theorem clearFresh_kept {cs : List ChannelId} (h : P s) : P (s.clearFresh cs) := by
  have step : ∀ (t : State) (c : ChannelId), P t →
      P (t.putChannel c { t.channel c with fresh := false, overrun := false }) :=
    fun t c ht => putChannel_kept K ht fun hc => hc
  exact foldl_kept step cs s h

theorem reqReadSense_kept {cs : List Byte} (h : P s) : P (reqReadSense cs s).1 := by
  unfold reqReadSense
  split
  · exact h
  · exact clearFresh_kept K h

omit K in
theorem reqReadAlerts_kept {f c : Byte} (h : P s) : P (reqReadAlerts f c s).1 := by
  unfold reqReadAlerts
  split <;> exact h

theorem reqAckAlert_kept {id : Nat} (h : P s) : P (reqAckAlert id s).1 := by
  unfold reqAckAlert
  split
  · exact h
  · split
    · exact h
    · rename_i r hr
      exact acknowledge_kept K.toKept (List.mem_of_find?_eq_some hr) h

theorem reqClearAlert_kept {id : Nat} (h : P s) : P (reqClearAlert id s).1 := by
  unfold reqClearAlert
  repeat' split
  all_goals first | exact h | exact removeRecord_kept K.toKept h

theorem reqRaiseAlert_kept {v st c : Byte} (h : P s) : P (reqRaiseAlert v st c s).1 := by
  unfold reqRaiseAlert
  split
  · exact raise_kept K.toKept h
  · exact h

theorem reqSetEscalation_kept {n c l : Nat} (h : P s) : P (reqSetEscalation n c l s).1 := by
  unfold reqSetEscalation
  split
  · exact K.intervals _ _ _ _ h
  · exact h

theorem writeColumns_kept {n : SceneId} : ∀ (bytes : List Byte) {c : Fin 32} {s : State},
    P s → P (State.writeColumns n c bytes s)
  | [], _, _, h => h
  | _ :: rest, _, _, h => writeColumns_kept rest (K.lamps _ _ h)

theorem reqWriteLamps_kept {n c : Byte} {cols : List Byte} (h : P s) : P (reqWriteLamps n c cols s).1 := by
  unfold reqWriteLamps
  repeat' split
  all_goals first | exact h | exact writeColumns_kept K cols h

omit K in
theorem reqReadLamps_kept {src c n : Byte} (h : P s) : P (reqReadLamps src c n s).1 := by
  unfold reqReadLamps
  repeat' split
  all_goals exact h

theorem reqShowScene_kept {n : Byte} (h : P s) : P (reqShowScene n s).1 := by
  unfold reqShowScene
  repeat' split
  all_goals first | exact h | exact K.lamps _ _ h

theorem reqSetMirror_kept {f : Byte} (h : P s) : P (reqSetMirror f s).1 := by
  unfold reqSetMirror
  repeat' split
  all_goals first | exact h | exact K.lamps _ _ h

theorem senseAction_kept {kind : Byte} {body : List Byte} (h : P s) : P (senseAction kind body s).1 := by
  unfold senseAction
  repeat' (refine ite_fst_kept ?_ ?_)
  all_goals try split
  all_goals first
    | exact reqSetScan_kept K h
    | exact scanSwitch_kept K h
    | exact reqScanTrigger_kept K h
    | exact reqSetChannel_kept K h
    | exact reqReadSense_kept K h
    | exact reqReadAlerts_kept h
    | exact reqAckAlert_kept K h
    | exact reqClearAlert_kept K h
    | exact reqRaiseAlert_kept K h
    | exact reqSetEscalation_kept K h
    | exact reqWriteLamps_kept K h
    | exact reqReadLamps_kept h
    | exact reqShowScene_kept K h
    | exact reqSetMirror_kept K h
    | exact h

/-! ### The requests of the link and the event table -/

theorem reqStatus_kept {c : Byte} (h : P s) : P (reqStatus c s).1 := by
  unfold reqStatus
  split
  · exact h
  · exact ite_kept (K.counts _ _ _ _ h) h

theorem reqSetEvent_kept {l e v a p q : Byte} {m : BitVec 16} (h : P s) : P (reqSetEvent l e v a p q m s).1 := by
  unfold reqSetEvent
  split
  · split
    · exact h
    · exact K.line _ _ _ h fun hf => hf
  · exact h

omit K in
/-- A cleared line has its form. -/
theorem Line.clear_formed (ln : Line) (l : LineId) : ln.clear.formed l := by
  refine ⟨fun _ => ⟨rfl, rfl, rfl⟩, fun hf => ?_, ?_⟩
  · simp [Line.clear] at hf
  · simp [Line.clear]

theorem reqClearEvents_kept {ls : List Byte} (h : P s) : P (reqClearEvents ls s).1 := by
  unfold reqClearEvents
  split
  · exact h
  · exact foldl_kept (fun _ _ ht => K.line _ _ _ ht fun _ => Line.clear_formed _ _) _ s h

theorem reqSetNoticeLevel_kept {v : Byte} (h : P s) : P (reqSetNoticeLevel v s).1 := by
  unfold reqSetNoticeLevel
  split
  · exact h
  · exact K.noticeLevel _ _ h

theorem linkAction_kept {kind : Byte} {body : List Byte} (h : P s) : P (linkAction kind body s).1 := by
  unfold linkAction
  repeat' (refine ite_fst_kept ?_ ?_)
  all_goals try split
  all_goals first
    | exact reqStatus_kept K h
    | exact reqSetEvent_kept K h
    | exact reqClearEvents_kept K h
    | exact reqSetNoticeLevel_kept K h
    | exact K.kept _ _ h

/-- A request's action keeps the property. -/
theorem requestAction_kept {kind : Byte} {body : List Byte} (h : P s) : P (requestAction kind body s).1 := by
  unfold requestAction
  repeat' split
  · exact linkAction_kept K h
  · exact hallAction_kept K h
  · exact axisAction_kept K h
  · exact senseAction_kept K h

/-- Serving a request keeps the property. -/
theorem serve_kept {f : Frame} (h : P s) : P (s.serve f).1 := by
  unfold State.serve
  split
  · exact h
  · exact requestAction_kept K h

end Sys2Proof.Machine
end

