-- ==== Sys2Proof/Laws/KeptSteps.lean ====
section
/-! SUPPORT. What a step can do, said once: a property that the updates of `KeptSteps` keep is kept by every command and by every millisecond
of the timebase. -/

namespace Sys2Proof.Machine

/-- A property of states that every update of an event keeps, a command's own and a millisecond's, but for the starts, the test, the counts of
every condition and the input pins. -/
structure KeptEvents (P : State → Prop) : Prop extends KeptRequests P where
  link : ∀ s v, P s → P { s with link := v }
  stopLine : ∀ s v, P s → P { s with stopLine := v }
  mapRecords : ∀ s f, (∀ r : Alert, (f r).id = r.id ∧ (f r).identity = r.identity) → P s →
    P (s.putRecords (s.alerts.records.map f))

/-- A property of states that every update of a command or of a millisecond keeps. -/
structure KeptSteps (P : State → Prop) : Prop extends KeptEvents P where
  part : ∀ s v, P s → P { s with part := v }
  pins : ∀ s v, P s → P { s with pins := v }
  cold : ∀ s, P s → P s.coldReset

/-! ### The filter (R129) -/

/-- The filtered value stays in its range (R129). -/
theorem filterStep_le {seeded : Bool} {k y x : Nat} (hy : y ≤ 1023) (hx : x ≤ 1023) : filterStep seeded k y x ≤ 1023 := by
  unfold filterStep
  split
  · have hpos : (0 : Int) < ((2 ^ k : Nat) : Int) := by exact_mod_cast Nat.two_pow_pos k
    have h2 : ((x : Int) - y) / ((2 ^ k : Nat) : Int) ≤ max 0 ((x : Int) - y) := by
      by_cases hxy : (0 : Int) ≤ (x : Int) - y
      · exact le_trans (Int.ediv_le_self _ hxy) (le_max_right _ _)
      · exact le_trans (le_of_lt (Int.ediv_neg_of_neg_of_pos (by omega) hpos)) (le_max_left _ _)
    have h3 : max 0 ((x : Int) - y) ≤ 1023 - (y : Int) := by omega
    omega
  · exact hx

@[simp] theorem Channel.mark_raw (r : Channel) : r.mark.raw = r.raw := rfl
@[simp] theorem Channel.mark_filtered (r : Channel) : r.mark.filtered = r.filtered := rfl

theorem Channel.windowStep_raw (r : Channel) : r.windowStep.1.raw = r.raw := by
  unfold Channel.windowStep
  dsimp only
  split
  · rfl
  · split
    · rfl
    · split <;> split <;> rfl

theorem Channel.windowStep_filtered (r : Channel) : r.windowStep.1.filtered = r.filtered := by
  unfold Channel.windowStep
  dsimp only
  split
  · rfl
  · split
    · rfl
    · split <;> split <;> rfl

/-- A store keeps a channel's values in their ranges. -/
theorem Channel.store_inBounds {r : Channel} {x : Nat} (hx : x ≤ 1023) (h : r.inBounds) :
    (r.filter x).mark.windowStep.1.inBounds := by
  refine ⟨?_, ?_⟩
  · rw [Channel.windowStep_raw]; exact hx
  · rw [Channel.windowStep_filtered]; exact filterStep_le h.2 hx

/-! ### The chosen line (R174) -/

/-- A chosen line is a candidate. -/
theorem State.chosenLine_candidate {s : State} {l : LineId} (h : s.chosenLine = some l) : s.candidate l = true := by
  have key : ∀ (ls : List LineId) (b : Option LineId), (∀ m, b = some m → s.candidate m = true) →
      ∀ m, ls.foldl s.better b = some m → s.candidate m = true := by
    intro ls
    induction ls with
    | nil => intro b hb m hm; exact hb m hm
    | cons x ls ih =>
      intro b hb m hm
      refine ih _ ?_ m hm
      intro k hk
      unfold State.better at hk
      split at hk
      · rename_i hx
        split at hk
        · cases hk; exact hx
        · rename_i j
          split at hk
          · cases hk; exact hx
          · cases hk; exact hb _ rfl
      · exact hb k hk
  exact key allLines none (fun m hm => by cases hm) l h

theorem State.candidate_flag {s : State} {l : LineId} (h : s.candidate l = true) : (s.line l).flag = true := by
  simp only [State.candidate, Bool.and_eq_true] at h
  exact h.1.1.1.2

section Events

variable {P : State → Prop} (K : KeptEvents P) {s : State}
include K

/-! ### The scanner -/

theorem jamGuard_kept {c : ChannelId} (h : P s) : P (s.jamGuard c) := by
  unfold State.jamGuard
  dsimp only
  exact foldl_kept (fun _ _ ht => halt_kept K.toKept ht) _ _
    (foldl_kept (fun _ _ ht => putAxis_kept K.toKept ht) _ s h)

theorem channelPost_kept {ch : ChannelId} {c : Cause} {d : Details → Details} (hc : c.bit < 4) (h : P s) :
    P (s.post (channelLine ch) c d) := post_kept K.toKept (by simpa [LineClass.causeCount] using hc) h

theorem store_kept {c : ChannelId} {x : Nat} (hx : x ≤ 1023) (h : P s) : P (s.store c x) := by
  unfold State.store
  dsimp only
  have h1 : P (s.putChannel c ((s.channel c).filter x).mark.windowStep.1) :=
    putChannel_kept K.toKeptRequests h (Channel.store_inBounds hx)
  generalize hs1 : s.putChannel c ((s.channel c).filter x).mark.windowStep.1 = s1 at h1
  have h2 : P (match ((s.channel c).filter x).mark.windowStep.2 with
      | none => s1
      | some w => s1.post (channelLine c) w.cause) := by
    split
    · exact h1
    · rename_i w _
      exact channelPost_kept K (by cases w <;> simp [WindowClass.cause, Cause.bit]) h1
  exact jamGuard_kept K (ite_kept (channelPost_kept K (by simp [Cause.bit]) h2) h2)

theorem endScan_kept (h : P s) : P s.endScan := by
  unfold State.endScan
  dsimp only
  split
  all_goals exact K.scanner _ _ (post_kept K.toKept (by simp [Cause.bit, LineClass.causeCount]) h)

theorem conversionComplete_kept {x : Nat} (hx : x ≤ 1023) (h : P s) : P (s.conversionComplete x) := by
  unfold State.conversionComplete
  split
  · dsimp only
    split
    · exact endScan_kept K (store_kept K hx h)
    · exact K.scanner _ _ (store_kept K hx h)
  · exact h

theorem periodExpiry_kept (h : P s) : P s.periodExpiry := by
  unfold State.periodExpiry
  split
  · exact scanTrigger_kept K.toKept (K.scanner _ _ h)
  · exact h

theorem triggerFallingEdge_kept (h : P s) : P s.triggerFallingEdge := scanTrigger_kept K.toKept (K.scanner _ _ h)

theorem sampleTrigger_kept (h : P s) : P s.sampleTrigger :=
  ite_kept (triggerFallingEdge_kept K h) (K.scanner _ _ h)

/-! ### The STOP line -/

theorem setStopLine_kept {a : Bool} (h : P s) : P (s.setStopLine a) := by
  have h1 := K.stopLine s { s.stopLine with level := some a } h
  unfold State.setStopLine
  dsimp only
  split
  · exact h1
  · split
    · exact applyStop_kept K.toKept h1
    · exact applyRelease_kept K.toKept h1

theorem sampleStop_kept (h : P s) : P s.sampleStop := by
  unfold State.sampleStop
  dsimp only
  exact ite_kept (setStopLine_kept K (K.stopLine _ _ h)) (K.stopLine _ _ h)

/-! ### The link and the end of an event -/

theorem acceptFrame_kept {f : Frame} (h : P s) : P (s.acceptFrame f) := by
  unfold State.acceptFrame
  split <;> exact K.link _ _ h

theorem hunt_kept (h : P s) : P s.hunt := K.link _ _ h

theorem frameComplete_kept {bytes : List Byte} (h : P s) : P (s.frameComplete bytes) := by
  unfold State.frameComplete
  split
  · split
    · exact acceptFrame_kept K h
    · exact h
  · exact post_kept K.toKept (by simp [Cause.bit, LineClass.causeCount]) (K.link _ _ h)

theorem takeByte_kept {c : Byte} (h : P s) : P (s.takeByte c) := by
  unfold State.takeByte
  split
  · exact ite_kept (K.link _ _ h) h
  · exact ite_kept (K.link _ _ h) (hunt_kept K h)
  · exact ite_kept (K.link _ _ h) (frameComplete_kept K (hunt_kept K h))

theorem byteReceived_kept {c : Byte} {b : Bool} (h : P s) : P (s.byteReceived c b) :=
  ite_kept (takeByte_kept K h) h

theorem gapExpiry_kept (h : P s) : P s.gapExpiry := by
  unfold State.gapExpiry
  split
  · exact h
  · exact K.link _ _ (hunt_kept K h)

theorem takeHeld_kept (h : P s) : P s.takeHeld := by
  unfold State.takeHeld
  split
  · exact K.link _ _ (settled_kept K.toKept (serve_kept K.toKeptRequests (K.link _ _ h)))
  · exact h

theorem beginReply_kept (h : P s) : P s.beginReply := by
  unfold State.beginReply
  split
  · exact K.link _ _ h
  · exact h

theorem chooseNotice_kept (h : P s) : P s.chooseNotice := by
  unfold State.chooseNotice
  split
  · rename_i l _ _ hl
    refine K.link _ _ (K.line _ _ _ h fun hf => ?_)
    have hflag := State.candidate_flag (State.chosenLine_candidate hl)
    exact ⟨fun h0 => absurd hflag (by simpa using h0), hf.2⟩
  · exact h

theorem pump_kept (h : P s) : P s.pump :=
  chooseNotice_kept K (takeHeld_kept K (beginReply_kept K (takeHeld_kept K h)))

theorem drain_kept : ∀ (fuel : Nat) {s : State}, P s → P (drain fuel s)
  | 0, _, h => h
  | fuel + 1, s, h => by
    unfold drain
    split
    · exact h
    · exact drain_kept fuel (pump_kept K (settled_kept K.toKept (routeActs_kept K.toKept (K.handed _ _ h))))

/-- An event keeps what its own change keeps. -/
theorem runEvent_kept {g : State → State} (hg : P (g s)) : P (s.runEvent g) :=
  drain_kept K _ (pump_kept K (settled_kept K.toKept hg))

theorem request_kept {t k : Byte} {b : List Byte} (h : P s) : P (s.request t k b) :=
  runEvent_kept K (acceptFrame_kept K h)

theorem eventWhen_kept {c : Bool} {g : State → State} {t : State} (h : P s) (hg : P (g s))
    (ht : s.eventWhen c g = .next t) : P t := by
  unfold State.eventWhen at ht
  cases ht
  exact ite_kept (runEvent_kept K hg) h

/-! ### The millisecond -/

theorem runWhen_kept {c : Bool} {g : State → State} (h : P s) (hg : P (g s)) : P (s.runWhen c g) :=
  ite_kept (runEvent_kept K hg) h

omit K in
theorem Alert.count_id (r : Alert) : r.count.id = r.id ∧ r.count.identity = r.identity := by
  unfold Alert.count
  split <;> exact ⟨rfl, rfl⟩

theorem countBlocks_kept (h : P s) : P s.countBlocks := by
  have h1 := K.stations s s.countBlocks.stations h
  have h2 := K.axes _ s.countBlocks.axes h1
  have h3 := K.arbiter _ s.countBlocks.arbiter h2
  have h4 := K.scanner _ s.countBlocks.scanner h3
  have h5 := K.lamps _ s.countBlocks.lamps h4
  exact K.mapRecords _ Alert.count Alert.count_id h5

theorem sampleEndStop_kept {x : AxisId} {side : StopSide} (h : P s) : P (s.sampleEndStop x side).1 := by
  unfold State.sampleEndStop
  dsimp only
  split
  · exact runWhen_kept K (putAxis_kept K.toKept h) (endStopChange_kept K.toKept (putAxis_kept K.toKept h))
  · exact putAxis_kept K.toKept h

theorem countDwell_kept {x : AxisId} (h : P s) : P (s.countDwell x) := by
  unfold State.countDwell
  dsimp only
  split
  · exact runWhen_kept K (putAxis_kept K.toKept h) (dwellExpiry_kept K.toKept (putAxis_kept K.toKept h))
  · exact h

theorem axisMillisecond_kept {x : AxisId} {m : Bool} (h : P s) : P (s.axisMillisecond x m) := by
  have h1 : P (s.sampleEndStop x .low).1 := sampleEndStop_kept K h
  have h2 : P ((s.sampleEndStop x .low).1.sampleEndStop x .high).1 := sampleEndStop_kept K h1
  unfold State.axisMillisecond
  dsimp only
  exact runWhen_kept K (countDwell_kept K h2) (rampTick_kept K.toKept (countDwell_kept K h2))

theorem stationMillisecond_kept {st : StationId} (h : P s) : P (s.stationMillisecond st) := by
  unfold State.stationMillisecond
  dsimp only
  have h1 : ∀ c, P (s.runWhen c fun t => t.restExpiry st) := fun c =>
    runWhen_kept K h (restExpiry_kept K.toKept h)
  exact runWhen_kept K (h1 _) (idleTimeout_kept K.toKept (h1 _))

theorem blocksMillisecond_kept {moved : List AxisId} (h : P s) : P (s.blocksMillisecond moved) := by
  have h1 : P (s.runEvent State.sampleTrigger) := runEvent_kept K (sampleTrigger_kept K h)
  have h2 : ∀ c, P ((s.runEvent State.sampleTrigger).runWhen c State.periodExpiry) := fun c =>
    runWhen_kept K h1 (periodExpiry_kept K h1)
  have buttons : ∀ t : State, P t → P (allButtons.foldl (fun t b => t.runEvent fun u => u.sampleButton b) t) :=
    fun t ht => foldl_kept (fun u b hu => runEvent_kept K (sampleButton_kept K.toKeptRequests hu)) _ t ht
  have axes : ∀ t : State, P t → P (allAxes.foldl (fun t x => t.axisMillisecond x (moved.contains x)) t) :=
    fun t ht => foldl_kept (fun u x hu => axisMillisecond_kept K hu) _ t ht
  have urgent : ∀ t : State, P t → P (t.runEvent fun u => u.markUrgent u.arbiter.reached) :=
    fun t ht => runEvent_kept K (markUrgent_kept K.toKept ht)
  have stations : ∀ t : State, P t → P (allStations.foldl State.stationMillisecond t) :=
    fun t ht => foldl_kept (fun u st hu => stationMillisecond_kept K hu) _ t ht
  have alerts : ∀ (ids : List Nat) (t : State), P t →
      P (ids.foldl (fun t id => t.runWhen (t.escalationDue id) fun u => u.escalate id) t) :=
    fun ids t ht => foldl_kept (fun u id hu => runWhen_kept K hu (escalate_kept K.toKept hu)) _ t ht
  unfold State.blocksMillisecond
  exact alerts _ _ (stations _ (urgent _ (axes _ (ite_kept (buttons _ (h2 _)) (h2 _)))))


end Events

section Steps

variable {P : State → Prop} (K : KeptSteps P) {s : State}
include K

/-! ### The starts and the test -/

theorem warmRestart_kept (hs : P s) : P s.warmRestart := by
  have h := K.cold s hs
  have h1 := K.part _ s.warmRestart.part h
  have h2 := K.cues _ s.warmRestart.cues h1
  exact K.lamps _ s.warmRestart.lamps h2

theorem testEnd_kept (h : P s) : P s.testEnd := by
  unfold State.testEnd
  dsimp only
  have h1 := K.part s
    { s.part with
      condition := if s.part.failure.getLsbD 2 then .failed else .inService, available := availabilityOf s.part.failure } h
  have h2 : P ((failedItems s.part.failure).foldl (fun t i => (t.raise .selfTest .call i none).1) _) :=
    foldl_kept (fun _ _ ht => raise_kept K.toKept ht) _ _ h1
  exact post_kept K.toKept (by simp [Cause.bit, LineClass.causeCount]) (ite_kept (applyStop_kept K.toKept h2) h2)

theorem testItemDone_kept {f : Bool} (h : P s) : P (s.testItemDone f) := by
  unfold State.testItemDone
  split
  · split
    · exact h
    · dsimp only
      exact ite_kept (testEnd_kept K (K.part _ _ h)) (K.part _ _ h)
  · exact h

theorem transmitEnd_kept (h : P s) : P s.transmitEnd := by
  unfold State.transmitEnd
  split
  · exact h
  · exact ite_kept (warmRestart_kept K h) (runEvent_kept K.toKeptEvents (K.link _ _ h))
  · exact runEvent_kept K.toKeptEvents (K.link _ _ h)

/-! ### The commands -/

theorem setButtonPin_kept {b : ButtonId} {c : Contact} (h : P s) : P (s.setButtonPin b c) := K.pins _ _ h
theorem holdFor_kept {b : ButtonId} {n : Nat} (h : P s) : P (s.holdFor b n) := putButton_kept K.toKeptRequests h

theorem driveStop_kept {a : Bool} (h : P s) : P (s.driveStop a) :=
  K.stopLine { s with pins := (s.driveStop a).pins } (s.driveStop a).stopLine (K.pins s _ h)

theorem driveEndStop_kept {x : AxisId} {side : StopSide} {a : Bool} (h : P s) : P (s.driveEndStop x side a) :=
  putAxis_kept K.toKept (s := { s with pins := (s.driveEndStop x side a).pins }) (K.pins s _ h)

theorem fallingEdge_kept (h : P s) :
    P ((fun t : State => { t with pins := { t.pins with trigger := false } }.triggerFallingEdge) s) :=
  triggerFallingEdge_kept K.toKeptEvents (K.pins _ _ h)

theorem flipBlink_kept {clock : BlinkClock} (h : P s) : P (s.flipBlink clock) := by
  cases clock <;> exact K.lamps _ _ h

/-- Every command keeps the property. -/
theorem exec_kept {c : Instr} {t : State} (h : P s) (ht : exec c s = .next t) : P t := by
  cases c
  case coldReset => cases ht; exact K.cold _ h
  case warmRestart => cases ht; exact ite_kept (warmRestart_kept K h) h
  case testItemDone => exact eventWhen_kept K.toKeptEvents h (testItemDone_kept K h) ht
  case buttonSettle => exact eventWhen_kept K.toKeptEvents h (buttonSettle_kept K.toKeptRequests (setButtonPin_kept K h)) ht
  case buttonPress => exact eventWhen_kept K.toKeptEvents h (buttonPress_kept K.toKeptRequests (setButtonPin_kept K h)) ht
  case buttonHold => exact eventWhen_kept K.toKeptEvents h (compareHeld_kept K.toKeptRequests (holdFor_kept K h)) ht
  case buttonStuck => exact eventWhen_kept K.toKeptEvents h (compareHeld_kept K.toKeptRequests (holdFor_kept K h)) ht
  case buttonRelease => exact eventWhen_kept K.toKeptEvents h (buttonRelease_kept K.toKeptRequests (setButtonPin_kept K h)) ht
  case restExpiry => exact eventWhen_kept K.toKeptEvents h (restExpiry_kept K.toKept h) ht
  case idleTimeout => exact eventWhen_kept K.toKeptEvents h (idleTimeout_kept K.toKept h) ht
  case stopLineAssert =>
    exact eventWhen_kept K.toKeptEvents h (setStopLine_kept K.toKeptEvents (driveStop_kept K h)) ht
  case stopLineRelease =>
    exact eventWhen_kept K.toKeptEvents h (setStopLine_kept K.toKeptEvents (driveStop_kept K h)) ht
  case endStopChange =>
    exact eventWhen_kept K.toKeptEvents h (endStopChange_kept K.toKept (driveEndStop_kept K h)) ht
  case dwellExpiry => exact eventWhen_kept K.toKeptEvents h (dwellExpiry_kept K.toKept h) ht
  case rampTick => exact eventWhen_kept K.toKeptEvents h (rampTick_kept K.toKept h) ht
  case entryUrgent => exact eventWhen_kept K.toKeptEvents h (entryUrgent_kept K.toKept h) ht
  case conversionComplete result =>
    exact eventWhen_kept K.toKeptEvents h (conversionComplete_kept K.toKeptEvents (by have := result.isLt; omega) h) ht
  case periodExpiry => exact eventWhen_kept K.toKeptEvents h (periodExpiry_kept K.toKeptEvents h) ht
  case triggerFallingEdge => exact eventWhen_kept K.toKeptEvents h (fallingEdge_kept K h) ht
  case escalation => exact eventWhen_kept K.toKeptEvents h (escalate_kept K.toKept h) ht
  case blinkPhaseChange clock => exact eventWhen_kept K.toKeptEvents h (flipBlink_kept K h) ht
  case byteReceived => exact eventWhen_kept K.toKeptEvents h (byteReceived_kept K.toKeptEvents h) ht
  case gapExpiry => exact eventWhen_kept K.toKeptEvents h (gapExpiry_kept K.toKeptEvents h) ht
  case transmitEnd => cases ht; exact transmitEnd_kept K h
  all_goals cases ht; exact request_kept K.toKeptEvents h

/-! ### The whole millisecond -/

theorem countAlways_kept (h : P s) : P s.countAlways := K.link _ s.countAlways.link (K.part _ s.countAlways.part h)

theorem tick_kept (h : P s) : P s.tick := by
  have h0 : P (drain Config.routeFuel s) := drain_kept K.toKeptEvents _ h
  unfold State.tick
  extract_lets s0 moved s1 s2 s3
  have h1 : P s1 := ite_kept (countAlways_kept K h0) (countBlocks_kept K.toKeptEvents (countAlways_kept K h0))
  have h2 : P s2 := runWhen_kept K.toKeptEvents h1 (gapExpiry_kept K.toKeptEvents h1)
  have h3 : P s3 := runEvent_kept K.toKeptEvents (sampleStop_kept K.toKeptEvents h2)
  exact ite_kept h3 (blocksMillisecond_kept K.toKeptEvents h3)

/-- Every step keeps the property. -/
theorem step_kept (hp : ∀ s v, P s → P { s with pending := v }) {t : State} (h : P s) (ht : step s = .next t) :
    P t := by
  unfold step at ht
  split at ht
  · cases ht
    exact tick_kept K h
  · exact exec_kept K (hp _ _ h) ht

end Steps

end Sys2Proof.Machine
end

