-- ==== Sys2Proof/Laws/Records.lean ====
section
/-! SUPPORT. The forms of the records: an arrival keeps a line's form, and the alert table's next id is always free. -/

namespace Sys2Proof.Machine

/-! ### Event lines -/

/-- An arrival of a cause of the line's class keeps the line's form (R170). -/
theorem Line.arrive_formed {ln : Line} {l : LineId} {c : Cause} {d : Details → Details}
    (hc : c.bit < (lineClass l).causeCount) (h : ln.formed l) : (ln.arrive c d).formed l := by
  have hn : (lineClass l).causeCount ≤ 11 := by cases lineClass l <;> simp [LineClass.causeCount]
  refine ⟨fun hf => by simp [Line.arrive] at hf, fun _ => ?_, ?_⟩
  · intro h0
    have hbit : (ln.causes ||| c.asSet).getLsbD c.bit = true := by
      simp [Cause.asSet]; right; omega
    simp only [Line.arrive] at h0
    rw [h0] at hbit
    simp at hbit
  · have h1 := h.2.2
    have h2 : c.asSet.toNat < 2 ^ (lineClass l).causeCount := by
      have heq : c.asSet.toNat = 2 ^ c.bit := by
        unfold Cause.asSet
        rw [BitVec.toNat_shiftLeft]
        have : 2 ^ c.bit < 2 ^ 16 := Nat.pow_lt_pow_right (by omega) (by omega)
        simp [Nat.shiftLeft_eq]; omega
      rw [heq]
      exact Nat.pow_lt_pow_right (by omega) hc
    simp only [Line.arrive, BitVec.toNat_or]
    exact Nat.or_lt_two_pow h1 h2

/-! ### Ids (R138) -/

/-- The id after one is an id. -/
theorem nextIdAfter_range {n : Nat} (h : 1 ≤ n) : 1 ≤ nextIdAfter n ∧ nextIdAfter n ≤ 65535 := by
  unfold nextIdAfter
  split <;> omega

/-- The id `k` after one. -/
def idAfter : Nat → Nat → Nat
  | 0, n => n
  | k + 1, n => idAfter k (nextIdAfter n)

theorem idAfter_eq {n : Nat} (k : Nat) (h1 : 1 ≤ n) (h2 : n ≤ 65535) : idAfter k n = (n - 1 + k) % 65535 + 1 := by
  induction k generalizing n with
  | zero =>
    simp only [idAfter, Nat.add_zero]
    rw [Nat.mod_eq_of_lt (by omega)]
    omega
  | succ k ih =>
    have hr := nextIdAfter_range h1
    rw [idAfter, ih hr.1 hr.2]
    unfold nextIdAfter
    split
    · have hn : n = 65535 := by omega
      subst hn
      congr 1
      omega
    · congr 2
      omega

/-- The search for a free id ends at an id, and at a free one unless every id it tried is taken. -/
theorem freeId_spec (rs : List Alert) : ∀ (fuel n : Nat), 1 ≤ n → n ≤ 65535 →
    (1 ≤ freeId rs fuel n ∧ freeId rs fuel n ≤ 65535) ∧
      ((∀ r ∈ rs, r.id ≠ freeId rs fuel n) ∨ ∀ k < fuel, ∃ r ∈ rs, r.id = idAfter k n)
  | 0, _, h1, h2 => ⟨⟨h1, h2⟩, Or.inr fun _ hk => absurd hk (by omega)⟩
  | fuel + 1, n, h1, h2 => by
    unfold freeId
    split
    · rename_i hany
      have hr := nextIdAfter_range h1
      have ih := freeId_spec rs fuel _ hr.1 hr.2
      refine ⟨ih.1, ih.2.imp id fun hk k hkf => ?_⟩
      cases k with
      | zero => simpa [idAfter] using hany
      | succ k => exact hk k (by omega)
    · rename_i hany
      refine ⟨⟨h1, h2⟩, Or.inl fun r hr he => hany ?_⟩
      simpa using ⟨r, hr, he⟩

/-- Of 17 ids in a row, 16 records leave one free (R138). -/
theorem freeId_new {rs : List Alert} {n : Nat} (hlen : rs.length ≤ 16) (h1 : 1 ≤ n) (h2 : n ≤ 65535) :
    ∀ r ∈ rs, r.id ≠ freeId rs 17 n := by
  rcases (freeId_spec rs 17 n h1 h2).2 with h | h
  · exact h
  · exfalso
    have hsub : (Finset.range 17).image (fun k => idAfter k n) ⊆ (rs.map (·.id)).toFinset := by
      intro v hv
      simp only [Finset.mem_image, Finset.mem_range] at hv
      obtain ⟨k, hk, rfl⟩ := hv
      obtain ⟨r, hr, he⟩ := h k hk
      simp only [List.mem_toFinset, List.mem_map]
      exact ⟨r, hr, he⟩
    have hinj : Set.InjOn (fun k => idAfter k n) (Finset.range 17 : Finset Nat) := by
      intro a ha b hb hab
      simp only [Finset.coe_range, Set.mem_Iio] at ha hb
      simp only [idAfter_eq _ h1 h2] at hab
      omega
    have hc := Finset.card_le_card hsub
    rw [Finset.card_image_of_injOn hinj, Finset.card_range] at hc
    have := List.toFinset_card_le (rs.map (·.id))
    simp at this
    omega

end Sys2Proof.Machine
end

