-- ==== Sys2Proof/Laws/Axes.lean ====
section
/-! SUPPORT. What an axis's change of state comes to: the axis takes its context, every other axis stands, and the rest of the part moves only in the
stations, the event lines, the scanner and the actions handed over. -/

namespace Sys2Proof.Machine

/-- What a report to a station and a trigger of the scanner may touch is the stations, the event lines, the scanner and the actions handed
over. -/
structure SameBut (s t : State) : Prop where
  part : t.part = s.part
  buttons : t.buttons = s.buttons
  cues : t.cues = s.cues
  axes : t.axes = s.axes
  pairs : t.pairs = s.pairs
  arbiter : t.arbiter = s.arbiter
  channels : t.channels = s.channels
  alerts : t.alerts = s.alerts
  lamps : t.lamps = s.lamps
  link : t.link = s.link
  passDue : t.passDue = s.passDue

theorem SameBut.rfl {s : State} : SameBut s s :=
  ⟨Eq.refl _, Eq.refl _, Eq.refl _, Eq.refl _, Eq.refl _, Eq.refl _, Eq.refl _, Eq.refl _, Eq.refl _, Eq.refl _,
    Eq.refl _⟩

theorem SameBut.trans {s t u : State} (h : SameBut s t) (k : SameBut t u) : SameBut s u :=
  ⟨k.part.trans h.part, k.buttons.trans h.buttons, k.cues.trans h.cues, k.axes.trans h.axes, k.pairs.trans h.pairs,
    k.arbiter.trans h.arbiter, k.channels.trans h.channels, k.alerts.trans h.alerts, k.lamps.trans h.lamps,
    k.link.trans h.link, k.passDue.trans h.passDue⟩

theorem SameBut.axis {s t : State} (h : SameBut s t) (x : AxisId) : t.axis x = s.axis x := by
  unfold State.axis
  rw [h.axes]

theorem SameBut.cue {s t : State} (h : SameBut s t) (i : CueId) : t.cue i = s.cue i := by
  unfold State.cue
  rw [h.cues]

theorem SameBut.pair {s t : State} (h : SameBut s t) (x : AxisId) : t.pair x = s.pair x := by
  unfold State.pair
  rw [h.pairs]

variable (s : State)

/-- An arrival of a cause touches its line and the actions handed over (R170). -/
theorem post_sameBut (l : LineId) (c : Cause) (d : Details → Details) : SameBut s (s.post l c d) :=
  ⟨s.post_part l c d, s.post_buttons l c d, s.post_cues l c d, s.post_axes l c d, s.post_pairs l c d, s.post_arbiter l c d,
    s.post_channels l c d, s.post_alerts l c d, s.post_lamps l c d, s.post_link l c d, s.post_passDue l c d⟩

theorem putStation_sameBut (st : StationId) (r : Station) : SameBut s (s.putStation st r) :=
  ⟨rfl, rfl, rfl, rfl, rfl, rfl, rfl, rfl, rfl, rfl, rfl⟩

theorem restStation_sameBut (st : StationId) : SameBut s (s.restStation st) := by
  unfold State.restStation
  dsimp only
  split <;> exact (putStation_sameBut s _ _).trans (post_sameBut _ _ _ _)

theorem testActivity_sameBut (st : StationId) : SameBut s (s.testActivity st) := by
  unfold State.testActivity
  split
  · exact restStation_sameBut s st
  · exact SameBut.rfl

theorem reportState_sameBut (x : AxisId) (old new : AxisState) : SameBut s (s.reportState x old new) := by
  unfold State.reportState
  split
  · exact SameBut.rfl
  · dsimp only
    split <;> split <;> first
      | exact (putStation_sameBut s _ _).trans (testActivity_sameBut _ _)
      | exact testActivity_sameBut _ _
      | exact putStation_sameBut s _ _
      | exact SameBut.rfl

theorem scanTrigger_sameBut (src : ScanSource) : SameBut s (s.scanTrigger src) := by
  unfold State.scanTrigger
  split
  · split
    · exact SameBut.rfl
    · exact ⟨rfl, rfl, rfl, rfl, rfl, rfl, rfl, rfl, rfl, rfl, rfl⟩
    · split
      · exact post_sameBut _ _ _ _
      · exact SameBut.rfl
  · exact SameBut.rfl

/-- An axis that enters a state takes its context, and reports (R59). -/
theorem enter_sameBut (x : AxisId) (new : AxisState) (f : Axis → Axis) :
    SameBut (s.putAxis x ((f (s.axis x)).settled new)) (s.enter x new f) := by
  unfold State.enter
  dsimp only
  split
  · exact (reportState_sameBut _ _ _ _).trans (scanTrigger_sameBut _ _)
  · exact reportState_sameBut _ _ _ _

/-- The axis that enters a state. -/
theorem enter_axis_self (x : AxisId) (new : AxisState) (f : Axis → Axis) :
    (s.enter x new f).axis x = (f (s.axis x)).settled new := by
  rw [(enter_sameBut s x new f).axis, State.putAxis_axis_self]

/-- Every other axis stands when an axis enters a state. -/
theorem enter_axis_ne {x y : AxisId} (h : x ≠ y) (new : AxisState) (f : Axis → Axis) :
    (s.enter x new f).axis y = s.axis y := by
  rw [(enter_sameBut s x new f).axis, State.putAxis_axis_ne _ h]

@[simp] theorem enter_cue (x : AxisId) (new : AxisState) (f : Axis → Axis) (i : CueId) :
    (s.enter x new f).cue i = s.cue i := by
  rw [(enter_sameBut s x new f).cue, State.putAxis_cue]

@[simp] theorem enter_pair (x : AxisId) (new : AxisState) (f : Axis → Axis) (y : AxisId) :
    (s.enter x new f).pair y = s.pair y := by
  rw [(enter_sameBut s x new f).pair, State.putAxis_pair]

@[simp] theorem enter_arbiter (x : AxisId) (new : AxisState) (f : Axis → Axis) :
    (s.enter x new f).arbiter = s.arbiter := (enter_sameBut s x new f).arbiter

/-! ### Pins (R46, R47) -/

/-- Pinning a chain touches the cue table alone. -/
theorem pinChain_only (chain : List CueId) : s.pinChain chain = { s with cues := (s.pinChain chain).cues } := by
  unfold State.pinChain
  induction chain generalizing s with
  | nil => rfl
  | cons i c ih => rw [List.foldl_cons, ih]; rfl

/-- Unpinning a chain touches the cue table alone. -/
theorem unpinChain_only (chain : List CueId) : s.unpinChain chain = { s with cues := (s.unpinChain chain).cues } := by
  unfold State.unpinChain
  induction chain generalizing s with
  | nil => rfl
  | cons i c ih => rw [List.foldl_cons, ih]; rfl

@[simp] theorem pinChain_axis (chain : List CueId) (x : AxisId) : (s.pinChain chain).axis x = s.axis x := by
  rw [pinChain_only]
  rfl

@[simp] theorem unpinChain_axis (chain : List CueId) (x : AxisId) : (s.unpinChain chain).axis x = s.axis x := by
  rw [unpinChain_only]
  rfl

/-- Pinning a chain raises by 1 the count of each of its entries (R46). -/
theorem pinChain_pins (chain : List CueId) (hn : chain.Nodup) (j : CueId) :
    ((s.pinChain chain).cue j).pins = (s.cue j).pins + if j ∈ chain then 1 else 0 := by
  unfold State.pinChain
  induction chain generalizing s with
  | nil => simp
  | cons i c ih =>
    rw [List.foldl_cons, ih _ (List.nodup_cons.1 hn).2]
    by_cases h : i = j
    · subst h
      simp [(List.nodup_cons.1 hn).1]
    · rw [State.putCue_cue_ne _ h]
      simp [Ne.symm h]

/-! ### Disarming (R47) -/

/-- An axis that becomes DISARMED, but for its own context: the cue table's pins and its report. -/
theorem disarm_sameBut (x : AxisId) (keep : Bool) (h : (s.axis x).state ≠ .disarmed) :
    SameBut
      ((s.unpinChain (s.axis x).chain).putAxis x
        (Axis.settled
          { s.axis x with chain := [], start := none, current := if keep then (s.axis x).current else none }
          .disarmed))
      (s.disarm x keep) := by
  unfold State.disarm
  rw [if_neg h]
  have := enter_sameBut (s.unpinChain (s.axis x).chain) x .disarmed fun a =>
    { a with chain := [], start := none, current := if keep then a.current else none }
  rw [unpinChain_axis] at this
  exact this

end Sys2Proof.Machine
end

