-- ==== Sys2Proof/Laws/Link.lean ====
section
/-! SUPPORT. What the end of an event and the serving of a request come to: an event that brings no grant pass and hands no route action over
leaves its own change, and a request to an unoccupied link is served at once and its reply placed. -/

namespace Sys2Proof.Machine

variable {s t : State}

/-! ### The end of an event -/

/-- The total allocation is decided by the axes and the pair contexts (R100). -/
theorem totalAllocation_congr (ha : t.axes = s.axes) (hp : t.pairs = s.pairs) :
    t.totalAllocation = s.totalAllocation := by
  unfold State.totalAllocation State.allocation State.rehearses State.mode State.paired State.pair State.axis
  rw [ha, hp]

/-- An event that marks no pass and lowers no allocation brings none (R104). -/
theorem settled_quiet (h : t.passDue = false) (ht : ¬ t.totalAllocation < s.totalAllocation) : s.settled t = t := by
  unfold State.settled Config.passFuel settleEvent
  simp [h, ht]

/-- An event that marks a pass or lowers the total allocation takes one, and what follows its grants may bring others (R104). -/
theorem settled_due (h : t.passDue = true ∨ t.totalAllocation < s.totalAllocation) :
    s.settled t =
      settleEvent 11 ({ s.sortJoined t with passDue := false } : State).passGrants.1
        (({ s.sortJoined t with passDue := false } : State).passGrants.2.foldl (fun u e => u.afterGrant e)
          ({ s.sortJoined t with passDue := false } : State).passGrants.1) := by
  unfold State.settled Config.passFuel
  rw [settleEvent, if_pos h]

/-- What follows the grant of an unpaired axis is the look at its end stops (R67). -/
theorem afterGrant_unpaired {e : PendingEntry} (h : e.pair = false) : s.afterGrant e = s.grantTrip e.axis := by
  unfold State.afterGrant
  rw [h]
  rfl

/-- A granted axis with no stop TRIPPED ahead stays as the grant left it (R67). -/
theorem grantTrip_clear {x : AxisId} (h : (s.axis x).trippedAhead = false) : s.grantTrip x = s := by
  unfold State.grantTrip
  simp [h]

/-- A change that leaves the axes and the pair contexts as they were, and marks no pass, brings none. -/
theorem settled_of_axes (h : t.passDue = false) (ha : t.axes = s.axes) (hp : t.pairs = s.pairs) : s.settled t = t :=
  settled_quiet h (by rw [totalAllocation_congr ha hp]; omega)

/-- With nothing handed over, no route action acts. -/
theorem drain_of_nil (h : s.handed = []) : ∀ fuel, drain fuel s = s
  | 0 => rfl
  | fuel + 1 => by
    unfold drain
    rw [h]

/-! ### The link's own fields -/

/-- Serving keeps the holder, the reply slot and the transmitter. -/
theorem serve_link {f : Frame} :
    (s.serve f).1.link.holder = s.link.holder ∧ (s.serve f).1.link.slot = s.link.slot ∧
      (s.serve f).1.link.tx = s.link.tx := by
  have K : KeptRequests fun t : State =>
      t.link.holder = s.link.holder ∧ t.link.slot = s.link.slot ∧ t.link.tx = s.link.tx :=
    { axes := fun _ _ h => h, stations := fun _ _ h => h, cues := fun _ _ h => h, pairs := fun _ _ h => h,
      arbiter := fun _ _ h => h, scanner := fun _ _ h => h, display := fun _ _ h => h, passDue := fun _ _ h => h,
      handed := fun _ _ h => h, arrive := fun _ _ _ _ _ h => h, remove := fun _ _ h => h,
      update := fun _ _ _ _ _ _ h => h, append := fun _ _ _ _ h _ _ _ => h, buttons := fun _ _ h => h,
      buttonTiming := fun _ _ h => h, lamps := fun _ _ h => h, noticeLevel := fun _ _ h => h,
      channels := fun _ _ h _ => h, line := fun _ _ _ h _ => h, intervals := fun _ _ _ _ h => h,
      counts := fun _ _ _ _ h => h
      kept := fun _ _ h => h }
  exact serve_kept K ⟨rfl, rfl, rfl⟩

/-- The passes that an event brings keep the link. -/
theorem settled_link : (s.settled t).link = t.link := by
  have K : Kept fun u : State => u.link = t.link :=
    { axes := fun _ _ h => h, stations := fun _ _ h => h, cues := fun _ _ h => h, pairs := fun _ _ h => h,
      arbiter := fun _ _ h => h, scanner := fun _ _ h => h, display := fun _ _ h => h, passDue := fun _ _ h => h,
      handed := fun _ _ h => h, arrive := fun _ _ _ _ _ h => h, remove := fun _ _ h => h,
      update := fun _ _ _ _ _ _ h => h, append := fun _ _ _ _ h _ _ _ => h }
  exact settled_kept K rfl

/-! ### A request to an unoccupied link -/

/-- A reply placed in the slot of a link whose holder is empty is begun at once by a FREE transmitter, and waits otherwise. -/
theorem pump_after_reply {u : State} {f : Frame} (hh : u.link.holder = none) (hs : u.link.slot = none) :
    ({ u with link := { u.link with slot := some f } } : State).beginReply.takeHeld.chooseNotice = u.answer f := by
  unfold State.beginReply State.answer
  cases htx : u.link.tx with
  | free => simp [State.takeHeld, State.chooseNotice, hh, hs]
  | sendingReply r => simp [State.takeHeld, State.chooseNotice, htx]
  | sendingNotice r => simp [State.takeHeld, State.chooseNotice, htx]

/-- A request to an unoccupied link: it is served at once, and its reply is placed (R186 to R188). -/
theorem request_served (h : s.unoccupied) (tag kind : Byte) (body : List Byte) :
    s.request tag kind body =
      drain Config.routeFuel
        ((s.settled (s.serve { tag := tag, kind := kind, body := body }).1).answer
          (replyFrame { tag := tag, kind := kind, body := body }
            (s.serve { tag := tag, kind := kind, body := body }).2)) := by
  obtain ⟨hh, hs, hp⟩ := h
  generalize hf : ({ tag := tag, kind := kind, body := body } : Frame) = f
  unfold State.request State.runEvent
  rw [hf]
  congr 1
  have hacc : s.acceptFrame f = { s with link := { s.link with holder := some f } } := by
    unfold State.acceptFrame
    rw [hh]
  have hback : ({ s with link := { s.link with holder := none } } : State) = s := by
    rw [← hh]
  have hset : s.settled (s.acceptFrame f) = s.acceptFrame f := by
    rw [hacc]
    exact settled_of_axes hp rfl rfl
  rw [hset, hacc]
  have htake : ({ s with link := { s.link with holder := some f } } : State).takeHeld =
      { s.settled (s.serve f).1 with
        link := { (s.settled (s.serve f).1).link with slot := some (replyFrame f (s.serve f).2) } } := by
    unfold State.takeHeld
    split
    · rename_i f' _ hf'
      cases hf'
      dsimp only
      rw [hback]
    · rename_i hno
      exact absurd rfl (hno f hs)
  unfold State.pump
  rw [htake]
  have hl := settled_link (s := s) (t := (s.serve f).1)
  have h3 := serve_link (s := s) (f := f)
  apply pump_after_reply
  · rw [hl, h3.1, hh]
  · rw [hl, h3.2.1, hs]

/-- A request that passes the link's checks leaves what its own action leaves, with its reply (R187). -/
theorem request_taken (h : s.unoccupied) {tag kind : Byte} {body : List Byte}
    (hc : s.linkRefusal { tag := tag, kind := kind, body := body } = none) :
    s.request tag kind body =
      s.requestOutcome (requestAction kind body s).1 tag (replyKind kind) (requestAction kind body s).2 := by
  rw [request_served h]
  have : s.serve { tag := tag, kind := kind, body := body } = requestAction kind body s := by
    unfold State.serve
    rw [hc]
  rw [this]
  rfl

/-- In service, the link's checks turn away only a tag of 0, a bad kind and a bad length (R187). -/
theorem linkRefusal_inService (h : s.part.condition = .inService) {f : Frame} (ht : f.tag ≠ 0#8)
    (hk : requestCodes.contains f.kind.toNat = true) (hl : lengthFits f.kind f.body.length = true) :
    s.linkRefusal f = none := by
  unfold State.linkRefusal
  simp only [List.contains_eq_mem] at hk
  simp at hk
  simp [ht, hk, hl, h]

/-- A request of a right kind and length to a part that listens leaves what its own action leaves, with its reply (R187). -/
theorem request_attentive (h : s.attentive) {tag kind : Byte} {body : List Byte} (ht : tag ≠ 0#8)
    (hk : requestCodes.contains kind.toNat = true) (hl : lengthFits kind body.length = true) :
    s.request tag kind body =
      s.requestOutcome (requestAction kind body s).1 tag (replyKind kind) (requestAction kind body s).2 :=
  request_taken h.2 (linkRefusal_inService h.1 ht hk hl)

/-- A request that leaves the axes and the pair contexts as they were and hands nothing over leaves its own change, with its reply. -/
theorem requestOutcome_quiet {tag kind : Byte} {body : List Byte} (hp : t.passDue = false) (hh : t.handed = [])
    (ha : t.axes = s.axes) (hq : t.pairs = s.pairs) :
    s.requestOutcome t tag kind body = t.answer { tag := tag, kind := kind, body := body } := by
  unfold State.requestOutcome
  rw [settled_of_axes hp ha hq]
  apply drain_of_nil
  unfold State.answer
  split <;> exact hh

end Sys2Proof.Machine
end

