-- ==== Sys2Proof/Laws/Operands.lean ====
section
/-! SUPPORT. Reading back what was written: indices, and the little-endian fields of two, three and four bytes (R195). -/

namespace Sys2Proof.Machine

/-- An index byte names its index. -/
theorem finOf_eq {n : Nat} {b : Byte} {x : Fin n} (h : b.toNat = x.val) : finOf n b = some x := by
  unfold finOf
  rw [dif_pos (by rw [h]; exact x.isLt)]
  simp [h]

/-- A byte beyond the range names no index. -/
theorem finOf_none {n : Nat} {b : Byte} (h : n ≤ b.toNat) : finOf n b = none := by
  unfold finOf
  rw [dif_neg (by omega)]

theorem byteOf_toNat (n : Nat) : (byteOf n).toNat = n % 256 := by simp [byteOf]

/-- A byte that holds its number. -/
theorem byteOf_of_lt {n : Nat} (h : n < 256) : (byteOf n).toNat = n := by
  rw [byteOf_toNat, Nat.mod_eq_of_lt h]

theorem byteOf_byte (b : Byte) : byteOf b.toNat = b := by simp [byteOf]

theorem u16_bytes {n : Nat} (h : n < 65536) : u16 (byteOf n) (byteOf (n / 256)) = n := by
  simp only [u16, byteOf_toNat]
  omega

theorem u24_bytes {n : Nat} (h : n < 16777216) : u24 (byteOf n) (byteOf (n / 256)) (byteOf (n / 65536)) = n := by
  simp only [u24, byteOf_toNat]
  omega

theorem u32_bytes {n : Nat} (h : n < 4294967296) :
    u32 (byteOf n) (byteOf (n / 256)) (byteOf (n / 65536)) (byteOf (n / 16777216)) = n := by
  simp only [u32, byteOf_toNat]
  omega

/-- The number in the two bytes of a 16-bit field. -/
@[simp] theorem u16_le16 (v : BitVec 16) : u16 (byteOf v.toNat) (byteOf (v.toNat / 256)) = v.toNat :=
  u16_bytes v.isLt

/-- The signed number in the three bytes of a 24-bit field. -/
@[simp] theorem s24_le24 (v : BitVec 24) :
    s24 (byteOf v.toNat) (byteOf (v.toNat / 256)) (byteOf (v.toNat / 65536)) = v.toInt := by
  unfold s24
  rw [u24_bytes v.isLt, BitVec.ofNat_toNat, BitVec.setWidth_eq]

/-- The signed number in the four bytes of a 32-bit field. -/
theorem s32_le32 (v : BitVec 32) :
    s32 (byteOf v.toNat) (byteOf (v.toNat / 256)) (byteOf (v.toNat / 65536)) (byteOf (v.toNat / 16777216)) =
      v.toInt := by
  unfold s32
  rw [u32_bytes v.isLt, BitVec.ofNat_toNat, BitVec.setWidth_eq]

end Sys2Proof.Machine
end

