-- ==== Sys2Proof/Laws/Outputs.lean ====
section
/-! SUPPORT. What the outputs show outside the start-up test, and what READ_SENSE reports of a scanner that is available. -/

namespace Sys2Proof.Machine

variable {s : State}

theorem State.testItem_of_not_testing (h : s.part.condition ≠ .testing) : s.testItem = none := by
  simp [State.testItem, State.isTesting, h]

theorem State.stepOutput_of_not_testing (h : s.part.condition ≠ .testing) (x : AxisId) :
    s.stepOutput x = (s.axis x).stepPulses := by simp [State.stepOutput, State.testItem_of_not_testing h]

theorem State.dirOutput_of_not_testing (h : s.part.condition ≠ .testing) (x : AxisId) :
    s.dirOutput x = (s.axis x).dirLevel := by simp [State.dirOutput, State.testItem_of_not_testing h]

theorem State.testRowDrive_of_not_testing (h : s.part.condition ≠ .testing) (row : Fin 8) :
    s.testRowDrive row = false := by simp [State.testRowDrive, State.testItem_of_not_testing h]

theorem State.beaconOutput_of_not_testing (h : s.part.condition ≠ .testing) (o : BeaconPin) :
    s.beaconOutput o = (s.part.available.beacon && s.patternLit (s.beaconPattern o)) := by
  simp [State.beaconOutput, State.isTesting, h]

theorem State.lampLit_of_testing (h : s.part.condition = .testing) (cell : Cell) : s.lampLit cell = false := by
  simp [State.lampLit, State.isTesting, h]

theorem State.sensed_of_available (h : s.part.available.scanner = true) :
    s.sensedScanner = s.scanner ∧ ∀ c, s.sensedChannel c = s.channel c := by
  simp [State.sensedScanner, State.sensedChannel, h]

theorem State.sensed_of_unavailable (h : s.part.available.scanner = false) :
    s.sensedScanner = Scanner.reset ∧ ∀ c, s.sensedChannel c = Channel.reset := by
  simp [State.sensedScanner, State.sensedChannel, h]

end Sys2Proof.Machine
end

