-- ==== Sys2Proof/Laws/Requests.lean ====
section
/-! SUPPORT. What each request command comes to on a part that listens: its own checks and action (R187, check 6) on the fields of its body
(Table 12-3), and its reply. -/

namespace Sys2Proof.Machine

variable {s : State} {tag : Byte}

/-- A request whose action is known, to a part that listens. -/
theorem answered (h : s.attentive) (ht : tag ≠ 0#8) {kind : Byte} {body : List Byte} {r : State × List Byte}
    (hk : requestCodes.contains kind.toNat = true) (hl : lengthFits kind body.length = true)
    (hr : requestAction kind body s = r) :
    (Host.Outcome.next (s.request tag kind body) : Host.Outcome State Fault Refusal) =
      .next (s.requestOutcome r.1 tag (replyKind kind) r.2) := by
  rw [request_attentive h ht hk hl, hr]

theorem exec_hello (h : s.attentive) (ht : tag ≠ 0#8)  :
    exec (.hello tag) s = .next (s.requestOutcome (reqHello s).1 tag 0x81#8
      (reqHello s).2) := by
  exact answered h ht (kind := 0x01#8) (body := []) rfl (rfl) rfl

theorem exec_status (h : s.attentive) (ht : tag ≠ 0#8) (clear : Byte) :
    exec (.status tag clear) s = .next (s.requestOutcome (reqStatus clear s).1 tag 0x82#8
      (reqStatus clear s).2) := by
  exact answered h ht (kind := 0x02#8) (body := [clear]) rfl (rfl) rfl

theorem exec_restart (h : s.attentive) (ht : tag ≠ 0#8)  :
    exec (.restart tag) s = .next (s.requestOutcome (reqRestart s).1 tag 0x83#8
      (reqRestart s).2) := by
  exact answered h ht (kind := 0x03#8) (body := []) rfl (rfl) rfl

theorem exec_setEvent (h : s.attentive) (ht : tag ≠ 0#8) (line : Byte) (enable : Byte) (level : Byte) (action : Byte) (param1 : Byte) (param2 : Byte) (mask : BitVec 16) :
    exec (.setEvent tag line enable level action param1 param2 mask) s = .next (s.requestOutcome (reqSetEvent line enable level action param1 param2 mask s).1 tag 0x90#8
      (reqSetEvent line enable level action param1 param2 mask s).2) := by
  refine answered h ht (kind := 0x10#8) (body := ([line, enable, level, action, param1, param2] ++ le16 mask.toNat)) rfl (rfl) ?_
  show reqSetEvent line enable level action param1 param2 (BitVec.ofNat 16 (u16 (byteOf mask.toNat) (byteOf (mask.toNat / 256)))) s = _
  simp only [u16_le16, BitVec.ofNat_toNat, BitVec.setWidth_eq]

theorem exec_readEvents (h : s.attentive) (ht : tag ≠ 0#8)  :
    exec (.readEvents tag) s = .next (s.requestOutcome (reqReadEvents s).1 tag 0x91#8
      (reqReadEvents s).2) := by
  exact answered h ht (kind := 0x11#8) (body := []) rfl (rfl) rfl

theorem exec_clearEvents (h : s.attentive) (ht : tag ≠ 0#8) (lines : List Byte) (h1 : 1 ≤ lines.length) (h2 : lines.length ≤ 43) :
    exec (.clearEvents tag lines) s = .next (s.requestOutcome (reqClearEvents lines s).1 tag 0x92#8
      (reqClearEvents lines s).2) := by
  exact answered h ht (kind := 0x12#8) (body := lines) rfl (by simp [lengthFits]; omega) rfl

theorem exec_setNoticeLevel (h : s.attentive) (ht : tag ≠ 0#8) (level : Byte) :
    exec (.setNoticeLevel tag level) s = .next (s.requestOutcome (reqSetNoticeLevel level s).1 tag 0x93#8
      (reqSetNoticeLevel level s).2) := by
  exact answered h ht (kind := 0x13#8) (body := [level]) rfl (rfl) rfl

theorem exec_setButton (h : s.attentive) (ht : tag ≠ 0#8) (button : Byte) (polarity : Byte) (role : Byte) (station : Byte) (hold : BitVec 16) (row : Byte) (column : Byte) :
    exec (.setButton tag button polarity role station hold row column) s = .next (s.requestOutcome (reqSetButton button polarity role station hold.toNat row column s).1 tag 0xA0#8
      (reqSetButton button polarity role station hold.toNat row column s).2) := by
  refine answered h ht (kind := 0x20#8) (body := ([button, polarity, role, station] ++ le16 hold.toNat ++ [row, column])) rfl (rfl) ?_
  show reqSetButton button polarity role station (u16 (byteOf hold.toNat) (byteOf (hold.toNat / 256))) row column s = _
  simp only [u16_le16]

theorem exec_setButtonTiming (h : s.attentive) (ht : tag ≠ 0#8) (debounce : Byte) (stuck : BitVec 16) :
    exec (.setButtonTiming tag debounce stuck) s = .next (s.requestOutcome (reqSetButtonTiming debounce stuck.toNat s).1 tag 0xA1#8
      (reqSetButtonTiming debounce stuck.toNat s).2) := by
  refine answered h ht (kind := 0x21#8) (body := (debounce :: le16 stuck.toNat)) rfl (rfl) ?_
  show reqSetButtonTiming debounce (u16 (byteOf stuck.toNat) (byteOf (stuck.toNat / 256))) s = _
  simp only [u16_le16]

theorem exec_readButtons (h : s.attentive) (ht : tag ≠ 0#8)  :
    exec (.readButtons tag) s = .next (s.requestOutcome (reqReadButtons s).1 tag 0xA2#8
      (reqReadButtons s).2) := by
  exact answered h ht (kind := 0x22#8) (body := []) rfl (rfl) rfl

theorem exec_setStation (h : s.attentive) (ht : tag ≠ 0#8) (station : Byte) (rest : BitVec 16) (idle : BitVec 16) (row : Byte) (column : Byte) :
    exec (.setStation tag station rest idle row column) s = .next (s.requestOutcome (reqSetStation station rest.toNat idle.toNat row column s).1 tag 0xA8#8
      (reqSetStation station rest.toNat idle.toNat row column s).2) := by
  refine answered h ht (kind := 0x28#8) (body := ([station] ++ le16 rest.toNat ++ le16 idle.toNat ++ [row, column])) rfl (rfl) ?_
  show reqSetStation station (u16 (byteOf rest.toNat) (byteOf (rest.toNat / 256))) (u16 (byteOf idle.toNat) (byteOf (idle.toNat / 256))) row column s = _
  simp only [u16_le16]

theorem exec_stationCommandOnline (h : s.attentive) (ht : tag ≠ 0#8) (station : Byte) :
    exec (.stationCommandOnline tag station) s = .next (s.requestOutcome (reqStationOnline station s).1 tag 0xA9#8
      (reqStationOnline station s).2) := by
  exact answered h ht (kind := 0x29#8) (body := [station, 0#8]) rfl (rfl) rfl

theorem exec_stationCommandOffline (h : s.attentive) (ht : tag ≠ 0#8) (station : Byte) :
    exec (.stationCommandOffline tag station) s = .next (s.requestOutcome (reqStationOffline station s).1 tag 0xA9#8
      (reqStationOffline station s).2) := by
  exact answered h ht (kind := 0x29#8) (body := [station, 1#8]) rfl (rfl) rfl

theorem exec_stationCommandStart (h : s.attentive) (ht : tag ≠ 0#8) (station : Byte) :
    exec (.stationCommandStart tag station) s = .next (s.requestOutcome (reqStationStart station s).1 tag 0xA9#8
      (reqStationStart station s).2) := by
  exact answered h ht (kind := 0x29#8) (body := [station, 2#8]) rfl (rfl) rfl

theorem exec_stationCommandStop (h : s.attentive) (ht : tag ≠ 0#8) (station : Byte) :
    exec (.stationCommandStop tag station) s = .next (s.requestOutcome (reqStationStop station s).1 tag 0xA9#8
      (reqStationStop station s).2) := by
  exact answered h ht (kind := 0x29#8) (body := [station, 3#8]) rfl (rfl) rfl

theorem exec_stationCommandUnlock (h : s.attentive) (ht : tag ≠ 0#8) (station : Byte) :
    exec (.stationCommandUnlock tag station) s = .next (s.requestOutcome (reqStationUnlock station s).1 tag 0xA9#8
      (reqStationUnlock station s).2) := by
  exact answered h ht (kind := 0x29#8) (body := [station, 4#8]) rfl (rfl) rfl

theorem exec_readStation (h : s.attentive) (ht : tag ≠ 0#8) (station : Byte) (clear : Byte) :
    exec (.readStation tag station clear) s = .next (s.requestOutcome (reqReadStation station clear s).1 tag 0xAA#8
      (reqReadStation station clear s).2) := by
  exact answered h ht (kind := 0x2A#8) (body := [station, clear]) rfl (rfl) rfl

theorem exec_writeCue (h : s.attentive) (ht : tag ≠ 0#8) (index : Byte) (kind : Byte) (nextIndex : Byte) (fields : List Byte) (h1 : lengthFits 0x30#8 (fields.length + 3) = true) :
    exec (.writeCue tag index kind nextIndex fields) s = .next (s.requestOutcome (reqWriteCue index kind nextIndex fields s).1 tag 0xB0#8
      (reqWriteCue index kind nextIndex fields s).2) := by
  exact answered h ht (kind := 0x30#8) (body := (index :: kind :: nextIndex :: fields)) rfl (h1) rfl

theorem exec_readCue (h : s.attentive) (ht : tag ≠ 0#8) (first : Byte) (count : Byte) :
    exec (.readCue tag first count) s = .next (s.requestOutcome (reqReadCue first count s).1 tag 0xB1#8
      (reqReadCue first count s).2) := by
  exact answered h ht (kind := 0x31#8) (body := [first, count]) rfl (rfl) rfl

theorem exec_validateChain (h : s.attentive) (ht : tag ≠ 0#8) (start : Byte) :
    exec (.validateChain tag start) s = .next (s.requestOutcome (reqValidateChain start s).1 tag 0xB2#8
      (reqValidateChain start s).2) := by
  exact answered h ht (kind := 0x32#8) (body := [start]) rfl (rfl) rfl

theorem exec_eraseCue (h : s.attentive) (ht : tag ≠ 0#8) (first : Byte) (count : Byte) :
    exec (.eraseCue tag first count) s = .next (s.requestOutcome (reqEraseCue first count s).1 tag 0xB3#8
      (reqEraseCue first count s).2) := by
  exact answered h ht (kind := 0x33#8) (body := [first, count]) rfl (rfl) rfl

theorem exec_setAxis (h : s.attentive) (ht : tag ≠ 0#8) (axis : Byte) (station : Byte) (mode : Byte) (flags : Byte) (runDraw : Byte) (holdDraw : Byte) (softLow : BitVec 24) (softHigh : BitVec 24) (guard : Byte) (jamThreshold : BitVec 16) (jamPersistence : Byte) :
    exec (.setAxis tag axis station mode flags runDraw holdDraw softLow softHigh guard jamThreshold jamPersistence) s = .next (s.requestOutcome (reqSetAxis axis station mode flags runDraw holdDraw softLow.toInt softHigh.toInt guard jamThreshold.toNat jamPersistence s).1 tag 0xC0#8
      (reqSetAxis axis station mode flags runDraw holdDraw softLow.toInt softHigh.toInt guard jamThreshold.toNat jamPersistence s).2) := by
  refine answered h ht (kind := 0x40#8) (body := ([axis, station, mode, flags, runDraw, holdDraw] ++ le24 softLow.toNat ++ le24 softHigh.toNat ++ [guard] ++ le16 jamThreshold.toNat ++ [jamPersistence])) rfl (rfl) ?_
  show reqSetAxis axis station mode flags runDraw holdDraw (s24 (byteOf softLow.toNat) (byteOf (softLow.toNat / 256)) (byteOf (softLow.toNat / 65536))) (s24 (byteOf softHigh.toNat) (byteOf (softHigh.toNat / 256)) (byteOf (softHigh.toNat / 65536))) guard (u16 (byteOf jamThreshold.toNat) (byteOf (jamThreshold.toNat / 256))) jamPersistence s = _
  simp only [u16_le16, s24_le24]

theorem exec_armAxis (h : s.attentive) (ht : tag ≠ 0#8) (axis : Byte) (start : Byte) (followerStart : Byte) :
    exec (.armAxis tag axis start followerStart) s = .next (s.requestOutcome (reqArmAxis axis start followerStart s).1 tag 0xC1#8
      (reqArmAxis axis start followerStart s).2) := by
  exact answered h ht (kind := 0x41#8) (body := [axis, start, followerStart]) rfl (rfl) rfl

theorem exec_disarmAxis (h : s.attentive) (ht : tag ≠ 0#8) (axis : Byte) :
    exec (.disarmAxis tag axis) s = .next (s.requestOutcome (reqDisarmAxis axis s).1 tag 0xC2#8
      (reqDisarmAxis axis s).2) := by
  exact answered h ht (kind := 0x42#8) (body := [axis]) rfl (rfl) rfl

theorem exec_triggerAxis (h : s.attentive) (ht : tag ≠ 0#8) (axis : Byte) :
    exec (.triggerAxis tag axis) s = .next (s.requestOutcome (reqTriggerAxis axis s).1 tag 0xC3#8
      (reqTriggerAxis axis s).2) := by
  exact answered h ht (kind := 0x43#8) (body := [axis]) rfl (rfl) rfl

theorem exec_demandAxis (h : s.attentive) (ht : tag ≠ 0#8) (axis : Byte) (flag : Byte) :
    exec (.demandAxis tag axis flag) s = .next (s.requestOutcome (reqDemandAxis axis flag s).1 tag 0xC4#8
      (reqDemandAxis axis flag s).2) := by
  exact answered h ht (kind := 0x44#8) (body := [axis, flag]) rfl (rfl) rfl

theorem exec_stopAxis (h : s.attentive) (ht : tag ≠ 0#8) (axis : Byte) :
    exec (.stopAxis tag axis) s = .next (s.requestOutcome (reqStopAxis axis s).1 tag 0xC5#8
      (reqStopAxis axis s).2) := by
  exact answered h ht (kind := 0x45#8) (body := [axis]) rfl (rfl) rfl

theorem exec_haltAxis (h : s.attentive) (ht : tag ≠ 0#8) (axis : Byte) :
    exec (.haltAxis tag axis) s = .next (s.requestOutcome (reqHaltAxis axis s).1 tag 0xC6#8
      (reqHaltAxis axis s).2) := by
  exact answered h ht (kind := 0x46#8) (body := [axis]) rfl (rfl) rfl

theorem exec_setPosition (h : s.attentive) (ht : tag ≠ 0#8) (axis : Byte) (position : BitVec 24) :
    exec (.setPosition tag axis position) s = .next (s.requestOutcome (reqSetPosition axis position.toInt s).1 tag 0xC7#8
      (reqSetPosition axis position.toInt s).2) := by
  refine answered h ht (kind := 0x47#8) (body := (axis :: le24 position.toNat)) rfl (rfl) ?_
  show reqSetPosition axis (s24 (byteOf position.toNat) (byteOf (position.toNat / 256)) (byteOf (position.toNat / 65536))) s = _
  simp only [s24_le24]

theorem exec_readAxis (h : s.attentive) (ht : tag ≠ 0#8) (axis : Byte) :
    exec (.readAxis tag axis) s = .next (s.requestOutcome (reqReadAxis axis s).1 tag 0xC8#8
      (reqReadAxis axis s).2) := by
  exact answered h ht (kind := 0x48#8) (body := [axis]) rfl (rfl) rfl

theorem exec_setBudget (h : s.attentive) (ht : tag ≠ 0#8) (budget : Byte) (policy : Byte) (wait : BitVec 16) :
    exec (.setBudget tag budget policy wait) s = .next (s.requestOutcome (reqSetBudget budget policy wait.toNat s).1 tag 0xD0#8
      (reqSetBudget budget policy wait.toNat s).2) := by
  refine answered h ht (kind := 0x50#8) (body := ([budget, policy] ++ le16 wait.toNat)) rfl (rfl) ?_
  show reqSetBudget budget policy (u16 (byteOf wait.toNat) (byteOf (wait.toNat / 256))) s = _
  simp only [u16_le16]

theorem exec_readBudget (h : s.attentive) (ht : tag ≠ 0#8)  :
    exec (.readBudget tag) s = .next (s.requestOutcome (reqReadBudget s).1 tag 0xD1#8
      (reqReadBudget s).2) := by
  exact answered h ht (kind := 0x51#8) (body := []) rfl (rfl) rfl

theorem exec_setScan (h : s.attentive) (ht : tag ≠ 0#8) (startChannel : Byte) (endChannel : Byte) (mode : Byte) (source : Byte) (period : BitVec 16) (sampleTime : Byte) :
    exec (.setScan tag startChannel endChannel mode source period sampleTime) s = .next (s.requestOutcome (reqSetScan startChannel endChannel mode source period.toNat sampleTime s).1 tag 0xE0#8
      (reqSetScan startChannel endChannel mode source period.toNat sampleTime s).2) := by
  refine answered h ht (kind := 0x60#8) (body := ([startChannel, endChannel, mode, source] ++ le16 period.toNat ++ [sampleTime])) rfl (rfl) ?_
  show reqSetScan startChannel endChannel mode source (u16 (byteOf period.toNat) (byteOf (period.toNat / 256))) sampleTime s = _
  simp only [u16_le16]

theorem exec_scanEnable (h : s.attentive) (ht : tag ≠ 0#8)  :
    exec (.scanEnable tag) s = .next (s.requestOutcome (reqScanEnable s).1 tag 0xE1#8
      (reqScanEnable s).2) := by
  exact answered h ht (kind := 0x61#8) (body := [1#8]) rfl (rfl) rfl

theorem exec_scanDisable (h : s.attentive) (ht : tag ≠ 0#8)  :
    exec (.scanDisable tag) s = .next (s.requestOutcome (reqScanDisable s).1 tag 0xE1#8
      (reqScanDisable s).2) := by
  exact answered h ht (kind := 0x61#8) (body := [0#8]) rfl (rfl) rfl

theorem exec_scanTrigger (h : s.attentive) (ht : tag ≠ 0#8)  :
    exec (.scanTrigger tag) s = .next (s.requestOutcome (reqScanTrigger s).1 tag 0xE2#8
      (reqScanTrigger s).2) := by
  exact answered h ht (kind := 0x62#8) (body := []) rfl (rfl) rfl

theorem exec_setChannel (h : s.attentive) (ht : tag ≠ 0#8) (channel : Byte) (shift : Byte) (windowLow : BitVec 16) (windowHigh : BitVec 16) (persistence : Byte) :
    exec (.setChannel tag channel shift windowLow windowHigh persistence) s = .next (s.requestOutcome (reqSetChannel channel shift windowLow.toNat windowHigh.toNat persistence s).1 tag 0xE3#8
      (reqSetChannel channel shift windowLow.toNat windowHigh.toNat persistence s).2) := by
  refine answered h ht (kind := 0x63#8) (body := ([channel, shift] ++ le16 windowLow.toNat ++ le16 windowHigh.toNat ++ [persistence])) rfl (rfl) ?_
  show reqSetChannel channel shift (u16 (byteOf windowLow.toNat) (byteOf (windowLow.toNat / 256))) (u16 (byteOf windowHigh.toNat) (byteOf (windowHigh.toNat / 256))) persistence s = _
  simp only [u16_le16]

theorem exec_readSense (h : s.attentive) (ht : tag ≠ 0#8) (channels : List Byte) (h1 : 1 ≤ channels.length) (h2 : channels.length ≤ 8) :
    exec (.readSense tag channels) s = .next (s.requestOutcome (reqReadSense channels s).1 tag 0xE4#8
      (reqReadSense channels s).2) := by
  exact answered h ht (kind := 0x64#8) (body := channels) rfl (by simp [lengthFits]; omega) rfl

theorem exec_readAlerts (h : s.attentive) (ht : tag ≠ 0#8) (first : Byte) (count : Byte) :
    exec (.readAlerts tag first count) s = .next (s.requestOutcome (reqReadAlerts first count s).1 tag 0xF0#8
      (reqReadAlerts first count s).2) := by
  exact answered h ht (kind := 0x70#8) (body := [first, count]) rfl (rfl) rfl

theorem exec_ackAlert (h : s.attentive) (ht : tag ≠ 0#8) (id : BitVec 16) :
    exec (.ackAlert tag id) s = .next (s.requestOutcome (reqAckAlert id.toNat s).1 tag 0xF1#8
      (reqAckAlert id.toNat s).2) := by
  refine answered h ht (kind := 0x71#8) (body := (le16 id.toNat)) rfl (rfl) ?_
  show reqAckAlert (u16 (byteOf id.toNat) (byteOf (id.toNat / 256))) s = _
  simp only [u16_le16]

theorem exec_clearAlert (h : s.attentive) (ht : tag ≠ 0#8) (id : BitVec 16) :
    exec (.clearAlert tag id) s = .next (s.requestOutcome (reqClearAlert id.toNat s).1 tag 0xF2#8
      (reqClearAlert id.toNat s).2) := by
  refine answered h ht (kind := 0x72#8) (body := (le16 id.toNat)) rfl (rfl) ?_
  show reqClearAlert (u16 (byteOf id.toNat) (byteOf (id.toNat / 256))) s = _
  simp only [u16_le16]

theorem exec_raiseAlert (h : s.attentive) (ht : tag ≠ 0#8) (severity : Byte) (station : Byte) (code : Byte) :
    exec (.raiseAlert tag severity station code) s = .next (s.requestOutcome (reqRaiseAlert severity station code s).1 tag 0xF3#8
      (reqRaiseAlert severity station code s).2) := by
  exact answered h ht (kind := 0x73#8) (body := [severity, station, code]) rfl (rfl) rfl

theorem exec_setEscalation (h : s.attentive) (ht : tag ≠ 0#8) (note : BitVec 16) (call : BitVec 16) (lockout : BitVec 16) :
    exec (.setEscalation tag note call lockout) s = .next (s.requestOutcome (reqSetEscalation note.toNat call.toNat lockout.toNat s).1 tag 0xF4#8
      (reqSetEscalation note.toNat call.toNat lockout.toNat s).2) := by
  refine answered h ht (kind := 0x74#8) (body := (le16 note.toNat ++ le16 call.toNat ++ le16 lockout.toNat)) rfl (rfl) ?_
  show reqSetEscalation (u16 (byteOf note.toNat) (byteOf (note.toNat / 256))) (u16 (byteOf call.toNat) (byteOf (call.toNat / 256))) (u16 (byteOf lockout.toNat) (byteOf (lockout.toNat / 256))) s = _
  simp only [u16_le16]

theorem exec_writeLamps (h : s.attentive) (ht : tag ≠ 0#8) (scene : Byte) (startColumn : Byte) (columns : List Byte) (h1 : 1 ≤ columns.length) (h2 : columns.length ≤ 32) :
    exec (.writeLamps tag scene startColumn columns) s = .next (s.requestOutcome (reqWriteLamps scene startColumn columns s).1 tag 0xF8#8
      (reqWriteLamps scene startColumn columns s).2) := by
  exact answered h ht (kind := 0x78#8) (body := (scene :: startColumn :: columns)) rfl (by simp [lengthFits]; omega) rfl

theorem exec_readLamps (h : s.attentive) (ht : tag ≠ 0#8) (source : Byte) (startColumn : Byte) (count : Byte) :
    exec (.readLamps tag source startColumn count) s = .next (s.requestOutcome (reqReadLamps source startColumn count s).1 tag 0xF9#8
      (reqReadLamps source startColumn count s).2) := by
  exact answered h ht (kind := 0x79#8) (body := [source, startColumn, count]) rfl (rfl) rfl

theorem exec_showScene (h : s.attentive) (ht : tag ≠ 0#8) (scene : Byte) :
    exec (.showScene tag scene) s = .next (s.requestOutcome (reqShowScene scene s).1 tag 0xFA#8
      (reqShowScene scene s).2) := by
  exact answered h ht (kind := 0x7A#8) (body := [scene]) rfl (rfl) rfl

theorem exec_setMirror (h : s.attentive) (ht : tag ≠ 0#8) (flag : Byte) :
    exec (.setMirror tag flag) s = .next (s.requestOutcome (reqSetMirror flag s).1 tag 0xFB#8
      (reqSetMirror flag s).2) := by
  exact answered h ht (kind := 0x7B#8) (body := [flag]) rfl (rfl) rfl

end Sys2Proof.Machine
end

