-- ==== Sys2Proof/Tests/Slice0.lean ====
section
/-! SUPPORT. Tests: ill-formed commands that WellFormed refuses, expected values taken from the spec's worked sequences, and
for every obligation with hypotheses a concrete state and operands that meet them. -/

namespace Sys2Proof.Tests

open Sys2Proof Sys2Proof.Machine

/-! ## Well-formedness -/

theorem test_goodKindIsNoBadKind : (Instr.badKindRequest 1 0x7B []).wellFormed = false := by decide
theorem test_badKindIsWellFormed : (Instr.badKindRequest 1 0x7C []).wellFormed = true := by decide
theorem test_badKindBodyTooLong : (Instr.badKindRequest 1 0 (List.replicate 249 0)).wellFormed = false := by simp [Instr.wellFormed, maxBody, requestCodes, -List.reduceReplicate]
theorem test_clearEventsTooLong : (Instr.clearEvents 1 (List.replicate 249 0)).wellFormed = false := by simp [Instr.wellFormed, maxBody, -List.reduceReplicate]
theorem test_writeCueTooLong : (Instr.writeCue 1 0 0 0 (List.replicate 246 0)).wellFormed = false := by simp [Instr.wellFormed, maxBody, -List.reduceReplicate]
theorem test_readSenseTooLong : (Instr.readSense 1 (List.replicate 249 0)).wellFormed = false := by simp [Instr.wellFormed, maxBody, -List.reduceReplicate]
theorem test_writeLampsTooLong : (Instr.writeLamps 1 0 0 (List.replicate 247 0)).wellFormed = false := by simp [Instr.wellFormed, maxBody, -List.reduceReplicate]
theorem test_longestLampsWellFormed : (Instr.writeLamps 1 0 0 (List.replicate 246 0)).wellFormed = true := by simp [Instr.wellFormed, maxBody, -List.reduceReplicate]

/-! ## Small states -/

/-- The part in service with every block available. -/
def base : State :=
  { State.reset with part := { State.reset.part with condition := .inService, available := ⟨true, true, true, true⟩ } }

theorem base_listening : base.listening := ⟨⟨rfl, rfl, rfl, rfl⟩, rfl⟩

/-- What a command leaves. -/
def after (c : Instr) (s : State) : State :=
  match exec c s with
  | .next t => t
  | _ => s

/-- The body of the reply that the transmitter sends. -/
def replied (s : State) : Option (List Byte) :=
  match s.link.tx with
  | .sendingReply f => some f.body
  | _ => none

/-- The profile of R88's table. -/
def ramp : Profile := { f := 500, v := 2000, a := 250 }

/-- Entry 0 is a MOVE of 30 steps with that profile; entry 1 an EMPTY one. -/
def cued : State := base.putCue 0 { body := .move 30 ramp none, next := .chainStop, pins := 0 }

/-- An axis of station 0 in BLOCK mode on entry 0, at the start of its 30 steps. -/
def onMove (st : AxisState) : Axis :=
  { Axis.reset with
    cfg := { AxisConfig.reset with station := some 0 }
    state := st, chain := [0], start := some 0, current := some (.entry 0), segN := 30, remN := 30, rate := 500 }

/-- Axis 0 in a state on entry 0. -/
def axisIn (st : AxisState) : State := cued.putAxis 0 (onMove st)

/-- Station 0 in a state. -/
def stationIn (st : StationState) (s : State) : State := s.putStation 0 { s.station 0 with state := st }

/-- Button 0 settled OPEN, with a role for station 0. -/
def buttonIn (st : ButtonState) (role : Role) : State :=
  base.putButton 0 { base.button 0 with level := some .opened, state := st, role := role, station := some 0 }

/-- A note of the host, of code 7 for station 3. -/
def note (id : Nat) : Alert :=
  { id := id, kind := .host, severity := .note, station := some 3, source := 7, acked := false, condition := none, level := 0,
    timeInLevel := 0, repeats := 1, raiseTime := 0#32 }

/-- One record, id 1. -/
def noted (r : Alert) : State := { base with alerts := { base.alerts with records := [r], nextId := 2 } }

/-- Sixteen host notes for station 3, ids 1 to 16 and codes 11 to 26, acknowledged or not. -/
def full (acked : Bool) : State :=
  { base with
    alerts :=
      { base.alerts with
        records := (List.range 16).map fun k => { note (k + 1) with source := 11 + k, acked := acked }
        nextId := 17 } }

/-- A scanner setup. -/
def scanIn (st : ScanState) (src : ScanSource) : State :=
  { base with scanner := { base.scanner with state := st, source := src } }

/-! ## The spec's worked sequences -/

/-- 5.4.1, ticks 1 and 14. -/
theorem test_rampTick1 : ((after (.rampTick 0) (axisIn .running)).axis 0).rate = 750 := by decide
theorem test_rampTick14 :
    let a := ({ onMove .running with rate := 2000, acc := 250, remN := 8, phase := .cruise } : Axis).rampStep ramp false
    (a.rate, a.acc, a.remN, a.phase) = (1750, 0, 6, .decel) := by decide

/-- 5.4.1, tick 21: the chain ends, and station 0's show with it. -/
theorem test_rampTick21 :
    let s := stationIn .showing ((axisIn .running).putAxis 0
      { onMove .running with rate := 500, acc := 500, remN := 1, phase := .decel })
    let t := after (.rampTick 0) s
    ((t.axis 0).state, (t.station 0).state, (t.station 0).restRemaining, (t.line 16).causes) =
      (.disarmed, .resting, 5000, 2#16) := by decide

/-- 3.7.1: the valid chain, then its cycle. -/
theorem test_validateChain :
    let p : Profile := { f := 200, v := 1500, a := 20 }
    let c := fun (s : State) (i : CueId) (b : CueBody) (n : CueRef) => s.putCue i { body := b, next := n, pins := 0 }
    let s := c (c (c (c base 10 (.move 4000 p none) (.entry 11)) 11 (.dwell 2500) (.entry 12)) 12 (.scene 2) (.entry 40)) 40
      (.move (-4000) p none) (.entry 41)
    replied (after (.validateChain 1 10) (c s 41 (.mark 7) .chainStop)) = some [0, 5, 2, 64, 31, 0, 0, 196, 9, 0, 0] ∧
      replied (after (.validateChain 1 10) (c s 41 (.mark 7) (.entry 11))) = some [10, 2, 11] := by decide

/-- 4.12.1, step 1: a MOVE_TO is refused while the position is not valid. -/
theorem test_armNotHomed :
    let s := (stationIn .ready (base.putCue 31 { body := .moveTo 15000 ramp, next := .chainStop, pins := 0 })).putAxis 1
      { Axis.reset with cfg := { AxisConfig.reset with station := some 0 } }
    replied (after (.armAxis 1 1 31 255) s) = some [11] := by decide

/-- 7.6.2, stores 1 and 9. -/
theorem test_stores :
    let r : Channel := { Channel.reset with shift := 2, windowLow := 200, windowHigh := 800, persistence := 3 }
    ((r.filter 500).filtered, ((r.filter 500).windowStep).2) = (500, some .inside) ∧
      (let q := { r with filtered := 865, seeded := true, window := some .inside, candidate := some .high, candidateCount := 2 }
       ((q.filter 1000).filtered, ((q.filter 1000).windowStep).2)) = (898, some .high) := by decide

/-- 8.9.2, steps 1 and 5: an acknowledged NOTE is evicted, and a full table loses a raise. -/
theorem test_raiseIntoFullTable :
    replied (after (.raiseAlert 1 1 2 40) (full true)) = some [0, 0, 17, 0] ∧
      replied (after (.raiseAlert 1 0 255 7) (full false)) = some [0, 2, 0, 0] := by decide

/-- 8.9.1, at 300 s: the release of a stuck button removes its answered record, so the next stick makes a new one (R148, against R7's words; log
entry 27). A record that is not answered stays, and the next stick merges into it (R7, R140). -/
theorem test_stickAgain :
    let stuck := fun acked : Bool =>
      { buttonIn .stuck .roleNone with
        alerts := (noted { note 1 with kind := .stuckButton, severity := .call, source := 0, station := some 0,
                                       condition := some true, acked := acked }).alerts }
    let again := fun acked : Bool => (((stuck acked).buttonRelease 0).enterStuck 0).alerts.records.map fun r => (r.id, r.repeats)
    (((stuck true).buttonRelease 0).alerts.records, again true, again false) = ([], [(2, 1)], [(1, 2)]) := by decide

/-- 9.6.2: five bytes at column 29. -/
theorem test_writeLampsClips :
    let s := after (.writeLamps 1 2 29 [1, 2, 4, 8, 16]) base
    (replied s, s.column 2 29, s.column 2 30, s.column 2 31) = (some [0, 5, 1], 1#8, 2#8, 16#8) := by decide

/-- 12.5: the worked frame's last byte makes the request, here for an id that is not stored. -/
theorem test_workedFrame :
    (after (.byteReceived 0x55 true) { base with link := { base.link with receiver := some [4, 9, 0x71, 0x2C, 1] } }).link.tx =
      .sendingReply { tag := 9, kind := 0xF1, body := [6] } := by decide

/-- 12.5: the bytes of the worked reply, SYNC first. -/
theorem test_workedReply : Frame.bytes { tag := 9, kind := 0xF1, body := [0] } = [0xA5, 3, 9, 241, 0, 3] := by decide

/-- 11.6.1, step 3: a frame that finds the holder full is lost. -/
theorem test_overrun :
    let f : Frame := { tag := 5, kind := 0xF0, body := [0] }
    let s := { base with link := { base.link with tx := .sendingNotice f, slot := some f, holder := some f } }
    ((after (.status 7 0) s).link.overrunCount, (after (.status 7 0) s).link.holder) = (1, some f) := by decide

/-- R187, check 4: a request during the start-up test. -/
theorem test_starting : replied (after (.readAxis 3 0) State.reset) = some [14] := by decide

/-! ## Witnesses: the hypotheses of each obligation can be met -/

theorem witness_StepRunsFrontCommand : ({ base with pending := [.gapExpiry] } : State).pending = Instr.gapExpiry :: [] := rfl

theorem witness_EmptyQueueIsOneMillisecond : base.pending = [] := rfl

/-- A calm part whose timers all stand one millisecond before their limit. -/
def quiet : State :=
  { base with
    buttons := Vector.replicate 16 { Button.reset with level := some .opened }
    stations := base.stations.set 0 { base.station 0 with state := .resting, restRemaining := 2, idleLimit := 1, idleTime := 998 }
    axes := base.axes.set 0 { onMove .dwelling with dwell := 2 }
    scanner := { base.scanner with state := .idle, source := .period, periodRemaining := some 2 }
    alerts := { base.alerts with records := [{ note 1 with timeInLevel := 299998 }] }
    link := { base.link with receiver := some [], gapTime := 19 } }

theorem witness_EmptyQueueIsOneMillisecond_calm : quiet.pending = [] ∧ quiet.calm :=
  ⟨rfl, rfl, ⟨rfl, rfl, rfl⟩, rfl, by decide, by decide, by decide, by decide, fun n h => by cases h; decide,
    fun b => ⟨.opened, by revert b; decide⟩,
    fun x => ⟨by revert x; decide, by revert x; decide, fun side => by cases side <;> (revert x; decide)⟩,
    by decide, by decide, by decide⟩

theorem witness_ExecKeepsTheQueue : ∃ t, exec (.hello 1) base = .next t := ⟨_, rfl⟩

/-- Line 8 holds a PRESS. -/
def pressed : State := base.post 8 .press

theorem witness_StepKeepsLineForm : pressed.linesFormed ∧ ∃ t, step pressed = .next t :=
  ⟨by unfold State.linesFormed Line.formed; decide, _, rfl⟩

theorem witness_StepKeepsChannelBounds :
    (base.putChannel 7 { Channel.reset with raw := 1023, filtered := 1023 }).channelsInBounds ∧
      ∃ t, step (base.putChannel 7 { Channel.reset with raw := 1023, filtered := 1023 }) = .next t :=
  ⟨by unfold State.channelsInBounds Channel.inBounds; decide, _, rfl⟩

theorem witness_StepKeepsAlertTableForm : (noted (note 1)).alerts.formed ∧ ∃ t, step (noted (note 1)) = .next t :=
  ⟨by unfold AlertTable.formed; decide, _, rfl⟩

/-- Axis 0 of station 0 armed on entry 0, with a guard channel in the scan range, and the budget at its hold draw. -/
def armedAlone : State :=
  let c := { AxisConfig.reset with station := some 0, guard := some 7, softLow := 0, softHigh := 30 }
  let s := (cued.putAxis 0 { Axis.reset with cfg := c }).armMember 0 0 [0]
  { s with
    scanner := { s.scanner with state := .idle, startCh := 7, endCh := 7 }
    arbiter := { s.arbiter with budget := 1 } }

theorem armedAlone_coherent : armedAlone.coherent := by
  have h0 : ∀ x, (armedAlone.axis x).state ≠ .disarmed → x = 0 := by decide
  refine ⟨by unfold State.pinsCounted; decide, fun x h => ?_, by unfold State.pairsFormed; dsimp only; decide,
    by unfold State.pendingListed; decide, by unfold State.guardsCovered; decide,
    by unfold State.withinLimits; dsimp only; decide⟩
  obtain rfl := h0 x h
  exact ⟨0, by decide, rfl, .inr ⟨0, by decide, by decide⟩⟩

theorem witness_StepKeepsPinCounts : armedAlone.pinsCounted ∧ ∃ t, step armedAlone = .next t :=
  ⟨armedAlone_coherent.1, _, rfl⟩

theorem witness_StepKeepsPairsAndChains : armedAlone.coherent ∧ ∃ t, step armedAlone = .next t :=
  ⟨armedAlone_coherent, _, rfl⟩

/-- Axis 0 asks for its grant. -/
def asking : State := armedAlone.trigger 0

theorem asking_coherent : asking.coherent := by
  have h0 : ∀ x, (asking.axis x).state ≠ .disarmed → x = 0 := by decide
  refine ⟨by unfold State.pinsCounted; decide, fun x h => ?_, by unfold State.pairsFormed; dsimp only; decide,
    by unfold State.pendingListed; decide, by unfold State.guardsCovered; decide,
    by unfold State.withinLimits; dsimp only; decide⟩
  obtain rfl := h0 x h
  exact ⟨0, by decide, rfl, .inr ⟨0, by decide, by decide⟩⟩

theorem witness_StepKeepsPendingList : asking.coherent ∧ ∃ t, step asking = .next t := ⟨asking_coherent, _, rfl⟩

theorem witness_StepKeepsGuards : asking.coherent ∧ ∃ t, step asking = .next t := ⟨asking_coherent, _, rfl⟩

theorem witness_StepKeepsSoftLimits : asking.coherent ∧ ∃ t, step asking = .next t := ⟨asking_coherent, _, rfl⟩

theorem witness_StepKeepsBudget :
    asking.coherent ∧ asking.withinBudget ∧ ∃ t, step asking = .next t :=
  ⟨asking_coherent, by unfold State.withinBudget; decide, _, rfl⟩

theorem witness_WarmRestartKeepsCuesScenesUptime :
    ({ base with link := { base.link with tx := .sendingReply { tag := 7, kind := 0x83, body := [0] } } } : State).link.tx =
        .sendingReply { tag := 7, kind := 0x83, body := [0] } ∧
      ∀ tag : Byte, base.link.tx ≠ .sendingReply { tag := tag, kind := 0x83, body := [0] } :=
  ⟨rfl, fun _ h => nomatch h⟩

/-- The test with some items done. -/
def testing (progress : Byte) : State := { base with part := { State.reset.part with progress := progress } }

theorem witness_TestItemAndTestEnd :
    base.part.condition ≠ .testing ∧
      ((testing 0).part.condition = .testing ∧ (testing 0).part.remaining = 0 :: [1, 2, 3, 4, 5, 6, 7]) ∧
      ((testing 0x7F).part.condition = .testing ∧ (testing 0x7F).part.remaining = 7 :: []) ∧
      (testing 0xFF).part.condition = .testing ∧ (testing 0xFF).part.remaining = [] := by decide

theorem witness_ImpossibleEventsChangeNothing :
    State.reset.part.condition ≠ .inService ∧ ((buttonIn .released .roleNone).button 0).level ≠ none ∧
      ((buttonIn .held .roleNone).button 0).state ≠ .released ∧
      ((buttonIn .held .roleNone).button 0).state ≠ .pressed ∧
      ((buttonIn .stuck .roleNone).button 0).state ≠ .pressed ∧ ((buttonIn .stuck .roleNone).button 0).state ≠ .held ∧
      ((buttonIn .released .roleNone).button 0).state = .released ∧
      (base.station 7).state ≠ .resting ∧ (base.station 7).idleLimit = 0 ∧ State.reset.part.condition = .testing ∧
      (base.axis 7).state ≠ .dwelling ∧ (base.axis 7).state ≠ .running ∧ (base.axis 7).state ≠ .stopping ∧
      (∀ e ∈ base.arbiter.waiting, e.axis ≠ 7) ∧ base.scanner.state = .off ∧
      (scanIn .idle .software).scanner.state = .idle ∧ (scanIn .idle .software).scanner.source ≠ .period ∧
      base.link.receiver = none ∧ base.link.tx = .free := by decide

/-- Line 0 and line 42 hold a cause, both enabled, at levels 3 and 7. -/
def candidates : State :=
  (base.putLine 0 { Line.reset with flag := true, causes := 1, enable := true, level := 3 }).putLine 42
    { Line.reset with flag := true, causes := 2, enable := true, level := 7 }

theorem witness_EventEndsWithTheBestNotice :
    (candidates.passDue = false ∧ ¬ candidates.totalAllocation < base.totalAllocation ∧ candidates.handed = [] ∧
        candidates.link.holder = none ∧ candidates.link.slot = none ∧ candidates.link.tx = .free ∧
        candidates.chosenLine = some 42) ∧
      (base.passDue = false ∧ ¬ base.totalAllocation < base.totalAllocation ∧ base.handed = [] ∧
        base.link.holder = none ∧ base.link.slot = none ∧ base.link.tx = .free ∧ base.chosenLine = none) ∧
      ({ base with link := { base.link with tx := .sendingNotice ⟨0, 0xFE, []⟩ } } : State).link.tx ≠ .free := by decide

theorem witness_ArrivalIsTakenWhole : State.reset.part.condition ≠ .inService ∧ base.part.condition = .inService := by decide

theorem witness_ArrivalIsTakenWhole_routes :
    ({ base with handed := [(0, .scan)] } : State).handed = (0, .scan) :: [] ∧
      ((stationIn .ready (axisIn .armed)).station 0).state = .ready ∧
      allAxes.filter ((stationIn .ready (axisIn .armed)).startSelects 0) ≠ [] ∧ (base.station 0).state ≠ .ready ∧
      (noted { note 1 with kind := .routed, source := 42 }).alerts.records.find?
        (fun q => decide (q.kind = .routed ∧ q.source = (42 : LineId).val ∧ q.station = some 3)) =
        some { note 1 with kind := .routed, source := 42 } ∧
      (∀ r ∈ base.alerts.records, ¬ (r.kind = .routed)) ∧ base.alerts.records.length < 16 ∧
      (∀ acked, 16 ≤ (full acked).alerts.records.length ∧ ∀ r ∈ (full acked).alerts.records, ¬ (r.kind = .routed)) ∧
      (full true).alerts.records.find? (fun r => r.severity = .note && r.acked) =
        some { note 1 with source := 11, acked := true } ∧
      ∀ r ∈ (full false).alerts.records, r.severity = .note → r.acked = false :=
  ⟨rfl, rfl, by decide, by decide, rfl, by decide, by decide,
    fun acked => ⟨Nat.le_refl 16, by cases acked <;> decide⟩, rfl, by decide⟩

theorem witness_ButtonSettleReleaseHoldAndStuck :
    (base.part.condition = .inService ∧ (base.button 15).level = none) ∧
      ((buttonIn .stuck .roleShow).part.condition = .inService ∧ ((buttonIn .stuck .roleShow).button 0).state ≠ .released) ∧
      ((buttonIn .pressed .roleHold).part.condition = .inService ∧
        ((buttonIn .pressed .roleHold).button 0).state ≠ .released) := by decide

/-- A RELEASED button settled OPEN takes a press, whatever its role. -/
theorem takes_press (role : Role) :
    (buttonIn .released role).part.condition = .inService ∧ ((buttonIn .released role).button 0).state = .released ∧
      ((buttonIn .released role).button 0).level = some .opened ∧ ((buttonIn .released role).button 0).role = role ∧
      ((buttonIn .released role).button 0).station = some 0 := ⟨rfl, rfl, rfl, rfl, rfl⟩

theorem witness_ButtonPressTakesItsRole :
    let s := base.putButton 15 { base.button 15 with level := some .opened, role := .roleStop }
    ((s.button 15).state = .released ∧ (s.button 15).level = some .opened ∧ (s.button 15).role = .roleStop ∧
        (s.button 15).station = none) ∧
      ∀ role, ((buttonIn .released role).button 0).role = role := ⟨by decide, fun role => (takes_press role).2.2.2.1⟩

/-- Button 0 with a role for station 0, settled OPEN, beside station 0 and its DEMAND axis 0. -/
def pressable (role : Role) (st : StationState) (x : AxisState) : State :=
  stationIn st ((buttonIn .released role).putAxis 0
    { onMove x with cfg := { AxisConfig.reset with station := some 0, mode := .demand } })

theorem witness_ButtonPressTakesItsRole_hold :
    let after := fun (st : StationState) (x : AxisState) =>
      let s := pressable .roleHold st x
      let u := s.setButtonPin 0 .closed
      u.demandAfter ((u.putButton 0 { s.button 0 with level := some .closed, count := 0, state := .pressed, heldTime := 0 }).post
        (buttonLine 0) .press) 0
    let chosen := fun (q : State) => allAxes.filter fun x =>
      (q.axis x).cfg.station = some 0 ∧ (q.axis x).state = .armed ∧ q.mode x = .demand
    ((pressable .roleHold .ready .armed).button 0).role = .roleHold ∧
      ((after .ready .armed).station 0).state = .ready ∧ chosen (after .ready .armed) ≠ [] ∧
      ((after .ready .paused).station 0).state = .ready ∧ chosen (after .ready .disarmed) = [] ∧
      ((after .showing .disarmed).station 0).state = .showing ∧
      ((after .locked .disarmed).station 0).state ≠ .ready ∧ ((after .locked .disarmed).station 0).state ≠ .showing := by
  decide

theorem witness_ButtonPressTakesItsRole_ack :
    (noted (note 1)).ackChoice (some 3) = some (note 1) ∧ (noted (note 1)).ackChoice (some 4) = none ∧
      (let r : Alert := { note 2 with acked := true }
       let s : State := { base with alerts := { base.alerts with records := note 1 :: r :: [] } }
       s.alerts.records = [note 1] ++ r :: [] ∧ (r.acked = true ∧ r.kind ≠ .stuckButton ∧ r.kind ≠ .stopLine) ∧
        ∀ q ∈ [note 1], q.acked = false) ∧
      ∀ r ∈ (noted (note 1)).alerts.records, ¬ r.acked = true := by decide

theorem witness_ButtonSettleReleaseHoldAndStuck_hold :
    ((buttonIn .pressed .roleAck).part.condition = .inService ∧ ((buttonIn .pressed .roleAck).button 0).state = .pressed ∧
        max ((buttonIn .pressed .roleAck).button 0).heldTime ((buttonIn .pressed .roleAck).button 0).holdThreshold <
          (buttonIn .pressed .roleAck).buttonTiming.stuckLimit * 1000) ∧
      (let s := { buttonIn .pressed .roleAck with buttonTiming := { debounce := 10, stuckLimit := 1 } }
       (s.button 0).state = .pressed ∧
        s.buttonTiming.stuckLimit * 1000 ≤ max (s.button 0).heldTime (s.button 0).holdThreshold) ∧
      ((buttonIn .held .roleHold).button 0).state = .held := by decide

theorem witness_ButtonStationAndOtherSettings :
    base.listening ∧ (1#8 : Byte) ≠ 0 ∧ (15#8).toNat = (15 : ButtonId).val ∧ polarityOf 1 = some .closedHigh ∧
      roleOf 4 = some .roleStop ∧ stationRefOf 0xFF = some none ∧ stationRefOf 7 = some (some 7) ∧
      cellOf 7 31 = some (some (7, 31)) ∧ cellOf 0xFF 0xFF = some none ∧ 100 ≤ (100#16).toNat ∧
      (10000#16).toNat ≤ 10000 ∧ (7#8).toNat = (7 : StationId).val := ⟨base_listening, by decide⟩

theorem witness_ButtonStationAndOtherSettings_others : base.listening ∧ (255#8 : Byte) ≠ 0 := ⟨base_listening, by decide⟩

theorem witness_StationCommandsRestAndIdle_timers :
    ((stationIn .resting base).station 0).state = .resting ∧
      (let s := stationIn .showing (axisIn .paused)
       let t := s.putStation 0 { s.station 0 with idleLimit := 1 }
       (t.station 0).idleLimit ≠ 0 ∧ t.idleRuns 0 = true) := by decide

theorem witness_StationCommandsRestAndIdle :
    (stationIn .ready (axisIn .armed)).attentive ∧ (1#8 : Byte) ≠ 0 ∧ (0#8).toNat = (0 : StationId).val ∧
      ((stationIn .ready (axisIn .armed)).station 0).state = .ready ∧
      allAxes.filter ((stationIn .ready (axisIn .armed)).startSelects 0) ≠ [] ∧
      (base.station 0).state ≠ .ready ∧ allAxes.filter ((stationIn .ready base).startSelects 0) = [] :=
  ⟨⟨rfl, rfl, rfl, rfl⟩, by decide⟩

theorem witness_LockAndActivityTests :
    let locks := fun s : State =>
      (∃ r ∈ s.alerts.records, r.severity = .lockout ∧ (r.station = none ∨ r.station = some 0)) ∨ (s.station 0).latch = true
    let locked := stationIn .locked { axisIn .armed with alerts := (noted { note 1 with severity := .lockout, station := none }).alerts }
    let unlocked := stationIn .locked (axisIn .running)
    let rests := fun n => unlocked.putStation 0 { unlocked.station 0 with restTime := n }
    (base.station 0).state = .offline ∧ ((locked.station 0).state = .locked ∧ locks locked) ∧
      ((unlocked.station 0).state = .locked ∧ ¬ locks unlocked ∧ (unlocked.axis 0).cfg.station = some 0) ∧
      (((rests 0).station 0).restTime = 0 ∧ ((rests 6000).station 0).restTime = 6000 ∧ ¬ locks (rests 0)) ∧
      ((stationIn .ready base).station 0).state ≠ .locked ∧ ¬ locks (stationIn .ready base) := by decide

theorem witness_LockAndActivityTests_members :
    let s := stationIn .showing { axisIn .running with alerts := (noted { note 1 with severity := .lockout, station := none }).alerts }
    (s.station 0).state ≠ .offline ∧ (s.station 0).state ≠ .locked ∧ (s.axis 0).cfg.station = some 0 ∧
      ∃ r ∈ s.alerts.records, r.severity = .lockout ∧ (r.station = none ∨ r.station = some 0) := by decide

theorem witness_LockAndActivityTests_activity :
    let idle := stationIn .showing (axisIn .armed)
    ((idle.station 0).state = .showing ∧
        ∀ x ∈ allAxes.filter (fun x => (idle.axis x).cfg.station = some 0), ¬ (idle.axis x).state ≠ .armed) ∧
      (let s := stationIn .showing (axisIn .paused)
       ∃ x ∈ allAxes.filter (fun x => (s.axis x).cfg.station = some 0),
        (s.axis x).state ≠ .disarmed ∧ (s.axis x).state ≠ .armed) := by decide

theorem witness_CueRecordRoundTrip :
    (CueBody.move (-2147483648) { f := 65535, v := 65535, a := 65535 } (some (.high, 8388607))).held ∧
      (CueBody.moveTo (-8388608) ramp).held ∧ (CueBody.dwell 60000).held ∧ (CueBody.dwell 1).held ∧
      (CueBody.scene 3).held ∧ (CueBody.mark 255).held ∧ CueBody.empty.held := by
  refine ⟨⟨by decide, by decide, by unfold Profile.held; decide, ?_⟩, ?_, by unfold CueBody.held; decide, by unfold CueBody.held; decide, trivial,
    by unfold CueBody.held; decide, trivial⟩
  · intro side home h
    simp only [Option.some.injEq, Prod.mk.injEq] at h
    obtain ⟨-, rfl⟩ := h
    unfold signed24; decide
  · unfold CueBody.held signed24 Profile.held; decide

theorem witness_WriteCueAndEraseCue :
    base.listening ∧ (1#8 : Byte) ≠ 0 ∧ (127#8).toNat = (127 : CueId).val ∧ (CueBody.mark 255).held ∧
      ((127#8).toNat ≤ 127 ∧ 1 ≤ (1#8).toNat ∧ (1#8).toNat ≤ 128 ∧ (127#8).toNat + (1#8).toNat ≤ 128 ∧
        base.part.failure.getLsbD 0 = false) ∧
      (∀ j : CueId, 127 ≤ j.val ∧ j.val < 128 → (base.cue j).pins = 0) ∧
      ((base.putCue 127 { CueEntry.reset with pins := 8 }).cue 127).pins ≠ 0 :=
  ⟨base_listening, by decide, by decide, by unfold CueBody.held; decide, by decide, fun j _ => by revert j; decide, by decide⟩

theorem witness_WalkFindsTheChainOrItsFault :
    cued.walk 0 = .ok [0] ∧ base.walk 127 = .error (.emptyEntry, 127) ∧
      (cued.putCue 0 { cued.cue 0 with next := .entry 0 }).walk 0 = .error (.cycle, 0) := by decide

theorem witness_WalkFindsTheChainOrItsFault_tooLong :
    ({ base with cues := Vector.ofFn fun i : Fin 128 => { body := .mark 1, next := .entry (i + 1), pins := 0 } } : State).walk 127 =
      .error (.tooLong, 31) := by decide

theorem witness_BrakeDistanceRoundsUp :
    let p : Profile := { f := 50, v := 20000, a := 1 }
    (50 ≤ p.f ∧ p.f ≤ 20000 ∧ (20000 : Nat) ≤ 20000 ∧ 1 ≤ p.a) ∧
      ({ onMove .running with remN := 8, rate := 2000 } : Axis).remN ≤ brakeDistance ramp 2000 := by decide

theorem witness_TickUpdatesRateStepsAndLimits_rate :
    let open' := fun a : Axis => a.phase ≠ .decel ∧ a.state ≠ .stopping ∧ ¬ a.remN ≤ brakeDistance ramp a.rate
    (onMove .stopping).state = .stopping ∧
      (let a : Axis := { onMove .running with rate := 1750 }
       open' a ∧ a.rate < ramp.v ∧ ramp.v ≤ a.rate + ramp.a) ∧
      (let a := onMove .running
       open' a ∧ a.rate < ramp.v ∧ a.rate + ramp.a < ramp.v) ∧
      (let a : Axis := { onMove .running with rate := 2000 }
       open' a ∧ ramp.v ≤ a.rate) := by decide

theorem witness_TickUpdatesRateStepsAndLimits_steps :
    let a : Axis := { onMove .running with acc := 999, rate := 20000, remN := 16777215 }
    a.acc ≤ 999 ∧ (rateUpdate { f := 50, v := 20000, a := 2000 } a).1 ≤ 20000 := by decide

theorem witness_TickUpdatesRateStepsAndLimits :
    let a : Axis := { onMove .running with position := 8388577 }
    ramp.f ≤ ramp.v ∧ ramp.f ≤ a.rate ∧ a.rate ≤ ramp.v ∧ a.remN ≤ a.segN ∧ a.cfg.softLow ≤ a.position ∧
      a.position ≤ a.cfg.softHigh ∧ a.remN ≤ a.cfg.room a.position a.dir := by decide

/-- Axis 0 about to take the last step of a segment. -/
def lastStep (st : AxisState) : Axis := { onMove st with remN := 1, acc := 500, phase := .decel }

theorem witness_RampTickAndDwellExpiry :
    ((axisIn .running).loadedProfile 0 = some ramp ∧ ((axisIn .running).axis 0).state = .running ∧
        ((onMove .running).rampStep ramp false).remN ≠ 0) ∧
      (((axisIn .stopping).axis 0).state = .stopping ∧ ((onMove .stopping).rampStep ramp false).remN ≠ 0 ∧
        ((onMove .stopping).rampStep ramp false).rate = ramp.f) ∧
      (((lastStep .running).rampStep ramp false).remN = 0 ∧ (lastStep .running).seek = none) ∧
      (((lastStep .stopping).rampStep ramp false).remN = 0 ∧ (lastStep .stopping).seek = none) ∧
      (let s := base.putCue 0 { body := .move (-30) ramp (some (.low, 5)), next := .chainStop, pins := 1 }
       let seeking : Axis := { lastStep .running with seek := some .low }
       let t := s.putAxis 0 seeking
       let r := s.putAxis 0 { seeking with cfg := { seeking.cfg with mode := .rehearse } }
       (t.loadedProfile 0 = some ramp ∧ (seeking.rampStep ramp false).remN = 0 ∧ t.rehearses 0 = false) ∧
        r.loadedProfile 0 = some ramp ∧ ((r.axis 0).rampStep ramp true).remN = 0 ∧ r.rehearses 0 = true) ∧
      ((axisIn .dwelling).axis 0).state = .dwelling := by decide

theorem witness_LoadedMoveWaitsForItsGrant :
    (axisIn .armed).paired 0 = false ∧ (axisIn .armed).rehearses 0 = false ∧ (axisIn .armed).mode 0 ≠ .demand ∧
      ((axisIn .armed).axis 0).state ≠ .running ∧
      min (30 : Int).natAbs (((axisIn .armed).axis 0).cfg.room ((axisIn .armed).axis 0).position .up) ≠ 0 ∧
      min (30 : Int).natAbs (((axisIn .armed).axis 0).cfg.room 8388607 .up) = 0 := by decide

/-- Axis 0 on an entry with a body. -/
def onEntry (body : CueBody) : State := (axisIn .armed).putCue 0 { body := body, next := .chainStop, pins := 1 }

/-- Axis 0 in a mode and a state, at a soft limit 10 steps above. -/
def nearLimit (mode : AxisMode) (st : AxisState) : State :=
  cued.putAxis 0 { onMove st with cfg := { (onMove st).cfg with mode := mode, softHigh := 10 } }

theorem witness_AxisLoads :
    ((cued.putAxis 0 { onMove .armed with current := some .chainStop }).axis 0).current = some .chainStop ∧
      (∀ body, ((onEntry body).axis 0).current = some (.entry 0) ∧ ((onEntry body).cue 0).body = body) ∧
      (let s := cued.putAxis 0 { onMove .armed with lowLevel := some true }
       s.rehearses 0 = false ∧ (s.axis 0).stopLevel .low = some true ∧ (s.axis 0).stopLevel .high ≠ some true) ∧
      (let s := cued.putAxis 0 { onMove .armed with position := 8388607 }
       (s.axis 0).stopLevel .high ≠ some true ∧ s.paired 0 = false ∧ (s.axis 0).state ≠ .disarmed ∧ s.rehearses 0 = false ∧
        min (1 : Int).natAbs ((s.axis 0).cfg.room (s.axis 0).position .up) = 0) ∧
      (∀ mode st, (nearLimit mode st).paired 0 = false ∧ (nearLimit mode st).part.condition = .inService ∧
        ((nearLimit mode st).axis 0).cfg.mode = mode ∧ ((nearLimit mode st).axis 0).state = st ∧
        ((nearLimit mode st).axis 0).cfg.room 0 .up = 10) ∧
      min (11 : Int).natAbs 10 ≠ 0 ∧ (nearLimit .demand .armed).demandFlag 0 = false ∧
      (nearLimit .rehearse .armed).rehearses 0 = true ∧ (nearLimit .block .running).rehearses 0 = false ∧
      ((nearLimit .block .running).axis 0).stopLevel Dir.up.stop ≠ some true ∧
      (let s := (nearLimit .demand .running).putAxis 0 { (nearLimit .demand .running).axis 0 with hostDemand := true }
       s.demandFlag 0 = true ∧ s.rehearses 0 = false) ∧
      10 < (11 : Int).natAbs ∧ (10 : Int).natAbs ≤ 10 :=
  ⟨rfl, fun _ => ⟨rfl, rfl⟩, by decide, by decide,
    fun mode st => ⟨rfl, rfl, rfl, rfl, rfl⟩, by decide⟩

/-- A DEMAND axis with its demand flag asserted loads a MOVE, and a seek away from its stop; at the limit both are cut to 0 steps. -/
theorem witness_LoadedMoveWaitsForItsGrant_demand :
    let s := (nearLimit .demand .armed).putAxis 0 { (nearLimit .demand .armed).axis 0 with hostDemand := true }
    s.paired 0 = false ∧ s.rehearses 0 = false ∧ s.mode 0 = .demand ∧ s.demandFlag 0 = true ∧ (s.axis 0).state ≠ .running ∧
      (∀ side, (s.axis 0).stopLevel side ≠ some true) ∧
      min (30 : Int).natAbs ((s.axis 0).cfg.room (s.axis 0).position .up) ≠ 0 ∧
      min (30 : Int).natAbs ((s.axis 0).cfg.room 10 .up) = 0 :=
  ⟨rfl, rfl, rfl, rfl, by decide, by intro side; cases side <;> decide, by decide, by decide⟩

/-- A seek whose stop is not TRIPPED: a DEMAND axis without demand, a REHEARSE axis, a RUNNING axis, and one that holds no run current. -/
theorem witness_AxisLoads_seek :
    ∀ side, ((nearLimit .demand .armed).axis 0).stopLevel side ≠ some true ∧
      ((nearLimit .rehearse .armed).axis 0).stopLevel side ≠ some true ∧
      ((nearLimit .block .running).axis 0).stopLevel side ≠ some true ∧
      ((nearLimit .block .armed).axis 0).stopLevel side ≠ some true ∧ (nearLimit .block .armed).rehearses 0 = false ∧
      (nearLimit .demand .armed).demandFlag 0 = false ∧ min (11 : Int).natAbs 10 ≠ 0 := by
  intro side; cases side <;> decide

theorem witness_AxisLoads_tripped :
    let s := cued.putAxis 0 { onMove .running with highLevel := some true }
    s.paired 0 = false ∧ s.rehearses 0 = false ∧ (s.axis 0).cfg.mode ≠ .demand ∧ (s.axis 0).state = .running ∧
      (s.axis 0).stopLevel Dir.up.stop = some true ∧ s.part.condition = .inService ∧ s.alerts.records.length < 16 ∧
      min (1 : Int).natAbs ((s.axis 0).cfg.room (s.axis 0).position .up) ≠ 0 := by decide

theorem witness_AxisLoads_rehearse :
    let s := nearLimit .rehearse .armed
    let atLimit := s.putAxis 0 { s.axis 0 with virtual := 10 }
    (s.rehearses 0 = true ∧ atLimit.rehearses 0 = true ∧
        min (11 : Int).natAbs ((s.axis 0).cfg.room (s.axis 0).virtual .up) ≠ 0 ∧
        min (11 : Int).natAbs ((atLimit.axis 0).cfg.room (atLimit.axis 0).virtual .up) = 0) ∧
      (s.paired 0 = false ∧ (s.axis 0).state = .armed) ∧
      ((axisIn .armed).paired 0 = false ∧ ((axisIn .armed).axis 0).state = .armed ∧ (axisIn .armed).rehearses 0 = false) ∧
      ((axisIn .paused).axis 0).state ≠ .armed := by decide

theorem witness_SettlingAndChainEnd :
    (axisIn .stopping).paired 0 = false ∧ ((axisIn .stopping).axis 0).state ≠ .disarmed ∧
      ((axisIn .stopping).axis 0).cfg.repeats = false ∧
      (let a := onMove .running
       let s := cued.putAxis 0 { a with cfg := { a.cfg with mode := .single, repeats := true } }
       s.paired 0 = false ∧ (s.axis 0).cfg.repeats = true ∧ (s.axis 0).current = some (.entry 0) ∧ s.mode 0 = .single) := by decide

theorem witness_SettlingAndChainEnd_stopping :
    ∀ d : Disposition,
      let s := cued.putAxis 0 { onMove .stopping with disposition := some d, remN := 0 }
      s.paired 0 = false ∧ (s.axis 0).current = some (.entry 0) ∧ s.mode 0 ≠ .single ∧ (s.axis 0).disposition = some d ∧
        (s.axis 0).state ≠ .disarmed := fun d => ⟨rfl, rfl, by cases d <;> decide, rfl, by cases d <;> decide⟩

theorem witness_EndStopChangeHomeAndSeekMiss :
    (axisIn .running).part.condition ≠ .testing ∧ ((axisIn .running).axis 0).stopLevel .low ≠ some true ∧
      ((axisIn .running).axis 0).state = .running ∧ (axisIn .running).rehearses 0 = false ∧
      ((axisIn .running).axis 0).seek ≠ some .low ∧
      ((axisIn .running).putAxis 0 { onMove .running with seek := some .low }).axis 0 =
        { onMove .running with seek := some .low } ∧
      ((axisIn .running).putAxis 0 { onMove .running with lowLevel := some true }).axis 0 =
        { onMove .running with lowLevel := some true } ∧
      ((axisIn .armed).axis 0).state = .armed := by decide

theorem witness_EndStopChangeHomeAndSeekMiss_home :
    ∀ st : AxisState,
      let s := (base.putCue 0 { body := .move (-30) ramp (some (.low, 5)), next := .chainStop, pins := 1 }).putAxis 0
        { onMove st with seek := some .low }
      s.part.condition ≠ .testing ∧ (s.axis 0).stopLevel .low ≠ some true ∧ (s.axis 0).state = st ∧
        s.rehearses 0 = false ∧ (s.axis 0).seek = some .low ∧ (s.axis 0).current = some (.entry 0) ∧
        (s.cue 0).body = .move (-30) ramp (some (.low, 5)) ∧ s.paired 0 = false ∧ (s.axis 0).chain.Nodup :=
  fun st => ⟨by cases st <;> decide, by cases st <;> decide, rfl, rfl, rfl, rfl, rfl, rfl, by cases st <;> decide⟩

theorem witness_HaltAndDisposition :
    (axisIn .running).paired 0 = false ∧ (base.axis 7).state = .disarmed ∧
      ((axisIn .running).axis 0).state ≠ .disarmed ∧ ((axisIn .running).axis 0).chain.Nodup ∧
      (axisIn .running).part.condition = .inService ∧ Disposition.disarm ≠ .pause ∧ Disposition.abandon ≠ .pause ∧
      ∀ st, ((axisIn st).axis 0).state = st := ⟨rfl, rfl, by decide, by decide, rfl, by decide, by decide, fun _ => rfl⟩

theorem witness_SetAxis :
    base.listening ∧ (1#8 : Byte) ≠ 0 ∧ (7#8).toNat = (7 : AxisId).val ∧ AxisConfig.reset.held ∧
      AxisConfig.held
        { AxisConfig.reset with
          runDraw := 15, holdDraw := 3, softLow := 8388607, softHigh := 8388607, jamThreshold := 0, jamPersistence := 15 } ∧
      ((base.axis 7).position ≤ AxisConfig.reset.softHigh ∧ AxisConfig.reset.softLow ≤ (base.axis 7).position ∧
        AxisConfig.reset.pair = false ∧ (base.axis 7).state = .disarmed ∧ base.paired 7 = false) ∧
      ¬ (1 : Int) ≤ (base.axis 7).position ∧ ((axisIn .armed).axis 0).state ≠ .disarmed ∧
      AxisConfig.held { AxisConfig.reset with softLow := 1 } :=
  ⟨base_listening, by decide, by decide, by unfold AxisConfig.held signed24; decide, by unfold AxisConfig.held signed24; decide,
    by decide, by decide, by decide, by unfold AxisConfig.held signed24; decide⟩

theorem witness_SetAxis_outOfRange :
    base.listening ∧ 8 ≤ (8#8).toNat ∧ (8#8 : Byte) ≠ 0xFF ∧ 4 ≤ (4#8).toNat ∧ 16 ≤ (16#8).toNat ∧ 15 < (16#8).toNat ∧
      3 < (4#8).toNat ∧ (1#8).toNat < (2#8).toNat ∧ (0#24).toInt < (1#24).toInt ∧ 1023 < (1024#16).toNat :=
  ⟨base_listening, by decide⟩

/-- Axes 2 and 3 configured as a pair of station 0. -/
def pairCfg : AxisConfig := { AxisConfig.reset with station := some 0, pair := true }
def paired : State :=
  (cued.putAxis 2 { Axis.reset with cfg := pairCfg }).putAxis 3 { Axis.reset with cfg := { pairCfg with pair := false } }

theorem witness_ArmAxisAndItsContext :
    (let s := axisIn .disarmed
     s.attentive ∧ (1#8 : Byte) ≠ 0 ∧ (0#8).toNat = (0 : AxisId).val ∧ (0#8).toNat = (0 : CueId).val ∧
      s.paired 0 = false ∧ (s.axis 0).cfg.station = some 0) ∧
      ((127#8).toNat < 128 ∧ (base.axis 7).cfg.station = none ∧ base.paired 7 = false) ∧
      (paired.attentive ∧ paired.paired 2 = true ∧ isLeader 2 = true ∧ paired.paired 3 = true ∧ isLeader 3 = false) :=
  ⟨⟨⟨rfl, rfl, rfl, rfl⟩, by decide⟩, by decide, ⟨rfl, rfl, rfl, rfl⟩, by decide⟩

theorem witness_ArmAxisAndItsContext_context : (base.axis 7).state = .disarmed ∧ ([0, 127] : List CueId).Nodup := by decide

theorem witness_TriggerAxisAndDisarmAxis :
    (stationIn .ready (axisIn .armed)).attentive ∧ (1#8 : Byte) ≠ 0 ∧ (0#8).toNat = (0 : AxisId).val ∧
      (let s := stationIn .ready (axisIn .armed)
       (s.axis 0).cfg.station = some 0 ∧ (s.axis 0).state = .armed ∧ s.paired 0 = false ∧ (s.station 0).state = .ready) ∧
      (let s := stationIn .showing (axisIn .armed)
       (s.axis 0).state = .armed ∧ s.paired 0 = false ∧ (s.station 0).state = .showing) ∧
      ((axisIn .running).axis 0).state ≠ .armed ∧ paired.paired 2 = true ∧ paired.paired 3 = true :=
  ⟨⟨rfl, rfl, rfl, rfl⟩, by decide⟩

theorem witness_DemandAxisSetPositionStopAndHalt :
    let d := base.putAxis 7 { Axis.reset with cfg := { AxisConfig.reset with mode := .demand } }
    base.attentive ∧ d.attentive ∧ base.listening ∧ (1#8 : Byte) ≠ 0 ∧ (7#8).toNat = (7 : AxisId).val ∧
      base.mode 7 ≠ .demand ∧ d.mode 7 = .demand :=
  ⟨⟨rfl, rfl, rfl, rfl⟩, ⟨rfl, rfl, rfl, rfl⟩, base_listening, by decide⟩

theorem witness_DemandAxisSetPositionStopAndHalt_stop :
    (axisIn .paused).attentive ∧ (1#8 : Byte) ≠ 0 ∧ (0#8).toNat = (0 : AxisId).val ∧ (axisIn .paused).paired 0 = false ∧
      (axisIn .paused).isActive 0 = true ∧ (axisIn .armed).isActive 0 = false ∧ paired.paired 3 = true ∧
      paired.isActive 2 = false ∧ paired.isActive 3 = false :=
  ⟨⟨rfl, rfl, rfl, rfl⟩, by decide⟩

/-- Axis 0 in a state with a disposition and some steps left. -/
def leftWith (st : AxisState) (d : Option Disposition) (n : Nat) : State :=
  cued.putAxis 0 { onMove st with disposition := d, remN := n }

theorem witness_DemandDropAndReturn :
    (∀ st d n, ((leftWith st d n).axis 0).state = st ∧ ((leftWith st d n).axis 0).disposition = d ∧
        ((leftWith st d n).axis 0).remN = n ∧ (leftWith st d n).paired 0 = false ∧
        (leftWith st d n).loadedProfile 0 = some ramp) ∧
      ((buttonIn .held .roleHold).button 0).station = some 0 ∧ ((buttonIn .held .roleHold).button 0).role = .roleHold :=
  ⟨fun _ _ _ => ⟨rfl, rfl, rfl, rfl, rfl⟩, rfl, rfl⟩

/-- Axes 2 and 3 as a pair in two states, in its run or not, with the pair end flag or not. -/
def pairIn (lead follow : AxisState) (run ended : Bool) : State :=
  ((paired.putAxis 2 { onMove lead with cfg := pairCfg }).putAxis 3
    { onMove follow with cfg := { pairCfg with pair := false } }).putPair 2
    { run := run, endFlag := ended, loops := 255, runSum := 8 }

theorem witness_PairRun :
    ∀ lead follow run ended,
      let s := pairIn lead follow run ended
      s.paired 2 = true ∧ s.paired 3 = true ∧ isLeader 2 = true ∧ isLeader 3 = false ∧ s.rehearses 2 = false ∧
        (s.axis 2).state = lead ∧ (s.axis 3).state = follow ∧ partnerOf 2 = 3 ∧ partnerOf 3 = 2 ∧ followerOf 2 = 3 ∧
        (s.pair 2).run = run ∧ (s.pair 3).run = run ∧ (s.pair 2).endFlag = ended ∧ s.part.condition = .inService :=
  fun _ _ _ _ => ⟨rfl, rfl, rfl, rfl, rfl, rfl, rfl, rfl, rfl, rfl, rfl, rfl, rfl, rfl⟩

theorem witness_PairRun_rehearse :
    let s := (pairIn .armed .armed false false).putAxis 2 { onMove .armed with cfg := { pairCfg with mode := .rehearse } }
    s.paired 2 = true ∧ s.rehearses 2 = true ∧ s.rehearses 3 = true := by decide

/-- During the run a member takes 1 step of any state, 0 steps at the limit, or 1 step towards a TRIPPED stop with its partner RUNNING; a seek finds
no stop TRIPPED. -/
theorem witness_PairRun_load :
    (∀ st, let s := pairIn st .running true false
      s.paired 2 = true ∧ (s.pair 2).run = true ∧ s.mode 2 ≠ .demand ∧ s.rehearses 2 = false ∧
        ((s.axis 2).stopLevel .low ≠ some true ∧ (s.axis 2).stopLevel .high ≠ some true) ∧
        min (1 : Int).natAbs ((s.axis 2).cfg.room (s.axis 2).position .up) ≠ 0 ∧
        min (1 : Int).natAbs ((s.axis 2).cfg.room 8388607 .up) = 0) ∧
      (let s := pairIn .dwelling .running true false
       let t := s.putAxis 2 { s.axis 2 with highLevel := some true }
       t.paired 2 = true ∧ (t.pair 2).run = true ∧ t.mode 2 ≠ .demand ∧ t.rehearses 2 = false ∧
         (t.axis 2).stopLevel Dir.up.stop = some true ∧ min (1 : Int).natAbs ((t.axis 2).cfg.room (t.axis 2).position .up) ≠ 0 ∧
         (t.axis (partnerOf 2)).state = .running ∧ t.part.condition = .inService) :=
  ⟨fun st => by cases st <;> decide, by decide⟩

theorem witness_PairRun_rehearseLoad :
    let s := (pairIn .armed .armed true false).putAxis 2 { onMove .armed with cfg := { pairCfg with mode := .rehearse } }
    s.paired 2 = true ∧ (s.pair 2).run = true ∧ s.mode 2 ≠ .demand ∧ s.rehearses 2 = true ∧ isLeader 2 = true ∧
      (s.axis 2).state = .armed ∧ min (1 : Int).natAbs ((s.axis 2).cfg.room (s.axis 2).virtual .up) ≠ 0 := by decide

theorem witness_PairRun_halted :
    (let s := pairIn .running .dwelling true false
     s.paired 2 = true ∧ isLeader 2 = true ∧ (s.axis 2).state ≠ .disarmed ∧ (s.pair 2).run = true) ∧
      (let s := pairIn .pending .pending false false
       s.paired 2 = true ∧ (s.axis 2).state ≠ .disarmed ∧ (s.pair 2).run = false) ∧
      (let s := pairIn .disarmed .armed false false
       (s.axis 2).state = .disarmed ∧ (s.axis (followerOf 2)).state ≠ .disarmed) := by decide

/-- The pair of axes 2 and 3 after its leader was disarmed: the follower ARMED, each with a mode of its own. -/
def halfArmed (lead own : AxisMode) : State :=
  (pairIn .disarmed .armed false false).putAxis 2 { Axis.reset with cfg := { pairCfg with mode := lead } } |>.putAxis 3
    { onMove .armed with cfg := { pairCfg with pair := false, mode := own } }

theorem witness_SetAxis_dissolution :
    ∀ lead own,
      let s := halfArmed lead own
      let c : AxisConfig := { pairCfg with pair := false }
      s.listening ∧ (2#8).toNat = (2 : AxisId).val ∧ c.held ∧ c.softLow ≤ (s.axis 2).position ∧
        (s.axis 2).position ≤ c.softHigh ∧ (s.axis 2).state = .disarmed ∧ s.isActive 3 = false ∧ s.paired 2 = true ∧
        isLeader 2 = true ∧ (s.pair 2).run = false ∧ (s.axis 3).state = .armed :=
  fun lead own => ⟨⟨⟨rfl, rfl, rfl, rfl⟩, rfl⟩, by decide, by unfold AxisConfig.held signed24; decide,
    by cases lead <;> cases own <;> decide, by cases lead <;> cases own <;> decide, rfl, rfl, rfl, rfl, rfl, rfl⟩

/-- R109: neither dissolution against R58 moves the total. -/
theorem test_dissolutionKeepsTheTotal :
    let off := fun s : State => s.configureAxis 2 { pairCfg with pair := false }
    ((halfArmed .rehearse .block).totalAllocation, (off (halfArmed .rehearse .block)).totalAllocation) = (0, 0) ∧
      ((halfArmed .block .rehearse).totalAllocation, (off (halfArmed .block .rehearse)).totalAllocation) = (1, 1) := by
  decide

/-- R58 and R109 cannot both be met where the modes differ: the follower's allocation by R58 and R110 alone is 0 before and its hold draw, 1, after
one dissolution, and the reverse for the other, with no other allocation to make up for it (log entry 15). -/
theorem test_r58WouldMoveTheTotal :
    let inPair := fun pairMode : AxisMode => if pairMode = .rehearse then 0 else (onMove .armed).heldDraw
    let alone := fun own : AxisMode => if own = .rehearse then 0 else (onMove .armed).ownDraw
    (inPair .rehearse, alone .block) = (0, 1) ∧ (inPair .block, alone .rehearse) = (1, 0) ∧
      ∀ lead own, ∀ x, x ≠ 2 → x ≠ 3 → (halfArmed lead own).allocation x = 0 := by
  refine ⟨by decide, by decide, fun lead own => ?_⟩
  cases lead <;> cases own <;> decide

/-- R117: a seek miss of the member that is STOPPING leaves both members DISARMED. -/
theorem test_seekMissDisarmsBoth :
    let t := (pairIn .stopping .armed true true).seekMiss 2
    ((t.axis 2).state, (t.axis 3).state, (t.pair 2).run, t.totalAllocation) = (.disarmed, .disarmed, false, 0) := by decide

/-- Axis 0 waits for its grant. -/
def waiting (urgent : Bool) (limit : Nat) : State :=
  let s := axisIn .pending
  { s with
    arbiter :=
      { s.arbiter with
        waitLimit := limit, waiting := [{ axis := 0, pair := false, increase := 3, waited := 0, urgent := urgent }] } }

theorem witness_EntryUrgentAndSetBudget :
    (∀ urgent limit, (waiting urgent limit).arbiter.waiting.filter (fun f => f.axis = 0) =
        [{ axis := 0, pair := false, increase := 3, waited := 0, urgent := urgent }]) ∧
      (waiting false 0).arbiter.waitLimit = 0 ∧ (waiting true 1).arbiter.waitLimit ≠ 0 ∧
      base.attentive ∧ (1#8 : Byte) ≠ 0 ∧ policyOf 1 = some .rotating :=
  ⟨fun _ _ => rfl, by decide, by decide, ⟨rfl, rfl, rfl, rfl⟩, by decide⟩

theorem witness_PassOrderAndGrant :
    base.arbiter.policy = .fixed ∧
      ({ base with arbiter := { base.arbiter with policy := .rotating, pointer := 7 } } : State).arbiter.policy = .rotating ∧
      (let s := waiting true 1
       let t := { s with arbiter := { s.arbiter with budget := 3 } }
       t.arbiter.waiting = [] ++ { axis := 0, pair := false, increase := 3, waited := 0, urgent := true } :: [] ∧
        t.arbiter.budget < t.totalAllocation + 3) := by decide

theorem witness_PassOrderAndGrant_pass :
    let s := waiting true 1
    let t : State := { s with
      arbiter :=
        { s.arbiter with
          waiting := s.arbiter.waiting ++ [{ axis := 7, pair := false, increase := 3, waited := 0, urgent := false }] } }
    (t.arbiter.waiting.map (·.axis)).Nodup := by decide

theorem witness_PassOrderAndGrant_grant :
    let s := waiting false 1
    let e : PendingEntry := { axis := 0, pair := false, increase := 3, waited := 0, urgent := false }
    e.pair = false ∧ s.paired e.axis = false ∧ s.rehearses e.axis = false ∧ (s.axis e.axis).state = .pending ∧
      (s.axis e.axis).cfg.holdDraw ≤ (s.axis e.axis).cfg.runDraw ∧
      e.increase = (s.axis e.axis).cfg.runDraw - (s.axis e.axis).cfg.holdDraw ∧ s.fits e = true := by decide

/-- A pass that is due because the event marked it or because the total fell, with one entry that fits or does not. -/
theorem witness_PassOrderAndGrant_due :
    let s := waiting false 1
    let marked : State := { s with passDue := true }
    let poor : State := { marked with arbiter := { s.arbiter with budget := 3 } }
    let e : PendingEntry := { axis := 0, pair := false, increase := 3, waited := 0, urgent := false }
    (marked.passDue = true ∧ s.totalAllocation < (s.putAxis 1 (onMove .running)).totalAllocation ∧
        (s.passDue = false ∧ ¬ s.totalAllocation < s.totalAllocation)) ∧
      (marked.arbiter.waiting = [e] ∧ marked.fits e = true ∧ poor.arbiter.waiting = [e] ∧ poor.fits e = false ∧ e.pair = false ∧
        (marked.axis 0).cfg.holdDraw ≤ (marked.axis 0).cfg.runDraw ∧ marked.paired 0 = false ∧ marked.rehearses 0 = false ∧
        (marked.axis 0).stopLevel (marked.axis 0).dir.stop ≠ some true) := by decide

/-- After one pass nothing is due, when what follows its grants marks none and lowers no total. -/
theorem witness_PassOrderAndGrant_once :
    let marked : State := { waiting false 1 with passDue := true }
    let pass := ({ marked with passDue := false } : State).passGrants
    let next := pass.2.foldl (fun t e => t.afterGrant e) pass.1
    pass.2.length = 1 ∧ next.passDue = false ∧ ¬ next.totalAllocation < pass.1.totalAllocation := by decide

/-- The stop ahead of a granted axis: not TRIPPED, TRIPPED without a seek, and TRIPPED as the seek's own. -/
theorem witness_PassOrderAndGrant_trip :
    let s := cued.putAxis 0 { onMove .running with highLevel := some true }
    let t := cued.putAxis 0 { onMove .running with highLevel := some true, seek := some .high }
    (s.rehearses 0 = false ∧ (s.axis 0).state = .running ∧ (s.axis 0).stopLevel (s.axis 0).dir.stop = some true ∧
        (s.axis 0).seek ≠ some (s.axis 0).dir.stop) ∧
      (t.rehearses 0 = false ∧ (t.axis 0).state = .running ∧ (t.axis 0).stopLevel (t.axis 0).dir.stop = some true ∧
        (t.axis 0).seek = some (t.axis 0).dir.stop) ∧
      ((axisIn .running).axis 0).stopLevel ((axisIn .running).axis 0).dir.stop ≠ some true := by decide

/-- R67: a grant that finds the stop ahead TRIPPED ends in a halt, and the pass that the fall of the total brings grants the next entry. -/
theorem test_grantAfterATrip :
    let e : AxisId → PendingEntry := fun x => { axis := x, pair := false, increase := 3, waited := 0, urgent := false }
    let s := (cued.putAxis 0 { onMove .pending with highLevel := some true, cfg := { (onMove .pending).cfg with runDraw := 4, holdDraw := 1 } }).putAxis 1
      { onMove .pending with cfg := { (onMove .pending).cfg with station := none, runDraw := 4, holdDraw := 1 } }
    let marked : State := { s with passDue := true, arbiter := { s.arbiter with budget := 6, waiting := [e 0, e 1] } }
    let t := s.settled marked
    ((t.axis 0).state, (t.axis 1).state, t.arbiter.waiting, t.arbiter.pointer) = (.disarmed, .running, [], 1) := by decide

theorem witness_FilterStep : (0 : Nat) ≤ 1023 ∧ (1023 : Nat) ≤ 1023 := by decide

theorem witness_ResultIsStored :
    let r : Channel := { Channel.reset with filtered := 1023, windowHigh := 1022, window := some .inside, persistence := 15 }
    Channel.reset.window = none ∧ ({ Channel.reset with window := some .inside } : Channel).window =
        some ({ Channel.reset with window := some .inside } : Channel).classOf ∧
      (r.window ≠ none ∧ r.window ≠ some r.classOf) ∧
      (if ({ r with candidate := some .high, candidateCount := 14 } : Channel).candidate = some r.classOf then 14 + 1 else 1) =
        r.persistence := by decide

theorem witness_ResultIsStored_classes :
    (let r : Channel := { Channel.reset with windowLow := 200, windowHigh := 800 }
     199 < r.windowLow ∧ (r.windowLow ≤ 801 ∧ r.windowHigh < 801) ∧ (r.windowLow ≤ 200 ∧ 800 ≤ r.windowHigh)) ∧
      (let s := cued.putAxis 0 { onMove .running with cfg := { AxisConfig.reset with guard := some 7, jamThreshold := 0 } }
       (s.axis 0).state = .running ∧ s.rehearses 0 = false ∧ (s.axis 0).cfg.guard = some 7) := by decide

theorem witness_ConversionAndTimedTriggers :
    (scanIn (.scanning 7) .period).scanner.state = .scanning 7 ∧ (scanIn (.scanning 7) .period).scanner.state ≠ .off ∧
      (scanIn (.scanning 7) .period).scanner.source = .period ∧ (scanIn .idle .external).part.condition ≠ .testing ∧
      (scanIn .idle .external).scanner.source = .external ∧ (scanIn .idle .motion).scanner.source ≠ .external := by decide

theorem witness_ConversionAndTimedTriggers_motion :
    let s := { axisIn .pending with scanner := (scanIn .idle .motion).scanner }
    ((s.axis 0).state = .pending ∧ s.rehearses 0 = false ∧ s.scanner.source = .motion ∧ s.scanner.state = .idle) ∧
      ((axisIn .stopping).axis 0).state ≠ .pending ∧ AxisState.paused ≠ .running ∧
      (scanIn .idle .period).scanner.source ≠ .motion ∧ (scanIn (.scanning 7) .motion).scanner.state ≠ .idle ∧
      ∃ e : PendingEntry, e.axis = 0 ∧ e.pair = false :=
  ⟨⟨rfl, rfl, rfl, rfl⟩, by decide, by decide, by decide, by decide, ⟨0, false, 3, 0, false⟩, rfl, rfl⟩

theorem witness_ScanTrigger :
    (∀ st src, (scanIn st src).listening) ∧ (1#8 : Byte) ≠ 0 ∧ (scanIn .off .software).scanner.state = .off ∧
      (scanIn .idle .software).scanner.state = .idle ∧ (scanIn .idle .software).scanner.source = .software ∧
      (scanIn (.scanning 0) .software).scanner.state = .scanning 0 :=
  ⟨fun _ _ => ⟨⟨rfl, rfl, rfl, rfl⟩, rfl⟩, by decide⟩

theorem witness_ScannerSetup :
    base.listening ∧ (1#8 : Byte) ≠ 0 ∧ base.scanner.state = .off ∧ base.part.available.scanner = true ∧
      (scanIn .idle .software).scanner.state ≠ .off ∧
      ({ base with part := { base.part with available := ⟨true, true, false, true⟩ } } : State).part.available.scanner = false ∧
      (∀ x, (base.axis x).state = .disarmed) ∧
      (let s := base.putAxis 7 { Axis.reset with state := .armed, cfg := { AxisConfig.reset with guard := some 7 } }
       (s.axis 7).state ≠ .disarmed ∧ (s.axis 7).cfg.guard ≠ none) ∧
      scanModeOf 1 = some .continuous ∧ scanSourceOf 3 = some .external ∧ (7#8).toNat = (7 : ChannelId).val ∧
      (3#8).toNat ≤ 3 ∧ (1023#16).toNat ≤ 1023 ∧ (15#8).toNat ≤ 15 ∧ (1000#16).toNat ≤ 1000 :=
  ⟨base_listening, by decide⟩

theorem witness_StopLineEscalationAndBlinkPhase :
    base.part.condition ≠ .testing ∧ base.stopLine.level ≠ some true ∧ base.stopLine.level ≠ some false ∧
      State.reset.part.condition = .testing := by decide

theorem witness_StopLineEscalationAndBlinkPhase_escalation :
    (noted { note 1 with level := 2 }).part.condition ≠ .testing ∧
      (noted { note 1 with level := 2 }).recordOf 1 = some { note 1 with level := 2 } ∧ (note 1).acked = false ∧
      (noted { note 1 with level := 3 }).recordOf 1 = some { note 1 with level := 3 } ∧
      base.recordOf (65535#16).toNat = none := by decide

theorem witness_RaiseAckAndClearAlert_ack :
    base.attentive ∧ (noted (note 1)).attentive ∧ (1#8 : Byte) ≠ 0 ∧ (1#16 : BitVec 16) ≠ 0 ∧
      base.recordOf (1#16).toNat = none ∧ (noted (note 1)).recordOf (1#16).toNat = some (note 1) :=
  ⟨⟨rfl, rfl, rfl, rfl⟩, ⟨rfl, rfl, rfl, rfl⟩, by decide⟩

theorem witness_RaiseAckAndClearAlert :
    base.attentive ∧ (1#8 : Byte) ≠ 0 ∧ severityOf 2 = some .lockout ∧ stationRefOf 3 = some (some 3) ∧
      stationRefOf 0xFF = some none ∧
      (noted (note 1)).alerts.records.find?
        (fun q => decide (q.kind = .host ∧ q.source = (7#8).toNat ∧ q.station = some 3)) = some (note 1) ∧
      (∀ r ∈ base.alerts.records, ¬ (r.kind = .host ∧ r.source = 7)) :=
  ⟨⟨rfl, rfl, rfl, rfl⟩, by decide⟩

theorem witness_RaiseAckAndClearAlert_fullTable (acked : Bool) :
    (full acked).attentive ∧ 16 ≤ (full acked).alerts.records.length ∧
      (∀ r ∈ (full acked).alerts.records, r.source ≠ 7) ∧
      (full true).alerts.records.find? (fun r => r.severity = .note && r.acked) =
        some { note 1 with source := 11, acked := true } ∧
      (∀ r ∈ (full false).alerts.records, r.severity = .note → r.acked = false) :=
  ⟨⟨rfl, rfl, rfl, rfl⟩, Nat.le_refl 16, by cases acked <;> decide, rfl, by decide⟩

theorem witness_AlertRecords :
    (note 1).acked = false ∧ ({ note 1 with acked := true } : Alert).acked = true ∧
      ({ note 1 with kind := .stuckButton, condition := some false } : Alert).condition = some false ∧
      severityCode (note 1).severity < severityCode .lockout ∧
      (∀ r ∈ base.alerts.records, ¬ (r.kind = .host)) ∧
      (noted (note 1)).alerts.records.find?
        (fun q => decide (q.kind = .host ∧ q.source = 7 ∧ q.station = some 3)) = some (note 1) := by decide

theorem witness_AlertRecords_nextId :
    ∀ n, n = 1 ∨ n = 65535 →
      let s := { noted (note 2) with alerts := { (noted (note 2)).alerts with nextId := n } }
      1 ≤ s.alerts.nextId ∧ s.alerts.nextId ≤ 65535 ∧ s.alerts.records.length < 16 := by
  rintro n (rfl | rfl) <;> decide

theorem witness_LampRequests :
    base.listening ∧ (1#8 : Byte) ≠ 0 ∧ (3#8).toNat = (3 : SceneId).val ∧ (31#8).toNat = (31 : Fin 32).val ∧
      base.part.available.lamps = true ∧ 32 ≤ (31 : Fin 32).val + ([1#8] : List Byte).length ∧
      ({ base with part := { base.part with available := ⟨true, false, true, true⟩ } } : State).part.available.lamps = false :=
  ⟨base_listening, by decide⟩

/-- Button 0 of a role claims cell (7, 31). -/
def ring (role : Role) : State :=
  base.putButton 0 { base.button 0 with role := role, station := some 3, cell := some (7, 31) }

/-- Station 0 in a state claims cell (0, 0). -/
def sign (st : StationState) : State := base.putStation 0 { base.station 0 with state := st, cell := some (0, 0) }

theorem witness_LampBeaconAndAxisOutputs :
    (∀ role, ((ring role).button 0).cell = some (7, 31) ∧ ((ring role).button 0).role = role ∧
        ((ring role).button 0).station = some 3) ∧
      (∀ i, ((ring .roleShow).button i).cell = some (7, 31) → i = 0) ∧
      ((∀ b, (base.button b).cell ≠ some (7, 31)) ∧ (∀ st, (base.station st).cell ≠ some (7, 31))) ∧
      ((∀ b, ((sign .locked).button b).cell ≠ some (0, 0)) ∧ (∀ i, ((sign .locked).station i).cell = some (0, 0) → i = 0) ∧
        ((sign .locked).station 0).state = .locked ∧ ((sign .ready).station 0).state ≠ .locked) ∧
      ((note 1).acked = false ∧ (note 1).station = some 3) ∧
      (sign .locked).overlayValue (0, 0) = .fast ∧ (ring .roleShow).overlayValue (7, 31) = .none ∧
      (stationIn .showing (base.putButton 0 { base.button 0 with role := .roleShow, station := some 0, cell := some (7, 31) })).overlayValue
        (7, 31) = .slow :=
  ⟨fun _ => ⟨rfl, rfl, rfl⟩, by decide, by decide, by decide, by decide, by decide, by decide, by decide⟩

theorem witness_LampBeaconAndAxisOutputs_patterns :
    ∀ (sev : Severity) (n : Nat) (acked : Bool),
      (noted { note 1 with severity := sev, level := n, acked := acked }).alerts.records =
        [{ note 1 with severity := sev, level := n, acked := acked }] := fun _ _ _ => rfl

theorem witness_LampBeaconAndAxisOutputs_pins :
    base.part.condition ≠ .testing ∧
      (State.reset.part.condition = .testing ∧ State.reset.part.remaining.head? ≠ some 7 ∧
        State.reset.part.remaining.head? ≠ some 5) ∧
      (testing 0x1F).part.remaining.head? = some 5 ∧ (testing 0x7F).part.remaining.head? = some 7 := by decide

theorem witness_SetEventAndClearEvents :
    base.attentive ∧ base.listening ∧ (1#8 : Byte) ≠ 0 ∧ (42#8).toNat = (42 : LineId).val ∧ flagOf 1 = some true ∧
      (7#8).toNat ≤ 7 ∧ routeOf 2 0 0 = some .scan ∧ 2 ^ (lineClass 42).causeCount ≤ (4#16).toNat ∧
      (3#16).toNat < 2 ^ (lineClass 42).causeCount ∧ ¬ ([1, 1] : List Byte).Nodup ∧
      (43#8 : Byte) ∈ ([43] : List Byte) ∧ 43 ≤ (43#8).toNat ∧ ([0, 42] : List Byte).Nodup ∧
      ∀ b ∈ ([0, 42] : List Byte), b.toNat < 43 :=
  ⟨⟨rfl, rfl, rfl, rfl⟩, base_listening, by decide⟩

/-- A receiver with these bytes. -/
def receiving (bytes : List Byte) : State := { base with link := { base.link with receiver := some bytes } }

theorem witness_ByteReceivedGapExpiryAndTransmitEnd :
    base.link.receiver = none ∧ (receiving []).link.receiver = some [] ∧ ((1#8).toNat < 2 ∧ 250 < (251#8).toNat) ∧
      (2 ≤ (2#8).toNat ∧ (250#8).toNat ≤ 250) ∧
      ((receiving [2, 1]).link.receiver = some (2 :: [1]) ∧ ([1] : List Byte).length < (2#8).toNat) ∧
      ((receiving [2, 1, 1]).link.receiver = some (2 :: [1, 1]) ∧ (2#8).toNat ≤ ([1, 1] : List Byte).length ∧
        (2 :: [1, 1] ++ [0] : List Byte).foldl (· + ·) 0#8 ≠ 0#8) ∧
      (receiving []).link.receiver ≠ none := by decide

theorem witness_ByteReceivedGapExpiryAndTransmitEnd_wholeFrame :
    (receiving [4, 9, 0x71, 0x2C, 1]).link.receiver = some ((4 : Byte) :: 9 :: 0x71 :: [0x2C, 1]) ∧
      (4#8).toNat ≤ ([0x2C, 1] : List Byte).length + 2 ∧
      ((4 : Byte) :: 9 :: 0x71 :: [0x2C, 1] ++ [0x55]).foldl (· + ·) 0#8 = 0#8 ∧
      (receiving [4, 9, 0x71, 0x2C, 1]).link.holder = none := by decide

theorem witness_FrameBytesRoundTrip :
    ({ tag := 1, kind := 0, body := List.replicate 248 0 } : Frame).body.length ≤ 248 ∧ base.link.receiver = none :=
  ⟨Nat.le_of_eq List.length_replicate, rfl⟩

/-- A reply waits behind a frame under way. -/
def busy (holder : Option Frame) : State :=
  let f : Frame := { tag := 5, kind := 0xF0, body := [0] }
  { base with link := { base.link with tx := .sendingNotice f, slot := some f, holder := holder } }

theorem witness_ByteReceivedGapExpiryAndTransmitEnd_holder :
    (busy none).link.tx ≠ .free ∧ (busy none).link.slot = some ⟨5, 0xF0, [0]⟩ ∧ (busy none).passDue = false ∧
      (busy none).handed = [] ∧ (busy none).link.holder = none ∧ (busy (some ⟨6, 1, []⟩)).link.holder ≠ none ∧
      (busy none).link.tx = .sendingNotice ⟨5, 0xF0, [0]⟩ := by decide

/-- A notice, or a reply, is under way, with a reply waiting or none. -/
def underWay (tx : Transmitter) (slot holder : Option Frame) (s : State) : State :=
  { s with link := { s.link with tx := tx, slot := slot, holder := holder } }

theorem witness_ByteReceivedGapExpiryAndTransmitEnd_end :
    let f : Frame := { tag := 5, kind := 0xF0, body := [0] }
    ∀ tx, tx = .sendingNotice f ∨ (tx = .sendingReply f ∧ ¬ (f.kind = 0x83#8 ∧ f.body = [0#8])) →
      (∀ slot holder s, (underWay tx slot holder s).link.tx = tx ∧ (underWay tx slot holder s).link.slot = slot ∧
        (underWay tx slot holder s).link.holder = holder) ∧
      (underWay tx none none base).passDue = false ∧ (underWay tx none none base).handed = [] ∧
      (underWay tx none none base).chosenLine = none ∧ (underWay tx none none candidates).chosenLine = some 42 := by
  rintro f tx (rfl | ⟨rfl, -⟩) <;> exact ⟨fun _ _ _ => ⟨rfl, rfl, rfl⟩, rfl, rfl, by decide, by decide⟩

theorem witness_LinkChecksAndBadKind :
    (base.unoccupied ∧ State.reset.unoccupied) ∧ base.handed = [] ∧ (1#8 : Byte) ≠ 0 ∧
      (0x7C#8).toNat ∉ requestCodes ∧ (0#8).toNat ∉ requestCodes ∧ (128#8).toNat ∉ requestCodes ∧
      (127#8).toNat ∉ requestCodes ∧
      (0x7B#8).toNat ∈ requestCodes ∧ lengthFits 0x7B 2 = false ∧ lengthFits 0x7B 1 = true ∧
      State.reset.part.condition = .testing ∧
      ({ base with part := { base.part with condition := .failed } } : State).part.condition = .failed ∧
      ¬ ((0x7B#8 : Byte) = 1 ∨ (0x7B#8 : Byte) = 2) ∧ (0x7B#8 : Byte) ≠ 3 :=
  ⟨⟨⟨rfl, rfl, rfl⟩, ⟨rfl, rfl, rfl⟩⟩, by decide⟩

theorem witness_HelloStatusAndRestart :
    State.reset.unoccupied ∧ State.reset.handed = [] ∧ (255#8 : Byte) ≠ 0 ∧ base.unoccupied ∧ base.handed = [] ∧
      base.part.condition ≠ .testing :=
  ⟨⟨rfl, rfl, rfl⟩, rfl, by decide, ⟨rfl, rfl, rfl⟩, rfl, by decide⟩

theorem witness_ReadRequests :
    base.listening ∧ (1#8 : Byte) ≠ 0 ∧ (7#8).toNat = (7 : AxisId).val ∧ (15#8).toNat ≤ 15 ∧ 1 ≤ (8#8).toNat ∧
      (8#8).toNat ≤ 8 ∧ (127#8).toNat = (127 : CueId).val ∧ base.part.failure.getLsbD 0 = false ∧
      (3#8).toNat = (3 : SceneId).val ∧ (31#8).toNat = (31 : Fin 32).val ∧ (32#8).toNat ≤ 32 ∧
      base.part.available.lamps = true ∧ ([7, 0] : List Byte).Nodup ∧ ∀ b ∈ ([7, 0] : List Byte), b.toNat < 8 :=
  ⟨base_listening, by decide⟩

theorem witness_ReadRequests_refused :
    let s : State :=
      { base with part := { base.part with failure := 0x0B, available := ⟨true, false, false, true⟩ } }
    s.listening ∧ s.part.failure.getLsbD 0 = true ∧ s.part.available.lamps = false ∧
      s.part.available.scanner = false ∧ (127#8).toNat < 128 ∧ (0#8 : Byte) ≠ 0x80 ∧ (31#8).toNat < 32 ∧
      ¬ ([7, 7] : List Byte).Nodup ∧ (∃ b ∈ ([0, 8] : List Byte), 8 ≤ b.toNat) ∧
      1 ≤ ([0, 8] : List Byte).length ∧ ([0, 8] : List Byte).length ≤ 8 :=
  ⟨⟨⟨rfl, rfl, rfl, rfl⟩, rfl⟩, by decide⟩

theorem witness_OutOfRangeIsBadValue :
    base.listening ∧ (1#8 : Byte) ≠ 0 ∧ 8 ≤ (8#8).toNat ∧ 16 ≤ (16#8).toNat ∧ 128 ≤ (128#8).toNat ∧ 43 ≤ (43#8).toNat ∧
      4 ≤ (4#8).toNat ∧ (4#8 : Byte) ≠ 0x80 ∧ 32 ≤ (32#8).toNat ∧ 1 ≤ ([0#8] : List Byte).length ∧
      ([0#8] : List Byte).length ≤ 32 ∧ lengthFits 0x30 (3 + ([0#8] : List Byte).length) = true ∧
      cueLengthFits 5 [0#8] = true := ⟨base_listening, by decide⟩

theorem witness_OutOfRangeIsBadValue_fields :
    (2 ≤ (2#8).toNat ∧ 5 ≤ (5#8).toNat ∧ (8 ≤ (8#8).toNat ∧ (8#8 : Byte) ≠ 0xFF) ∧ (99#16).toNat < 100 ∧
        10000 < (10001#16).toNat ∧ (¬ ((0#8 : Byte) = 0xFF ∧ (0xFF#8 : Byte) = 0xFF) ∧ 32 ≤ (0xFF#8).toNat)) ∧
      (6000 < (6001#16).toNat ∧ 600 < (601#16).toNat) ∧
      (lengthFits 0x30#8 (3 + ([] : List Byte).length) = true ∧ lengthFits 0x30#8 (3 + 14) = true ∧
        6 ≤ (6#8).toNat ∧ (128 ≤ (128#8).toNat ∧ (128#8 : Byte) ≠ 0xFF) ∧
        (List.replicate 10 0#8 ++ [3])[10]? = some (3#8 : Byte) ∧ 60000 < (0x61#8).toNat + 256 * (0xEA#8).toNat ∧
        4 ≤ (4#8).toNat) ∧
      (8 < (9#8).toNat ∧ 128 < (127#8).toNat + (2#8).toNat ∧ 63 < (64#8).toNat ∧ 4 ≤ (4#8).toNat ∧ 1000 < (1001#16).toNat ∧
        (9#8 : Byte) ≠ 8 ∧ 3 < (4#8).toNat ∧ 1023 < (1024#16).toNat ∧ 15 < (16#8).toNat ∧ 32 < (33#8).toNat ∧
        7 < (8#8).toNat) ∧
      (let s : State := { base with part := { base.part with failure := 1 } }
       s.part.failure.getLsbD 0 = true ∧ (1#8 : Byte) ≠ 0 ∧ (127#8).toNat + (1#8).toNat ≤ 128) ∧
      isLeader 2 = true ∧ paired.paired 2 = true := by decide

end Sys2Proof.Tests
end

section
/-! PROOFS. The reset values of the tables, and the cold reset that leaves them. -/

namespace Sys2Proof.Machine

/-! ### Records of a reset part -/

/-- Every entry of a filled vector is what it was filled with. -/
theorem vector_get_replicate {α : Type} {n : Nat} (a : α) (i : Fin n) : (Vector.replicate n a).get i = a :=
  Vector.getElem_replicate i.isLt

@[simp] theorem reset_button (b : ButtonId) : State.reset.button b = Button.reset := vector_get_replicate _ b
@[simp] theorem reset_station (st : StationId) : State.reset.station st = Station.reset := vector_get_replicate _ st
@[simp] theorem reset_cue (i : CueId) : State.reset.cue i = CueEntry.reset := vector_get_replicate _ i
@[simp] theorem reset_axis (x : AxisId) : State.reset.axis x = Axis.reset := vector_get_replicate _ x
@[simp] theorem reset_pair (x : AxisId) : State.reset.pair x = PairCtx.reset := vector_get_replicate _ (pairIndex x)
@[simp] theorem reset_channel (c : ChannelId) : State.reset.channel c = Channel.reset := vector_get_replicate _ c

/-- Every scene of a reset part is dark (R159). -/
@[simp] theorem reset_column (n : SceneId) (c : Fin 32) : State.reset.column n c = 0#8 := by
  show ((Vector.replicate 4 darkScene).get n).get c = 0#8
  rw [vector_get_replicate]
  exact vector_get_replicate _ c

/-- The lines of a reset part: line 42 alone is enabled, at level 7 (R169). -/
theorem reset_line (l : LineId) :
    State.reset.line l = { Line.reset with enable := decide (l = 42), level := if l = 42 then 7 else 1 } := by
  show resetLines.get l = _
  by_cases h : l = 42
  · subst h
    exact vector_get_set_self _ 42 _
  · calc resetLines.get l = (Vector.replicate 43 Line.reset).get l := vector_get_set_ne _ 42 l _ (Ne.symm h)
      _ = Line.reset := vector_get_replicate _ l
      _ = _ := by simp [h, Line.reset]

/-- A DISARMED axis of a reset part draws nothing (R58). -/
theorem reset_totalAllocation : State.reset.totalAllocation = 0 := by
  have draws : ∀ x, State.reset.allocation x = 0 := by
    intro x
    simp [State.allocation, State.paired, State.rehearses, State.mode, Axis.reset, AxisConfig.reset, Axis.ownDraw]
  simp [State.totalAllocation, allAxes, draws]

/-- Settles O14. -/
theorem resetAndColdReset : Obligations.ResetAndColdReset := by
  refine ⟨⟨reset_button, rfl, reset_station, reset_cue, reset_axis, rfl, reset_totalAllocation, reset_pair, rfl,
    reset_channel, rfl, rfl, reset_column, rfl, rfl, rfl, rfl, rfl, reset_line, rfl, rfl, rfl⟩, ?_⟩
  exact fun s => rfl

end Sys2Proof.Machine
end

section
/-! PROOFS. The button unit's events: settle, press, hold, stuck and release, and the records that an ACK button chooses. -/

namespace Sys2Proof.Machine

variable {s : State}

/-! ### The end of an event -/

/-- An event that can happen leaves its own change, with what the end of an event brings (R104, R175, R172). -/
theorem eventWhen_outcome {c : Bool} {g : State → State} (h : c = true) :
    s.eventWhen c g = .next (s.eventOutcome (g s)) := by
  subst h
  rfl

/-- A part in service takes arrivals (R169). -/
theorem serving_of_inService (h : s.part.condition = .inService) : s.serving = true := by
  simp [State.serving, h]

/-! ### Writing a button -/

/-- The later of two writes of one button stands. -/
@[simp] theorem State.putButton_putButton (b : ButtonId) (r r' : Button) :
    (s.putButton b r).putButton b r' = s.putButton b r' := by
  simp [State.putButton]

/-- Bringing the held time up rewrites the record with it. -/
@[simp] theorem State.holdFor_button (b : ButtonId) (n : Nat) :
    (s.holdFor b n).button b = { s.button b with heldTime := max (s.button b).heldTime n } := by
  simp [State.holdFor]

@[simp] theorem State.holdFor_buttonTiming (b : ButtonId) (n : Nat) : (s.holdFor b n).buttonTiming = s.buttonTiming := rfl

/-! ### The comparisons of the held time (R6) -/

/-- A PRESSED button between its threshold and the stuck limit becomes HELD. -/
theorem compareHeld_hold {b : ButtonId} (hs : (s.button b).state = .pressed)
    (hh : (s.button b).holdThreshold ≤ (s.button b).heldTime)
    (hl : (s.button b).heldTime < s.buttonTiming.stuckLimit * 1000) : s.compareHeld b = s.enterHeld b := by
  unfold State.compareHeld
  simp [hs, hh, hl]

/-- A PRESSED or HELD button at the stuck limit becomes STUCK. -/
theorem compareHeld_stuck {b : ButtonId} (hs : (s.button b).state = .pressed ∨ (s.button b).state = .held)
    (hl : s.buttonTiming.stuckLimit * 1000 ≤ (s.button b).heldTime) : s.compareHeld b = s.enterStuck b := by
  unfold State.compareHeld
  rcases hs with hs | hs <;> simp [hs, hl]

/-- A button that becomes STUCK with a held time that was brought up to it (R7). -/
theorem enterStuck_held (b : ButtonId) (n : Nat) :
    (s.putButton b { s.button b with heldTime := n }).enterStuck b =
      (let u := s.putButton b { s.button b with heldTime := n }
       let p := (u.putButton b { s.button b with heldTime := n, state := .stuck }).post (buttonLine b) .stuck
       let q := (p.raise .stuckButton .call b.val (s.button b).station).1
       if (s.button b).role = .roleHold then u.demandAfter q b else q) := by
  unfold State.enterStuck
  simp only [State.putButton_button_self, Button.alertStation]

/-- A button that becomes HELD with a held time that was brought up to it (R6, R13). -/
theorem enterHeld_held (b : ButtonId) (n : Nat) :
    (s.putButton b { s.button b with heldTime := n }).enterHeld b =
      (let p := (s.putButton b { s.button b with heldTime := n, state := .held }).post (buttonLine b) .hold
       if (s.button b).role = .roleAck then p.ackHold (s.button b).station else p) := by
  unfold State.enterHeld
  simp only [State.putButton_button_self, State.putButton_putButton]

/-! ### The four events -/

theorem exec_buttonSettle (b : ButtonId) (closed : Bool) (hc : s.part.condition = .inService)
    (hl : (s.button b).level = none) :
    exec (.buttonSettle b closed) s =
      .next (s.eventOutcome ((s.setButtonPin b (contactOf closed)).buttonSettle b (contactOf closed))) :=
  eventWhen_outcome (by simp [serving_of_inService hc, hl])

theorem exec_buttonPress (b : ButtonId) (hc : s.part.condition = .inService)
    (hs : (s.button b).state = .released) (hl : (s.button b).level = some .opened) :
    exec (.buttonPress b) s = .next (s.eventOutcome ((s.setButtonPin b .closed).buttonPress b)) :=
  eventWhen_outcome (by simp [serving_of_inService hc, hs, hl])

theorem exec_buttonHold (b : ButtonId) (hc : s.part.condition = .inService) (hs : (s.button b).state = .pressed) :
    exec (.buttonHold b) s = .next (s.eventOutcome ((s.holdFor b (s.button b).holdThreshold).compareHeld b)) :=
  eventWhen_outcome (by simp [serving_of_inService hc, hs])

theorem exec_buttonStuck (b : ButtonId) (hc : s.part.condition = .inService)
    (hs : (s.button b).state = .pressed ∨ (s.button b).state = .held) :
    exec (.buttonStuck b) s =
      .next (s.eventOutcome ((s.holdFor b (s.buttonTiming.stuckLimit * 1000)).compareHeld b)) :=
  eventWhen_outcome (by simpa [serving_of_inService hc] using hs)

theorem exec_buttonRelease (b : ButtonId) (hc : s.part.condition = .inService) (hs : (s.button b).state ≠ .released) :
    exec (.buttonRelease b) s = .next (s.eventOutcome ((s.setButtonPin b .opened).buttonRelease b)) :=
  eventWhen_outcome (by simp [serving_of_inService hc, hs])

/-- What the release of a button that is not RELEASED comes to, by its state and role (R8, R12). -/
theorem buttonRelease_eq (u : State) (b : ButtonId) (hs : (u.button b).state ≠ .released) :
    u.buttonRelease b =
      (let p := (u.putButton b { u.button b with level := some .opened, count := 0, state := .released, heldTime := 0 }).post
        (buttonLine b) .release
       if (u.button b).state = .stuck then p.clearCondition .stuckButton b.val (u.button b).station
       else if (u.button b).role = .roleHold then u.demandAfter p b else p) := by
  unfold State.buttonRelease
  cases h : (u.button b).state with
  | released => exact absurd h hs
  | pressed => simp [h]
  | held => simp [h]
  | stuck => simp [h, Button.alertStation]

/-- Settles O20. -/
theorem buttonSettleReleaseHoldAndStuck : Obligations.ButtonSettleReleaseHoldAndStuck := by
  refine ⟨?settle, ?release, ?hold, ?stuck⟩
  case settle =>
    intro b closed s hc hl
    rw [exec_buttonSettle b closed hc hl]
    cases closed <;> rfl
  case release =>
    intro b s hc hs
    rw [exec_buttonRelease b hc hs]
    exact congrArg _ (congrArg _ (buttonRelease_eq (s.setButtonPin b .opened) b hs))
  case hold =>
    intro b s hc hs held p
    constructor
    · intro hlt
      rw [exec_buttonHold b hc hs, compareHeld_hold (by simpa using hs) (by simp) (by simpa only [State.holdFor_button, State.holdFor_buttonTiming] using hlt)]
      exact congrArg _ (congrArg _ (enterHeld_held b held))
    · intro hle
      rw [exec_buttonHold b hc hs, compareHeld_stuck (by simp [hs]) (by simpa only [State.holdFor_button, State.holdFor_buttonTiming] using hle)]
      rfl
  case stuck =>
    intro b s hc hs
    rw [exec_buttonStuck b hc hs, compareHeld_stuck (by simpa using hs) (by simp [State.holdFor])]
    exact congrArg _ (congrArg _ (enterStuck_held b _))

end Sys2Proof.Machine
end

section
/-! PROOFS. A press and its role's action: the axes that a start and a demand press choose, and the records that an ACK button chooses. -/

namespace Sys2Proof.Machine

variable {s : State}

/-! ### The axes that a start and a demand press choose (R24, R11, R112) -/

theorem startSelects_iff {st : StationId} {x : AxisId} :
    s.startSelects st x = true ↔
      (s.axis x).cfg.station = some st ∧ (s.axis x).state = .armed ∧ (s.mode x = .single ∨ s.mode x = .block) ∧
        (s.paired x = true → isLeader x = true ∧ (s.axis (followerOf x)).state = .armed) := by
  cases h : s.paired x <;> simp [State.startSelects, State.isMember, h, and_assoc]

theorem demandSelects_iff {st : StationId} {x : AxisId} :
    s.demandSelects st x = true ↔
      (s.axis x).cfg.station = some st ∧ (s.axis x).state = .armed ∧ s.mode x = .demand := by
  simp [State.demandSelects, State.isMember, and_assoc]

/-- A Boolean test and the proposition that it decides choose the same entries of a list. -/
theorem filter_decide {α : Type} {p : α → Bool} {q : α → Prop} [DecidablePred q] (h : ∀ x, p x = true ↔ q x)
    (l : List α) : l.filter p = l.filter fun x => q x :=
  List.filter_congr fun x _ => by rw [Bool.eq_iff_iff, h, decide_eq_true_iff]

/-! ### Starts and demand presses (R11, R24, R25) -/

/-- A start is taken in READY when it selects an axis, and refused otherwise (R24, R25). -/
theorem startStation_eq (st : StationId) :
    s.startStation st =
      if (s.station st).state = .ready ∧ allAxes.filter (s.startSelects st) ≠ [] then
        (((s.enterShowing st).triggerAll (allAxes.filter (s.startSelects st))).testActivity st, true)
      else (s.refuseStart st, false) := by
  unfold State.startStation
  simp only [Bool.not_eq_true', List.isEmpty_eq_false_iff]

theorem demandPress_ready {st : StationId} (hr : (s.station st).state = .ready)
    (hc : allAxes.filter (s.demandSelects st) ≠ []) :
    s.demandPress st =
      (((s.enterShowing st).triggerAll (allAxes.filter (s.demandSelects st))).testActivity st, true) := by
  unfold State.demandPress
  rw [hr]
  exact if_neg (by simpa using hc)

theorem demandPress_none {st : StationId} (hr : (s.station st).state = .ready)
    (hc : allAxes.filter (s.demandSelects st) = []) : s.demandPress st = (s.refuseStart st, false) := by
  unfold State.demandPress
  rw [hr]
  exact if_pos (by simpa using hc)

theorem demandPress_showing {st : StationId} (hs : (s.station st).state = .showing) :
    s.demandPress st = ((s.triggerAll (allAxes.filter (s.demandSelects st))).testActivity st, true) := by
  unfold State.demandPress
  rw [hs]

theorem demandPress_elsewhere {st : StationId} (hr : (s.station st).state ≠ .ready)
    (hs : (s.station st).state ≠ .showing) : s.demandPress st = (s.refuseStart st, false) := by
  unfold State.demandPress
  cases h : (s.station st).state with
  | ready => exact absurd h hr
  | showing => exact absurd h hs
  | offline => rfl
  | resting => rfl
  | locked => rfl

/-! ### The role's action (R5, R10 to R14) -/

section
variable {u : State} {b : ButtonId} {st : StationId}

theorem pressAction_none (hr : (s.button b).role = .roleNone) : u.pressAction s b = s := by
  simp [State.pressAction, hr]

theorem pressAction_show (hr : (s.button b).role = .roleShow) (hs : (s.button b).station = some st) :
    u.pressAction s b =
      if (s.station st).state = .ready ∧ allAxes.filter (s.startSelects st) ≠ [] then
        ((s.enterShowing st).triggerAll (allAxes.filter (s.startSelects st))).testActivity st
      else (s.refuseStart st).post (buttonLine b) .buttonRefused := by
  simp only [State.pressAction, hr, hs, startStation_eq]
  split <;> rfl

theorem pressAction_hold (hr : (s.button b).role = .roleHold) (hs : (s.button b).station = some st) :
    u.pressAction s b =
      if ((u.demandAfter s b).demandPress st).2 then ((u.demandAfter s b).demandPress st).1
      else ((u.demandAfter s b).demandPress st).1.post (buttonLine b) .buttonRefused := by
  simp [State.pressAction, hr, hs]

theorem pressAction_ack (hr : (s.button b).role = .roleAck) : u.pressAction s b = s.ackPress (s.button b).station := by
  simp [State.pressAction, hr]

theorem pressAction_stop (hr : (s.button b).role = .roleStop) :
    u.pressAction s b = (stationsOf (s.button b).station).foldl (fun t st => t.stopStation st) s := by
  simp [State.pressAction, hr]

end

/-! ### The records that an ACK button chooses (R13, R149) -/

theorem inScope_iff {r : Alert} {scope : Option StationId} :
    r.inScope scope = true ↔ scope = none ∨ r.station = none ∨ r.station = scope := by
  simp [Alert.inScope, or_assoc]

/-- A RAISED record in the scope of an ACK button. -/
def Alert.answerable (r : Alert) (scope : Option StationId) : Bool := !r.acked && r.inScope scope

theorem answerable_iff {r : Alert} {scope : Option StationId} :
    r.answerable scope = true ↔ r.acked = false ∧ (scope = none ∨ r.station = none ∨ r.station = scope) := by
  simp [Alert.answerable, inScope_iff]

/-- The ACK choice looks for each severity in turn, the highest first. -/
theorem ackChoice_eq (scope : Option StationId) :
    s.ackChoice scope =
      (s.alerts.records.find? fun r => r.answerable scope && r.severity = .lockout).or
        ((s.alerts.records.find? fun r => r.answerable scope && r.severity = .call).or
          (s.alerts.records.find? fun r => r.answerable scope && r.severity = .note)) := by
  simp [State.ackChoice, List.find?_filter, Alert.answerable]

/-- No record of a severity is found exactly when no answerable record has it. -/
theorem find_severity_none {rs : List Alert} {scope : Option StationId} {sev : Severity} :
    (rs.find? fun r => r.answerable scope && r.severity = sev) = none ↔
      ∀ r ∈ rs, r.answerable scope = true → r.severity ≠ sev := by
  simp

/-- With no answerable record there is no choice (R13). -/
theorem ackChoice_none_iff {scope : Option StationId} :
    s.ackChoice scope = none ↔ ∀ r ∈ s.alerts.records, r.answerable scope = false := by
  rw [ackChoice_eq, Option.or_eq_none_iff, Option.or_eq_none_iff, find_severity_none, find_severity_none,
    find_severity_none]
  constructor
  · rintro ⟨hl, hc, hn⟩ r hr
    by_contra ha
    have ha : r.answerable scope = true := by simpa using ha
    cases hs : r.severity with
    | note => exact hn r hr ha hs
    | call => exact hc r hr ha hs
    | lockout => exact hl r hr ha hs
  · intro h
    simp +contextual [h]

/-- The record found for a severity is the oldest answerable one that has it; the severities above it have none. -/
theorem chosen_place {rs : List Alert} {scope : Option StationId} {r : Alert} {sev : Severity}
    (hf : (rs.find? fun q => q.answerable scope && q.severity = sev) = some r)
    (hmax : ∀ q ∈ rs, q.answerable scope = true → severityCode q.severity ≤ severityCode sev) :
    ∃ older newer, rs = older ++ r :: newer ∧ r.answerable scope = true ∧
      (∀ q ∈ older, q.answerable scope = true → severityCode q.severity < severityCode r.severity) ∧
      ∀ q ∈ newer, q.answerable scope = true → severityCode q.severity ≤ severityCode r.severity := by
  obtain ⟨hr, older, newer, rfl, holder⟩ := List.find?_eq_some_iff_append.1 hf
  obtain ⟨ha, rfl⟩ : r.answerable scope = true ∧ r.severity = sev := by simpa using hr
  refine ⟨older, newer, rfl, ha, fun q hq hqa => ?_, fun q hq hqa => hmax q (by simp [hq]) hqa⟩
  have hle := hmax q (by simp [hq]) hqa
  have hne : q.severity ≠ r.severity := by simpa [hqa] using holder q hq
  revert hle hne
  cases q.severity <;> cases r.severity <;> simp [severityCode]

/-- An ACK press chooses the oldest answerable record of the highest severity (R13). -/
theorem ackChoice_place {scope : Option StationId} {r : Alert} (h : s.ackChoice scope = some r) :
    ∃ older newer, s.alerts.records = older ++ r :: newer ∧ r.answerable scope = true ∧
      (∀ q ∈ older, q.answerable scope = true → severityCode q.severity < severityCode r.severity) ∧
      ∀ q ∈ newer, q.answerable scope = true → severityCode q.severity ≤ severityCode r.severity := by
  rw [ackChoice_eq, Option.or_eq_some_iff, Option.or_eq_some_iff] at h
  rcases h with hl | ⟨nl, hc | ⟨nc, hn⟩⟩
  · refine chosen_place hl fun q _ _ => ?_
    cases q.severity <;> simp [severityCode]
  · refine chosen_place hc fun q hq ha => ?_
    have := find_severity_none.1 nl q hq ha
    cases hs : q.severity <;> simp_all [severityCode]
  · refine chosen_place hn fun q hq ha => ?_
    have := find_severity_none.1 nl q hq ha
    have := find_severity_none.1 nc q hq ha
    cases hs : q.severity <;> simp_all [severityCode]

/-- An ACKNOWLEDGED record in scope that is of no condition kind (R149). -/
theorem clearable_iff {r : Alert} {scope : Option StationId} :
    (r.acked && !r.kind.isCondition && r.inScope scope) = true ↔
      r.acked = true ∧ r.kind ≠ .stuckButton ∧ r.kind ≠ .stopLine ∧
        (scope = none ∨ r.station = none ∨ r.station = scope) := by
  rw [Bool.and_eq_true, Bool.and_eq_true, inScope_iff]
  cases r.kind <;> simp [AlertKind.isCondition]

/-- An ACK hold removes the record that its search finds (R149). -/
theorem ackHold_found {scope : Option StationId} {r : Alert}
    (h : (s.alerts.records.find? fun q => q.acked && !q.kind.isCondition && q.inScope scope) = some r) :
    s.ackHold scope = s.removeRecord r := by
  unfold State.ackHold
  rw [h]

theorem ackHold_none {scope : Option StationId}
    (h : (s.alerts.records.find? fun q => q.acked && !q.kind.isCondition && q.inScope scope) = none) :
    s.ackHold scope = s := by
  unfold State.ackHold
  rw [h]

/-! ### The press of each role -/

/-- A press, before its role's action (R5). -/
def State.pressed (s : State) (b : ButtonId) : State :=
  ((s.setButtonPin b .closed).putButton b
    { s.button b with level := some .closed, count := 0, state := .pressed, heldTime := 0 }).post (buttonLine b) .press

theorem pressed_role (b : ButtonId) : ((s.pressed b).button b).role = (s.button b).role := by
  simp [State.pressed]

theorem pressed_station (b : ButtonId) : ((s.pressed b).button b).station = (s.button b).station := by
  simp [State.pressed]

/-- A debounced close comes to its press and its role's action (R5). -/
theorem exec_buttonPress_action (b : ButtonId) (hc : s.part.condition = .inService)
    (hs : (s.button b).state = .released) (hl : (s.button b).level = some .opened) :
    exec (.buttonPress b) s =
      .next (s.eventOutcome ((s.setButtonPin b .closed).pressAction (s.pressed b) b)) :=
  exec_buttonPress b hc hs hl

/-- Settles O21. -/
theorem buttonPressTakesItsRole : Obligations.ButtonPressTakesItsRole := by
  constructor
  · intro b s hc hs hl u p refusal shown triggered
    have action := exec_buttonPress_action b hc hs hl
    refine ⟨?none, ?shows, ?holds, ?ack, ?stop, ?stopAll⟩
    case none =>
      intro hr
      rw [action, pressAction_none (by rw [pressed_role, hr])]
      rfl
    case shows =>
      intro st hr hst chosen
      rw [action, pressAction_show (by rw [pressed_role, hr]) (by rw [pressed_station, hst])]
      have hchosen : allAxes.filter ((s.pressed b).startSelects st) = chosen :=
        filter_decide (fun x => startSelects_iff) allAxes
      rw [hchosen]
      rfl
    case holds =>
      intro st hr hst q chosen
      rw [action, pressAction_hold (by rw [pressed_role, hr]) (by rw [pressed_station, hst])]
      have hq : (s.setButtonPin b .closed).demandAfter (s.pressed b) b = q := rfl
      rw [hq]
      have hchosen : allAxes.filter (q.demandSelects st) = chosen :=
        filter_decide (fun x => demandSelects_iff) allAxes
      refine ⟨fun hr hc => ?_, fun hr hc => ?_, fun hsh => ?_, fun hr hsh => ?_⟩
      · rw [demandPress_ready hr (by rw [hchosen]; exact hc), hchosen]
        rfl
      · rw [demandPress_none hr (by rw [hchosen]; exact hc)]
        rfl
      · rw [demandPress_showing hsh, hchosen]
        rfl
      · rw [demandPress_elsewhere hr hsh]
        rfl
    case ack =>
      intro hr
      rw [action, pressAction_ack (by rw [pressed_role, hr]), pressed_station]
      rfl
    case stop =>
      intro st hr hst
      rw [action, pressAction_stop (by rw [pressed_role, hr]), pressed_station, hst]
      rfl
    case stopAll =>
      intro hr hst
      rw [action, pressAction_stop (by rw [pressed_role, hr]), pressed_station, hst]
      rfl
  · intro s scope mine clearable
    refine ⟨?_, fun r h => ?_, fun older r newer hrs hr holder => ?_, fun h => ?_⟩
    · rw [ackChoice_none_iff]
      refine forall₂_congr fun r _ => ?_
      rw [← Bool.not_eq_true, answerable_iff, not_and]
    · obtain ⟨older, newer, hrs, ha, hold, hnew⟩ := ackChoice_place h
      obtain ⟨hraised, hmine⟩ := answerable_iff.1 ha
      exact ⟨older, newer, hrs, hraised, hmine, fun q hq h1 h2 => hold q hq (answerable_iff.2 ⟨h1, h2⟩),
        fun q hq h1 h2 => hnew q hq (answerable_iff.2 ⟨h1, h2⟩)⟩
    · refine ackHold_found (List.find?_eq_some_iff_append.2 ⟨clearable_iff.2 hr, older, newer, hrs, fun q hq => ?_⟩)
      rw [Bool.not_eq_true', ← Bool.not_eq_true, clearable_iff]
      exact holder q hq
    · refine ackHold_none (List.find?_eq_none.2 fun q hq => ?_)
      rw [clearable_iff]
      exact h q hq

end Sys2Proof.Machine
end

section
/-! PROOFS. The settings of buttons, stations, escalation and notices: ranges, and the cells that records claim. -/

namespace Sys2Proof.Machine

variable {s : State}

/-! ### A request that touches no axis -/

/-- A request that leaves the axes, the pair contexts and the marks of the event's end as they were leaves its own change, with its
reply. -/
theorem requestOutcome_reply (h : s.listening) {t : State} {tag kind : Byte} {st : Status} {fields : List Byte}
    (hp : t.passDue = s.passDue) (hh : t.handed = s.handed) (ha : t.axes = s.axes) (hq : t.pairs = s.pairs) :
    s.requestOutcome t tag kind (replyBody st fields) = t.reply tag kind st fields := by
  obtain ⟨⟨-, -, -, hpass⟩, hhanded⟩ := h
  exact requestOutcome_quiet (hp.trans hpass) (hh.trans hhanded) ha hq

/-- A request that changes nothing leaves its reply. -/
theorem requestOutcome_self (h : s.listening) {tag kind : Byte} {st : Status} {fields : List Byte} :
    s.requestOutcome s tag kind (replyBody st fields) = s.reply tag kind st fields :=
  requestOutcome_reply h rfl rfl rfl rfl

/-! ### Ranges and cells -/

theorem inRange_mem {low high n : Nat} (h1 : low ≤ n) (h2 : n ≤ high) : inRange low high n = some n := if_pos ⟨h1, h2⟩

theorem inRange_not_mem {low high n : Nat} (h : ¬ (low ≤ n ∧ n ≤ high)) : inRange low high n = none := if_neg h

theorem mem_allButtons (b : ButtonId) : b ∈ allButtons := by revert b; decide
theorem mem_allStations (st : StationId) : st ∈ allStations := by revert st; decide
theorem mem_allAxes (x : AxisId) : x ∈ allAxes := by revert x; decide

theorem claimedByButton_iff {c : Cell} {b : Option ButtonId} :
    s.claimedByButton c b = true ↔ ∃ i, some i ≠ b ∧ (s.button i).cell = some c := by
  simp [State.claimedByButton, mem_allButtons]

theorem claimedByStation_iff {c : Cell} {st : Option StationId} :
    s.claimedByStation c st = true ↔ ∃ i, some i ≠ st ∧ (s.station i).cell = some c := by
  simp [State.claimedByStation, mem_allStations]

/-- A cell that a record asks for is claimed by another record (R15, R36); `b` and `st` are the records that do not count. -/
def State.cellTaken (s : State) (cell : Option Cell) (b : Option ButtonId) (st : Option StationId) : Bool :=
  match cell with
  | none => false
  | some c => s.claimedByButton c b || s.claimedByStation c st

theorem cellTaken_iff {cell : Option Cell} {b : Option ButtonId} {st : Option StationId} :
    s.cellTaken cell b st = true ↔
      ∃ c, cell = some c ∧ ((∃ i, some i ≠ b ∧ (s.button i).cell = some c) ∨ ∃ i, some i ≠ st ∧ (s.station i).cell = some c) := by
  cases cell with
  | none => simp [State.cellTaken]
  | some c => simp [State.cellTaken, claimedByButton_iff, claimedByStation_iff]

/-! ### The requests -/

/-- A button's record after SET_BUTTON: a change of polarity unsettles it (R16, R4). -/
def Button.configured (r : Button) (pol : Polarity) (ro : Role) (st : Option StationId) (hold : Nat) (cell : Option Cell) :
    Button :=
  let r1 : Button := { r with polarity := pol, role := ro, station := st, holdThreshold := hold, cell := cell }
  if r.polarity = pol then r1 else { r1 with level := none, provisional := none, count := 0 }

/-- SET_BUTTON on fields that lie in their ranges (R16). -/
theorem reqSetButton_read {button polarity role station row column : Byte} {hold : Nat} {b : ButtonId} {pol : Polarity}
    {ro : Role} {st : Option StationId} {cell : Option Cell} (hb : button.toNat = b.val)
    (hp : polarityOf polarity = some pol) (hr : roleOf role = some ro) (hst : stationRefOf station = some st)
    (hc : cellOf row column = some cell) (h1 : 100 ≤ hold) (h2 : hold ≤ 10000) :
    reqSetButton button polarity role station hold row column s =
      if st = none ∧ (ro = .roleShow ∨ ro = .roleHold) then (s, replyBody .badValue)
      else if (s.button b).state ≠ .released then (s, replyBody .busy)
      else if s.cellTaken cell (some b) none then (s, replyBody .inUse)
      else (s.putButton b ((s.button b).configured pol ro st hold cell), replyBody .ok) := by
  unfold reqSetButton
  simp only [finOf_eq hb, hp, hr, hst, inRange_mem h1 h2, hc]
  cases cell <;> rfl

/-- SET_STATION on a station and a cell that are in their ranges (R38). -/
theorem reqSetStation_read {station row column : Byte} {rest idle : Nat} {st : StationId} {cell : Option Cell}
    (hst : station.toNat = st.val) (hc : cellOf row column = some cell) :
    reqSetStation station rest idle row column s =
      if 6000 < rest ∨ 600 < idle then (s, replyBody .badValue)
      else if s.cellTaken cell none (some st) then (s, replyBody .inUse)
      else (s.putStation st { s.station st with restTime := rest, idleLimit := idle, cell := cell }, replyBody .ok) := by
  unfold reqSetStation
  by_cases hr : 6000 < rest
  · rw [inRange_not_mem (by omega), if_pos (Or.inl hr), finOf_eq hst]
  have h1 : inRange 0 6000 rest = some rest := inRange_mem (by omega) (by omega)
  by_cases hi : 600 < idle
  · rw [h1, inRange_not_mem (n := idle) (by omega), if_pos (Or.inr hi), finOf_eq hst]
  have h2 : inRange 0 600 idle = some idle := inRange_mem (by omega) (by omega)
  rw [if_neg (show ¬ (6000 < rest ∨ 600 < idle) by omega)]
  simp only [finOf_eq hst, h1, h2, hc]
  cases cell <;> rfl

/-- SET_BUTTON_TIMING writes both settings when each lies in its range (R17). -/
theorem reqSetButtonTiming_eq (debounce : Byte) (stuck : Nat) :
    reqSetButtonTiming debounce stuck s =
      if 1 ≤ debounce.toNat ∧ debounce.toNat ≤ 50 ∧ 1 ≤ stuck ∧ stuck ≤ 600 then
        ({ s with buttonTiming := { debounce := debounce.toNat, stuckLimit := stuck } }, replyBody .ok)
      else (s, replyBody .badValue) := by
  unfold reqSetButtonTiming
  by_cases hd : 1 ≤ debounce.toNat ∧ debounce.toNat ≤ 50
  · by_cases hs : 1 ≤ stuck ∧ stuck ≤ 600
    · rw [inRange_mem hd.1 hd.2, inRange_mem hs.1 hs.2, if_pos (by omega)]
    · rw [inRange_mem hd.1 hd.2, inRange_not_mem hs, if_neg (by omega)]
  · rw [inRange_not_mem hd, if_neg (by omega)]

/-- SET_ESCALATION writes the three intervals when each lies in its range (R158). -/
theorem reqSetEscalation_eq (note call lockout : Nat) :
    reqSetEscalation note call lockout s =
      if 10 ≤ note ∧ note ≤ 3600 ∧ 10 ≤ call ∧ call ≤ 3600 ∧ 10 ≤ lockout ∧ lockout ≤ 3600 then
        ({ s with
            alerts := { s.alerts with noteInterval := note, callInterval := call, lockoutInterval := lockout } },
          replyBody .ok)
      else (s, replyBody .badValue) := by
  unfold reqSetEscalation
  by_cases hn : 10 ≤ note ∧ note ≤ 3600
  · by_cases hc : 10 ≤ call ∧ call ≤ 3600
    · by_cases hl : 10 ≤ lockout ∧ lockout ≤ 3600
      · rw [inRange_mem hn.1 hn.2, inRange_mem hc.1 hc.2, inRange_mem hl.1 hl.2, if_pos (by omega)]
      · rw [inRange_mem hn.1 hn.2, inRange_mem hc.1 hc.2, inRange_not_mem hl, if_neg (by omega)]
    · rw [inRange_mem hn.1 hn.2, inRange_not_mem hc, if_neg (by omega)]
  · rw [inRange_not_mem hn, if_neg (by omega)]

/-- SET_NOTICE_LEVEL writes a level of 0..7 (R178). -/
theorem reqSetNoticeLevel_eq (level : Byte) :
    reqSetNoticeLevel level s =
      if level.toNat ≤ 7 then ({ s with noticeLevel := level.toNat }, replyBody .ok) else (s, replyBody .badValue) := by
  unfold reqSetNoticeLevel inRange
  by_cases h : level.toNat ≤ 7 <;> simp [h]

/-- Settles O22. -/
theorem buttonStationAndOtherSettings : Obligations.ButtonStationAndOtherSettings := by
  refine ⟨?button, ?station, fun tag s h ht => ⟨?timing, ?escalation, ?notice⟩⟩
  case button =>
    intro tag button polarity role station hold row column s b pol ro st cell h ht hb hp hr hst hc h1 h2
    rw [exec_setButton h.1 ht, reqSetButton_read hb hp hr hst hc h1 h2]
    have taken := cellTaken_iff (s := s) (cell := cell) (b := some b) (st := none)
    simp only [ne_eq, Option.some.injEq, reduceCtorEq, not_false_eq_true, true_and] at taken
    simp only [← taken]
    split
    · rw [requestOutcome_self h]
    split
    · rw [requestOutcome_self h]
    split
    · rw [requestOutcome_self h]
    exact congrArg _ (requestOutcome_reply h rfl rfl rfl rfl)
  case station =>
    intro tag station rest idle row column s st cell h ht hst hc
    rw [exec_setStation h.1 ht, reqSetStation_read hst hc]
    have taken := cellTaken_iff (s := s) (cell := cell) (b := none) (st := some st)
    simp only [ne_eq, Option.some.injEq, reduceCtorEq, not_false_eq_true, true_and] at taken
    simp only [← taken]
    split
    · rw [requestOutcome_self h]
    split
    · rw [requestOutcome_self h]
    exact congrArg _ (requestOutcome_reply h rfl rfl rfl rfl)
  case timing =>
    intro debounce stuck
    rw [exec_setButtonTiming h.1 ht, reqSetButtonTiming_eq]
    split
    · exact congrArg _ (requestOutcome_reply h rfl rfl rfl rfl)
    · rw [requestOutcome_self h]
  case escalation =>
    intro note call lockout
    rw [exec_setEscalation h.1 ht, reqSetEscalation_eq]
    split
    · exact congrArg _ (requestOutcome_reply h rfl rfl rfl rfl)
    · rw [requestOutcome_self h]
  case notice =>
    intro level
    rw [exec_setNoticeLevel h.1 ht, reqSetNoticeLevel_eq]
    split
    · exact congrArg _ (requestOutcome_reply h rfl rfl rfl rfl)
    · rw [requestOutcome_self h]

end Sys2Proof.Machine
end

section
/-! PROOFS. The reads: what each reports of the part as it stands, and the flags and counts that two of them clear. -/

namespace Sys2Proof.Machine

variable {s : State} {tag : Byte}

/-! ### The shape of a read -/

/-- A read that changes nothing leaves its reply. -/
theorem read_reply (h : s.listening) {kind : Byte} {st : Status} {fields : List Byte} {r : State × List Byte}
    (hr : r = (s, replyBody st fields)) :
    (Host.Outcome.next (s.requestOutcome r.1 tag kind r.2) : Host.Outcome State Fault Refusal) =
      .next (s.reply tag kind st fields) := by
  subst hr
  rw [requestOutcome_self h]

/-! ### Runs of the tables -/

/-- The numbers below `k` that lie between two bounds. -/
theorem range_between_length (k a b : Nat) :
    ((List.range k).filter fun i => decide (a ≤ i ∧ i < b)).length = min b k - min a k := by
  induction k with
  | zero => simp
  | succ k ih =>
    rw [List.range_succ, List.filter_append, List.length_append, ih]
    by_cases hk : a ≤ k ∧ k < b
    · simp [hk]
      omega
    · simp [hk]
      omega

/-- The entries of a table of `k` whose numbers lie between two bounds. -/
theorem finRange_between_length (k a b : Nat) :
    ((List.finRange k).filter fun i => decide (a ≤ i.val ∧ i.val < b)).length = min b k - min a k := by
  rw [← range_between_length, ← List.map_coe_finRange_eq_range, List.filter_map, List.length_map]
  rfl

/-- A run of cue entries is cut at entry 127 (R54). -/
theorem cueRun_length (i : CueId) (n : Nat) : (cueRun i n).length = min n (128 - i.val) := by
  have hi := i.isLt
  rw [cueRun, finRange_between_length]
  omega

/-- A run of columns is cut at column 31 (R167). -/
theorem columnRun_length (c n : Nat) : (columnRun c n).length = min n (32 - c) := by
  have inside : ∀ k ∈ List.range (min n (32 - c)),
      (if h : c + k < 32 then some (⟨c + k, h⟩ : Fin 32) else none).isSome = true := by
    intro k hk
    have hk : k < min n (32 - c) := List.mem_range.1 hk
    rw [dif_pos (by omega)]
    rfl
  rw [columnRun, List.length_filterMap_eq_countP, List.countP_eq_length.2 inside, List.length_range]

/-- A sound cue table: item 0 passed at the last cold reset (R40). -/
theorem cueTableSound_eq {f : Bool} (h : s.part.failure.getLsbD 0 = f) : s.cueTableSound = !f := by
  rw [State.cueTableSound, h]

/-! ### What each read reports -/

theorem reqReadAxis_read {axis : Byte} {x : AxisId} (hx : axis.toNat = x.val) :
    reqReadAxis axis s = (s, replyBody .ok (s.axisBytes x)) := by
  unfold reqReadAxis
  rw [finOf_eq hx]

theorem reqReadAlerts_read {first count : Byte} (h1 : first.toNat ≤ 15) (h2 : 1 ≤ count.toNat) (h3 : count.toNat ≤ 8) :
    reqReadAlerts first count s = (s, replyBody .ok
      (byteOf s.alerts.records.length :: s.raisedBytes ++ le16 s.alerts.nextId ++ le16 s.alerts.noteInterval ++
        le16 s.alerts.callInterval ++ le16 s.alerts.lockoutInterval ++ s.patternBytes ++
        [byteOf (flagCode s.part.available.beacon),
          byteOf ((s.alerts.records.drop first.toNat).take count.toNat).length] ++
        ((s.alerts.records.drop first.toNat).take count.toNat).flatMap Alert.bytes)) := by
  unfold reqReadAlerts
  rw [inRange_mem (Nat.zero_le _) h1, inRange_mem h2 h3]

theorem reqReadCue_read {first count : Byte} {i : CueId} (hi : first.toNat = i.val) (h2 : 1 ≤ count.toNat)
    (h3 : count.toNat ≤ 8) :
    reqReadCue first count s =
      if s.part.failure.getLsbD 0 then (s, replyBody .fault)
      else (s, replyBody .ok (byteOf (min count.toNat (128 - i.val)) :: (cueRun i count.toNat).flatMap fun j =>
        byteOf (s.cue j).pins :: (s.cue j).bytes j)) := by
  unfold reqReadCue
  simp only [finOf_eq hi, inRange_mem h2 h3, cueRun_length, State.cueTableSound, Bool.not_not]

theorem reqValidateChain_fault {start : Byte} (hi : start.toNat < 128) (hf : s.part.failure.getLsbD 0 = true) :
    reqValidateChain start s = (s, replyBody .fault) := by
  unfold reqValidateChain
  simp [finOf_eq (x := ⟨start.toNat, hi⟩) rfl, cueTableSound_eq hf]

theorem reqValidateChain_error {start : Byte} {i : CueId} {f : ChainFault × CueId} (hi : start.toNat = i.val)
    (hf : s.part.failure.getLsbD 0 = false) (hw : s.walk i = .error f) :
    reqValidateChain start s = (s, chainFaultBody f) := by
  unfold reqValidateChain
  simp [finOf_eq hi, cueTableSound_eq hf, hw]

theorem reqValidateChain_ok {start : Byte} {i : CueId} {chain : List CueId} (hi : start.toNat = i.val)
    (hf : s.part.failure.getLsbD 0 = false) (hw : s.walk i = .ok chain) :
    reqValidateChain start s = (s, replyBody .ok
      ([byteOf chain.length, byteOf (chain.filter fun j => (s.cue j).body.isMotion).length] ++
        le32 (chain.map fun j => (s.cue j).body.stepSum).sum ++
        le32 (chain.map fun j => (s.cue j).body.dwellSum).sum)) := by
  unfold reqValidateChain
  simp [finOf_eq hi, cueTableSound_eq hf, hw, State.figures]

theorem reqReadLamps_read {source start count : Byte} {src : Option SceneId} {c : Fin 32} (hs : lampSourceOf source = some src)
    (hc : start.toNat = c.val) (h1 : 1 ≤ count.toNat) (h2 : count.toNat ≤ 32) :
    reqReadLamps source start count s =
      if s.part.available.lamps = false then (s, replyBody .fault)
      else (s, replyBody .ok
        ([byteOf (min count.toNat (32 - c.val)), byteOf s.lamps.display.val, byteOf (flagCode s.lamps.mirror)] ++
          (columnRun c.val count.toNat).map (src.elim s.composedColumn s.column))) := by
  unfold reqReadLamps
  simp only [hs, finOf_eq hc, inRange_mem h1 h2, columnRun_length, Bool.not_eq_true']
  cases src <;> rfl

theorem lampSourceOf_scene {source : Byte} {n : SceneId} (h : source.toNat = n.val) : lampSourceOf source = some (some n) := by
  unfold lampSourceOf
  have hn := n.isLt
  rw [if_neg (by rintro rfl; simp at h; omega), finOf_eq h]
  rfl

theorem lampSourceOf_output : lampSourceOf 0x80#8 = some none := rfl

/-! ### READ_STATION (R39) -/

/-- The report of a station (Table 12-7). -/
def State.stationReport (s : State) (st : StationId) : List Byte :=
  let r := s.station st
  le16 r.restTime ++ le16 r.idleLimit ++ cellCode r.cell ++ [byteOf (stationStateCode r.state)] ++
    le32 r.restRemaining ++ le32 r.idleTime ++ le16 r.shows ++ le16 r.refused ++
    [byteOf (flagByte [r.latch, s.lockoutStored st, s.buttonDemand st])] ++
    byteOf (s.members st).length ::
      (s.members st).flatMap (fun x => [byteOf x.val, byteOf (axisStateCode (s.axis x).state)]) ++
    byteOf (s.memberButtons st).length :: (s.memberButtons st).flatMap fun b =>
      [byteOf b.val, byteOf (roleCode (s.button b).role), byteOf (buttonStateCode (s.button b).state)]

theorem reqReadStation_keep {station : Byte} {st : StationId} (h : station.toNat = st.val) :
    reqReadStation station 0#8 s = (s, replyBody .ok (s.stationReport st)) := by
  unfold reqReadStation
  rw [finOf_eq h]
  rfl

theorem reqReadStation_clear {station : Byte} {st : StationId} (h : station.toNat = st.val) :
    reqReadStation station 1#8 s =
      (s.putStation st { s.station st with shows := 0, refused := 0 }, replyBody .ok (s.stationReport st)) := by
  unfold reqReadStation
  rw [finOf_eq h]
  rfl

/-! ### Index lists (R136) -/

/-- The bytes of a list name indices when their numbers are those of the indices. -/
theorem mapM_finOf_iff {n : Nat} : ∀ {bytes : List Byte} {xs : List (Fin n)},
    bytes.mapM (finOf n) = some xs ↔ bytes.map BitVec.toNat = xs.map Fin.val
  | [], xs => by cases xs <;> simp
  | b :: bytes, [] => by simp [List.mapM_cons, Option.bind_eq_some_iff]
  | b :: bytes, x :: xs => by
    have head : finOf n b = some x ↔ b.toNat = x.val := by
      unfold finOf
      split
      · simp [Fin.ext_iff]
      · simp
        omega
    simp [List.mapM_cons, Option.bind_eq_some_iff, mapM_finOf_iff, head]

/-- An index list is read when its bytes name indices and none twice. -/
theorem indexList_iff {n : Nat} {bytes : List Byte} {xs : List (Fin n)} :
    indexList n bytes = some xs ↔ bytes.map BitVec.toNat = xs.map Fin.val ∧ bytes.Nodup := by
  have nodup : bytes.map BitVec.toNat = xs.map Fin.val → (bytes.Nodup ↔ xs.Nodup) := fun h => by
    rw [← List.nodup_map_iff (BitVec.toNat_injective), h, List.nodup_map_iff Fin.val_injective]
  unfold indexList
  split
  next hnone =>
    simp only [reduceCtorEq, false_iff, not_and]
    intro h
    rw [mapM_finOf_iff.2 h] at hnone
    exact absurd hnone (by simp)
  next ys hys =>
    have hy := mapM_finOf_iff.1 hys
    constructor
    · intro h
      split at h
      next hn =>
        obtain rfl : ys = xs := by simpa using h
        exact ⟨hy, (nodup hy).2 hn⟩
      next => simp at h
    · rintro ⟨h, hn⟩
      obtain rfl : ys = xs := List.map_injective_iff.2 Fin.val_injective (hy.symm.trans h)
      rw [if_pos ((nodup h).1 hn)]

/-- Bytes below the bound, none twice, are read as the indices they name. -/
theorem indexList_read {bytes : List Byte} (hr : ∀ b ∈ bytes, b.toNat < 8) (hn : bytes.Nodup) :
    ∃ xs : List (Fin 8), indexList 8 bytes = some xs ∧ xs.map (fun x => byteOf x.val) = bytes := by
  have numbers : (bytes.pmap (fun b h => (⟨b.toNat, h⟩ : Fin 8)) hr).map Fin.val = bytes.map BitVec.toNat := by
    rw [List.map_pmap, List.pmap_eq_map]
  refine ⟨_, indexList_iff.2 ⟨numbers.symm, hn⟩, ?_⟩
  calc _ = ((bytes.pmap (fun b h => (⟨b.toNat, h⟩ : Fin 8)) hr).map Fin.val).map byteOf := by rw [List.map_map]; rfl
    _ = (bytes.map BitVec.toNat).map byteOf := by rw [numbers]
    _ = bytes := by simp [Function.comp_def, byteOf_byte]

/-- A byte beyond the bound, or one that stands twice, makes no index list. -/
theorem indexList_refused {bytes : List Byte} (h : (∃ b ∈ bytes, 8 ≤ b.toNat) ∨ ¬ bytes.Nodup) :
    indexList 8 bytes = none := by
  rw [Option.eq_none_iff_forall_ne_some]
  intro xs hxs
  obtain ⟨hmap, hn⟩ := indexList_iff.1 hxs
  rcases h with ⟨b, hb, h8⟩ | hdup
  · have hb' : b.toNat ∈ xs.map Fin.val := hmap ▸ List.mem_map_of_mem hb
    obtain ⟨x, -, hx⟩ := List.mem_map.1 hb'
    have := x.isLt
    omega
  · exact hdup hn

/-! ### READ_SENSE (R136) -/

/-- Clearing the flags touches the channel records alone. -/
theorem clearFresh_only (cs : List ChannelId) : s.clearFresh cs = { s with channels := (s.clearFresh cs).channels } := by
  unfold State.clearFresh
  induction cs generalizing s with
  | nil => rfl
  | cons c cs ih => rw [List.foldl_cons, ih]; rfl

/-- The flags of the named channels are clear, and every other record stands. -/
theorem clearFresh_channel (cs : List ChannelId) (c : ChannelId) :
    (s.clearFresh cs).channel c =
      if c ∈ cs then { s.channel c with fresh := false, overrun := false } else s.channel c := by
  unfold State.clearFresh
  induction cs generalizing s with
  | nil => simp
  | cons d cs ih =>
    rw [List.foldl_cons, ih]
    by_cases hd : d = c
    · subst hd
      simp
    · rw [State.putChannel_channel_ne _ hd]
      simp [Ne.symm hd]

theorem reqReadSense_read {channels : List Byte} {cs : List ChannelId} (h : indexList 8 channels = some cs) :
    reqReadSense channels s = (s.clearFresh cs, replyBody .ok
      (s.sensedScanner.bytes ++ byteOf cs.length :: cs.flatMap fun c => (s.sensedChannel c).bytes c)) := by
  unfold reqReadSense
  rw [h]

theorem reqReadSense_refused {channels : List Byte} (h : indexList 8 channels = none) :
    reqReadSense channels s = (s, replyBody .badValue) := by
  unfold reqReadSense
  rw [h]

/-- The nine bytes of a channel whose scanner is unavailable (R136). -/
theorem reset_channel_bytes (c : ChannelId) :
    Channel.reset.bytes c = [byteOf c.val, 0#8, 0#8, 0#8, 0#8, 0#8, 0#8, 0xFF#8, 0#8] := rfl

/-- The six bytes of a scanner that is unavailable (R136). -/
theorem reset_scanner_bytes : Scanner.reset.bytes = [0#8, 0xFF#8, 0#8, 0#8, 0#8, 0#8] := rfl

/-- Settles O59. -/
theorem readRequests : Obligations.ReadRequests := by
  refine ⟨fun tag s h ht => ⟨?buttons, ?axis, ?budget, ?alerts, ?events, ?cue, ?cueFault, ?lampFault, ?chain, ?lamps⟩,
    fun tag s h ht => ⟨?station, ?sense, ?senseRefused⟩⟩
  case buttons =>
    rw [exec_readButtons h.1 ht]
    exact read_reply h rfl
  case axis =>
    intro axis x hx a c
    rw [exec_readAxis h.1 ht]
    exact read_reply h (reqReadAxis_read hx)
  case budget =>
    rw [exec_readBudget h.1 ht]
    exact read_reply h rfl
  case alerts =>
    intro first count h1 h2 h3 part
    rw [exec_readAlerts h.1 ht]
    exact read_reply h (reqReadAlerts_read h1 h2 h3)
  case events =>
    intro flagged
    rw [exec_readEvents h.1 ht]
    exact read_reply h rfl
  case cue =>
    intro first count i hi h1 h2 hf
    rw [exec_readCue h.1 ht]
    exact read_reply h ((reqReadCue_read hi h1 h2).trans (by rw [hf]; rfl))
  case cueFault =>
    intro hf index count hi
    refine ⟨?_, fun h1 h2 => ?_⟩
    · rw [exec_validateChain h.1 ht]
      exact read_reply h (reqValidateChain_fault hi hf)
    · rw [exec_readCue h.1 ht]
      exact read_reply h ((reqReadCue_read (i := ⟨index.toNat, hi⟩) rfl h1 h2).trans (by rw [hf]; rfl))
  case lampFault =>
    intro source start count hs hc h1 h2 hl
    have source : ∃ src, lampSourceOf source = some src := by
      rcases hs with hs | rfl
      · exact ⟨_, lampSourceOf_scene (n := ⟨source.toNat, hs⟩) rfl⟩
      · exact ⟨_, lampSourceOf_output⟩
    obtain ⟨src, hsrc⟩ := source
    rw [exec_readLamps h.1 ht]
    exact read_reply h ((reqReadLamps_read hsrc (c := ⟨start.toNat, hc⟩) rfl h1 h2).trans (if_pos hl))
  case chain =>
    intro start i hi hf
    rw [exec_validateChain h.1 ht]
    cases hw : s.walk i with
    | error f => exact read_reply h (reqValidateChain_error hi hf hw)
    | ok chain => exact read_reply h (reqValidateChain_ok hi hf hw)
  case lamps =>
    intro source start count n c hn hc h1 h2 hl
    have hl : ¬ s.part.available.lamps = false := by simp [hl]
    constructor
    · rw [exec_readLamps h.1 ht]
      exact read_reply h ((reqReadLamps_read (lampSourceOf_scene hn) hc h1 h2).trans (if_neg hl))
    · rw [exec_readLamps h.1 ht]
      exact read_reply h ((reqReadLamps_read lampSourceOf_output hc h1 h2).trans (if_neg hl))
  case station =>
    intro station st hst r axes buttons report
    constructor
    · rw [exec_readStation h.1 ht]
      exact read_reply h (reqReadStation_keep hst)
    · rw [exec_readStation h.1 ht, reqReadStation_clear hst]
      exact congrArg _ (requestOutcome_reply h rfl rfl rfl rfl)
  case sense =>
    intro channels h1 h2 hn hr
    obtain ⟨named, hread, hnamed⟩ := indexList_read hr hn
    refine ⟨s.clearFresh named, named, hnamed, ?_, clearFresh_only named, clearFresh_channel named⟩
    rw [exec_readSense h.1 ht channels h1 h2, reqReadSense_read hread]
    rw [requestOutcome_reply h (by rw [clearFresh_only]) (by rw [clearFresh_only]) (by rw [clearFresh_only])
      (by rw [clearFresh_only])]
    have length : named.length = channels.length := by rw [← hnamed, List.length_map]
    cases ha : s.part.available.scanner with
    | true =>
      obtain ⟨hscanner, hchannel⟩ := State.sensed_of_available ha
      simp only [hscanner, hchannel, length]
      rfl
    | false =>
      obtain ⟨hscanner, hchannel⟩ := State.sensed_of_unavailable ha
      simp only [hscanner, hchannel, length, reset_channel_bytes, reset_scanner_bytes]
      rfl
  case senseRefused =>
    intro channels h1 h2 hbad
    rw [exec_readSense h.1 ht channels h1 h2]
    exact read_reply h (reqReadSense_refused (indexList_refused hbad))

end Sys2Proof.Machine
end

section
/-! PROOFS. The outputs: the lamps with their overlay, the beacon's patterns and outputs, and the outputs of an axis. -/

namespace Sys2Proof.Machine

variable {s : State}

/-! ### The composed value (R161) -/

theorem composed_on {cell : Cell} (h : s.overlayValue cell = .on) : s.composed cell = true := by simp [State.composed, h]
theorem composed_off {cell : Cell} (h : s.overlayValue cell = .off) : s.composed cell = false := by
  simp [State.composed, h]
theorem composed_slow {cell : Cell} (h : s.overlayValue cell = .slow) : s.composed cell = s.lamps.slow.on := by
  simp [State.composed, h]
theorem composed_fast {cell : Cell} (h : s.overlayValue cell = .fast) : s.composed cell = s.lamps.fast.on := by
  simp [State.composed, h]

/-- The memory column that a physical column shows, turned about the middle with the mirror on (R161). -/
theorem shown_eq {l : Lamps} {c shown : Fin 32} (h : shown.val = if l.mirror then 31 - c.val else c.val) :
    l.shown c = shown := by
  unfold Lamps.shown
  cases hm : l.mirror <;> simp [hm] at h ⊢ <;> exact Fin.ext h.symm

theorem composed_none {cell : Cell} {shown : Fin 32} (h : s.overlayValue cell = .none)
    (hs : shown.val = if s.lamps.mirror then 31 - cell.2.val else cell.2.val) :
    s.composed cell = (s.column s.lamps.display shown).getLsbD cell.1.val := by
  simp [State.composed, h, shown_eq hs]

theorem lampLit_iff {cell : Cell} :
    s.lampLit cell = true ↔ s.part.available.lamps = true ∧ s.part.condition ≠ .testing ∧ s.composed cell = true := by
  simp [State.lampLit, State.isTesting, and_assoc]

/-! ### The overlay (R162, R163) -/

/-- A search among all the entries of a table finds the one that meets the test. -/
theorem find?_unique {α : Type} {p : α → Bool} {l : List α} {a : α} (ha : a ∈ l) (hp : p a = true)
    (hu : ∀ b, p b = true → b = a) : l.find? p = some a := by
  cases h : l.find? p with
  | none => exact absurd hp (List.find?_eq_none.1 h a ha)
  | some b => rw [hu b (List.find?_some h)]

/-- A cell that no record claims has no overlay value. -/
theorem overlayValue_free {cell : Cell} (hb : ∀ b, (s.button b).cell ≠ some cell)
    (hs : ∀ st, (s.station st).cell ≠ some cell) : s.overlayValue cell = .none := by
  have noButton : (allButtons.find? fun b => (s.button b).cell = some cell) = none := by simp [hb]
  have noStation : (allStations.find? fun st => (s.station st).cell = some cell) = none := by simp [hs]
  unfold State.overlayValue State.claimant
  rw [noButton, noStation]
  rfl

/-- A cell that one button claims takes that button's value. -/
theorem overlayValue_button {cell : Cell} {b : ButtonId} (hb : (s.button b).cell = some cell)
    (hu : ∀ i, (s.button i).cell = some cell → i = b) : s.overlayValue cell = s.buttonOverlay b := by
  have found : (allButtons.find? fun i => (s.button i).cell = some cell) = some b :=
    find?_unique (mem_allButtons b) (by simpa using hb) (by simpa using hu)
  unfold State.overlayValue State.claimant
  rw [found]

/-- A cell that one station claims, and no button, takes that station's value. -/
theorem overlayValue_station {cell : Cell} {st : StationId} (hs : (s.station st).cell = some cell)
    (hb : ∀ b, (s.button b).cell ≠ some cell) (hu : ∀ i, (s.station i).cell = some cell → i = st) :
    s.overlayValue cell = s.stationOverlay st := by
  have noButton : (allButtons.find? fun i => (s.button i).cell = some cell) = none := by simp [hb]
  have found : (allStations.find? fun i => (s.station i).cell = some cell) = some st :=
    find?_unique (mem_allStations st) (by simpa using hs) (by simpa using hu)
  unfold State.overlayValue State.claimant
  rw [noButton, found]
  rfl

theorem buttonOverlay_ring {b : ButtonId} {st : StationId}
    (hr : (s.button b).role = .roleShow ∨ (s.button b).role = .roleHold) (hs : (s.button b).station = some st) :
    s.buttonOverlay b = (s.station st).state.ringValue := by
  rcases hr with hr | hr <;> simp [State.buttonOverlay, hr, hs]

/-- A RAISED record in the scope of an ACK button (R15). -/
theorem anyAnswerable_iff {scope : Option StationId} :
    (s.alerts.records.any fun a => !a.acked && a.inScope scope) = true ↔
      ∃ r ∈ s.alerts.records, r.acked = false ∧ (scope = none ∨ r.station = none ∨ r.station = scope) := by
  simp [inScope_iff]

theorem buttonOverlay_ack {b : ButtonId} (hr : (s.button b).role = .roleAck) :
    s.buttonOverlay b =
      if (s.alerts.records.any fun a => !a.acked && a.inScope (s.button b).station) = true then .fast else .none := by
  simp [State.buttonOverlay, hr]

theorem buttonOverlay_dark {b : ButtonId} (hr : (s.button b).role = .roleStop ∨ (s.button b).role = .roleNone) :
    s.buttonOverlay b = .none := by
  rcases hr with hr | hr <;> simp [State.buttonOverlay, hr]

theorem raisedFor_iff {st : StationId} :
    s.raisedFor st = true ↔
      ∃ r ∈ s.alerts.records, r.acked = false ∧ (r.station = none ∨ r.station = some st) := by
  simp [State.raisedFor]

/-! ### The levels of RAISED records (R151, R152) -/

/-- The higher of a level so far and one more. -/
def raiseLevel : Option Nat → Nat → Option Nat
  | none, l => some l
  | some k, l => some (max k l)

/-- The level of a severity is the highest of its RAISED records. -/
theorem raisedLevel_eq (sev : Severity) :
    s.raisedLevel sev =
      ((s.alerts.records.filter fun r => !r.acked && r.severity = sev).map (·.level)).foldl raiseLevel none := by
  unfold State.raisedLevel
  congr 1
  funext m l
  cases m <;> rfl

/-- What the highest of a list of levels is: one of them, and at least each. -/
theorem foldl_raiseLevel_some : ∀ {l : List Nat} {m : Option Nat} {k : Nat}, l.foldl raiseLevel m = some k →
    (m = some k ∨ k ∈ l) ∧ (∀ n ∈ l, n ≤ k) ∧ ∀ j, m = some j → j ≤ k
  | [], m, k, h => by
    have h : m = some k := h
    subst h
    simp
  | a :: l, m, k, h => by
    obtain ⟨hmem, hle, hstart⟩ := foldl_raiseLevel_some (l := l) h
    cases m with
    | none =>
      have ha := hstart a rfl
      simp only [raiseLevel, Option.some.injEq] at hmem
      refine ⟨Or.inr ?_, ?_, by simp⟩
      · rcases hmem with rfl | hk <;> simp [*]
      · simpa using ⟨ha, hle⟩
    | some j =>
      have hmax := hstart (max j a) rfl
      simp only [raiseLevel, Option.some.injEq] at hmem
      refine ⟨?_, ?_, by simp; omega⟩
      · rcases hmem with hk | hk
        · rcases Nat.le_total j a with hja | hja
          · exact Or.inr (by simp; omega)
          · exact Or.inl (by simp; omega)
        · exact Or.inr (by simp [hk])
      · simpa using ⟨by omega, hle⟩

theorem foldl_raiseLevel_none : ∀ {l : List Nat} {m : Option Nat}, l.foldl raiseLevel m = none → m = none ∧ l = []
  | [], m, h => ⟨h, rfl⟩
  | a :: l, m, h => by
    have := (foldl_raiseLevel_none (l := l) h).1
    cases m <;> simp [raiseLevel] at this

/-- A RAISED record of a severity is stored. -/
def State.someRaised (s : State) (sev : Severity) : Prop := ∃ r ∈ s.alerts.records, r.acked = false ∧ r.severity = sev

/-- No RAISED record of a severity is above a level. -/
def State.raisedUpTo (s : State) (sev : Severity) (n : Nat) : Prop :=
  ∀ r ∈ s.alerts.records, r.acked = false → r.severity = sev → r.level ≤ n

theorem raisedLevel_none {sev : Severity} (h : ¬ s.someRaised sev) : s.raisedLevel sev = none := by
  have empty : (s.alerts.records.filter fun r => !r.acked && r.severity = sev) = [] := by
    rw [List.filter_eq_nil_iff]
    intro r hr hm
    exact h ⟨r, hr, by simpa using hm⟩
  rw [raisedLevel_eq, empty]
  rfl

/-- The level of a severity that has a RAISED record, which tells how high its records are. -/
theorem raisedLevel_some {sev : Severity} (h : s.someRaised sev) :
    ∃ k, s.raisedLevel sev = some k ∧ ∀ n, s.raisedUpTo sev n ↔ k ≤ n := by
  obtain ⟨r, hr, hopen, hsev⟩ := h
  cases hk : s.raisedLevel sev with
  | none =>
    rw [raisedLevel_eq] at hk
    have := (foldl_raiseLevel_none hk).2
    rw [List.map_eq_nil_iff, List.filter_eq_nil_iff] at this
    exact absurd (by simp [hopen, hsev]) (this r hr)
  | some k =>
    rw [raisedLevel_eq] at hk
    obtain ⟨hmem, hle, -⟩ := foldl_raiseLevel_some hk
    obtain ⟨q, hq, rfl⟩ := List.mem_map.1 (hmem.resolve_left (by simp))
    obtain ⟨hqr, hqo, hqs⟩ : q ∈ s.alerts.records ∧ q.acked = false ∧ q.severity = sev := by simpa using hq
    refine ⟨q.level, rfl, fun n => ⟨fun hn => hn q hqr hqo hqs, fun hn p hp ho hs => ?_⟩⟩
    exact le_trans (hle p.level (List.mem_map.2 ⟨p, by simp [hp, ho, hs], rfl⟩)) hn

/-! ### The patterns (R151, R152) -/

theorem notePattern_raised {k : Nat} (h : s.raisedLevel .note = some k) :
    s.notePattern = if k = 0 then .slow else .fast := by
  cases k <;> simp [State.notePattern, h]

theorem notePattern_quiet (h : ¬ s.someRaised .note) :
    s.notePattern = if s.alerts.records.any (·.acked) then .steady else .off := by
  simp [State.notePattern, raisedLevel_none h]

theorem callPattern_call {k : Nat} (h : ¬ s.someRaised .lockout) (hc : s.raisedLevel .call = some k) :
    s.callPattern = if k = 0 then .steady else if k = 1 then .slow else .fast := by
  match k with
  | 0 | 1 | k + 2 => simp [State.callPattern, raisedLevel_none h, hc]

theorem sounderPattern_lockout {k : Nat} (h : s.raisedLevel .lockout = some k) :
    s.sounderPattern = if k = 0 then .off else if k = 1 then .slow else .steady := by
  match k with
  | 0 | 1 | k + 2 => simp [State.sounderPattern, h]

theorem notePattern_slow (h : s.someRaised .note) (h0 : s.raisedUpTo .note 0) : s.notePattern = .slow := by
  obtain ⟨k, hk, upTo⟩ := raisedLevel_some h
  rw [upTo] at h0
  rw [notePattern_raised hk, if_pos (by omega)]

theorem notePattern_fast (h : s.someRaised .note) (h0 : ¬ s.raisedUpTo .note 0) : s.notePattern = .fast := by
  obtain ⟨k, hk, upTo⟩ := raisedLevel_some h
  rw [upTo] at h0
  rw [notePattern_raised hk, if_neg (by omega)]

theorem notePattern_steady (h : ¬ s.someRaised .note) (ha : ∃ r ∈ s.alerts.records, r.acked = true) :
    s.notePattern = .steady := by
  rw [notePattern_quiet h, if_pos (by simpa using ha)]

theorem notePattern_off (h : ¬ s.someRaised .note) (ha : ∀ r ∈ s.alerts.records, r.acked = false) :
    s.notePattern = .off := by
  rw [notePattern_quiet h, if_neg (by simpa using ha)]

theorem callPattern_lockout (h : s.someRaised .lockout) : s.callPattern = .fast := by
  obtain ⟨k, hk, -⟩ := raisedLevel_some h
  simp [State.callPattern, hk]

theorem callPattern_steady (hl : ¬ s.someRaised .lockout) (h : s.someRaised .call) (h0 : s.raisedUpTo .call 0) :
    s.callPattern = .steady := by
  obtain ⟨k, hk, upTo⟩ := raisedLevel_some h
  rw [upTo] at h0
  rw [callPattern_call hl hk, if_pos (by omega)]

theorem callPattern_slow (hl : ¬ s.someRaised .lockout) (h : s.someRaised .call) (h0 : ¬ s.raisedUpTo .call 0)
    (h1 : s.raisedUpTo .call 1) : s.callPattern = .slow := by
  obtain ⟨k, hk, upTo⟩ := raisedLevel_some h
  rw [upTo] at h0 h1
  rw [callPattern_call hl hk, if_neg (by omega), if_pos (by omega)]

theorem callPattern_fast (hl : ¬ s.someRaised .lockout) (h : s.someRaised .call) (h1 : ¬ s.raisedUpTo .call 1) :
    s.callPattern = .fast := by
  obtain ⟨k, hk, upTo⟩ := raisedLevel_some h
  rw [upTo] at h1
  rw [callPattern_call hl hk, if_neg (by omega), if_neg (by omega)]

theorem callPattern_off (hl : ¬ s.someRaised .lockout) (h : ¬ s.someRaised .call) : s.callPattern = .off := by
  simp [State.callPattern, raisedLevel_none hl, raisedLevel_none h]

theorem sounderPattern_silent (h : s.someRaised .lockout) (h0 : s.raisedUpTo .lockout 0) : s.sounderPattern = .off := by
  obtain ⟨k, hk, upTo⟩ := raisedLevel_some h
  rw [upTo] at h0
  rw [sounderPattern_lockout hk, if_pos (by omega)]

theorem sounderPattern_slow (h : s.someRaised .lockout) (h0 : ¬ s.raisedUpTo .lockout 0)
    (h1 : s.raisedUpTo .lockout 1) : s.sounderPattern = .slow := by
  obtain ⟨k, hk, upTo⟩ := raisedLevel_some h
  rw [upTo] at h0 h1
  rw [sounderPattern_lockout hk, if_neg (by omega), if_pos (by omega)]

theorem sounderPattern_steady (h : s.someRaised .lockout) (h1 : ¬ s.raisedUpTo .lockout 1) :
    s.sounderPattern = .steady := by
  obtain ⟨k, hk, upTo⟩ := raisedLevel_some h
  rw [upTo] at h1
  rw [sounderPattern_lockout hk, if_neg (by omega), if_neg (by omega)]

theorem sounderPattern_off (h : ¬ s.someRaised .lockout) : s.sounderPattern = .off := by
  simp [State.sounderPattern, raisedLevel_none h]

/-! ### The outputs (R153, R58) -/

/-- An output is asserted under STEADY, and under a blinking pattern in its clock's ON phase (R153). -/
theorem patternLit_iff {p : Pattern} :
    s.patternLit p = true ↔
      p = .steady ∨ (p = .slow ∧ s.lamps.slow.on = true) ∨ (p = .fast ∧ s.lamps.fast.on = true) := by
  cases p <;> simp [State.patternLit]

/-- Through the test a beacon output is deasserted but for item 7 (R189). -/
theorem beaconOutput_testing {o : BeaconPin} (ht : s.part.condition = .testing) (h7 : s.part.remaining.head? ≠ some 7) :
    s.beaconOutput o = false := by
  simp [State.beaconOutput, State.testItem, State.isTesting, ht, h7]

/-- The own draw of an axis, by its state (Table 4-3). -/
theorem ownDraw_eq (a : Axis) :
    a.ownDraw =
      if a.state = .disarmed then 0 else if a.state = .running ∨ a.state = .stopping then a.cfg.runDraw else a.cfg.holdDraw := by
  cases h : a.state <;> simp [Axis.ownDraw, h]

theorem moving_iff {st : AxisState} : st.moving = true ↔ st = .running ∨ st = .stopping := by
  cases st <;> simp [AxisState.moving]

theorem enOutput_iff {x : AxisId} :
    s.enOutput x = true ↔ s.rehearses x = false ∧ (s.axis x).state ≠ .disarmed ∧
      0 < if (s.axis x).state = .running ∨ (s.axis x).state = .stopping then (s.axis x).cfg.runDraw
        else (s.axis x).cfg.holdDraw := by
  by_cases hd : (s.axis x).state = .disarmed
  · simp [State.enOutput, ownDraw_eq, hd]
  · simp [State.enOutput, ownDraw_eq, hd, Nat.pos_iff_ne_zero]

theorem boostOutput_iff {x : AxisId} :
    s.boostOutput x = true ↔ s.rehearses x = false ∧ ((s.axis x).state = .running ∨ (s.axis x).state = .stopping) := by
  simp [State.boostOutput, moving_iff]

/-- Outside item 5 STEP shows the pulses of the latest tick and DIR the level of the latest segment (R57, R58, R90). -/
theorem stepOutput_dirOutput {x : AxisId} (h : s.part.condition ≠ .testing ∨ s.part.remaining.head? ≠ some 5) :
    s.stepOutput x = (s.axis x).stepPulses ∧ s.dirOutput x = (s.axis x).dirLevel := by
  have noDrive : s.testItem ≠ some 5 := by
    rcases h with h | h <;> simp [State.testItem, State.isTesting, h]
  exact ⟨if_neg noDrive, if_neg noDrive⟩

/-- Settles O53. -/
theorem lampBeaconAndAxisOutputs : Obligations.LampBeaconAndAxisOutputs := by
  refine ⟨?composed, ?overlay, ?patterns, ?beacon, ?axis⟩
  case composed =>
    exact fun s cell => ⟨composed_on, composed_off, composed_slow, composed_fast, fun shown => composed_none, lampLit_iff⟩
  case overlay =>
    intro s cell raised
    refine ⟨overlayValue_free, fun b hb hu => ?_, fun st hs hb hu => ?_⟩
    · rw [overlayValue_button hb hu]
      refine ⟨fun st hr hst => ?_, fun hr => ?_, buttonOverlay_dark⟩
      · rw [buttonOverlay_ring hr hst]
        rfl
      · rw [buttonOverlay_ack hr]
        exact ⟨fun h => if_pos (anyAnswerable_iff.2 h), fun h => if_neg fun ha => h (anyAnswerable_iff.1 ha)⟩
    · rw [overlayValue_station hs hb hu]
      unfold State.stationOverlay
      refine ⟨fun h => if_pos h, fun h hr => ?_, fun h hr => ?_⟩
      · rw [if_neg h, if_pos (raisedFor_iff.2 hr)]
      · rw [if_neg h, if_neg fun ha => hr (raisedFor_iff.1 ha)]
  case patterns =>
    exact fun s => ⟨notePattern_slow, notePattern_fast, notePattern_steady, notePattern_off, callPattern_lockout,
      sounderPattern_silent, sounderPattern_slow, sounderPattern_steady, sounderPattern_off, callPattern_steady,
      callPattern_slow, callPattern_fast, callPattern_off⟩
  case beacon =>
    intro s o p
    have hp : p = s.beaconPattern o := by cases o <;> rfl
    refine ⟨fun ht => ?_, beaconOutput_testing⟩
    rw [State.beaconOutput_of_not_testing ht, Bool.and_eq_true, hp, patternLit_iff]
  case axis =>
    exact fun s x => ⟨enOutput_iff, boostOutput_iff, stepOutput_dirOutput⟩

end Sys2Proof.Machine
end

section
/-! PROOFS. Demand: the drop, the return, and the axes that a change of button demand reaches. -/

namespace Sys2Proof.Machine

variable {s : State} {x : AxisId}

/-! ### The drop (R72) -/

theorem demandDrop_running (h : (s.axis x).state = .running) :
    s.demandDrop x = s.enter x .stopping fun a => { a with disposition := some .pause } := by
  simp [State.demandDrop, h]

theorem demandDrop_pending (h : (s.axis x).state = .pending) : s.demandDrop x = (s.withdraw x).enter x .paused := by
  simp [State.demandDrop, h]

theorem demandDrop_elsewhere (hr : (s.axis x).state ≠ .running) (hp : (s.axis x).state ≠ .pending) :
    s.demandDrop x = s := by
  unfold State.demandDrop
  split
  next h => exact absurd h hr
  next h => exact absurd h hp
  next => rfl

/-! ### The return (R73) -/

theorem demandReturn_load (h : (s.axis x).state = .paused) (hn : (s.axis x).remN = 0) :
    s.demandReturn x = s.load x := by
  simp [State.demandReturn, h, hn]

theorem demandReturn_join {p : Profile} (h : (s.axis x).state = .paused) (hn : (s.axis x).remN ≠ 0)
    (hp : s.loadedProfile x = some p) :
    s.demandReturn x = (s.enter x .pending fun b => b.startRamp p).joinPending x := by
  simp [State.demandReturn, h, hn, hp]

theorem demandReturn_resume (h : (s.axis x).state = .stopping) (hd : (s.axis x).disposition = some .pause) :
    s.demandReturn x = s.enter x .running fun b => { b with phase := .accel } := by
  simp [State.demandReturn, h, hd]

theorem demandReturn_settling (h : (s.axis x).state = .stopping) (hd : (s.axis x).disposition ≠ some .pause) :
    s.demandReturn x = s := by
  simp [State.demandReturn, h, hd]

theorem demandReturn_elsewhere (hp : (s.axis x).state ≠ .paused) (hs : (s.axis x).state ≠ .stopping) :
    s.demandReturn x = s := by
  unfold State.demandReturn
  dsimp only
  split
  next h => exact absurd h hp
  next h => exact absurd h hs
  next => rfl

/-- An axis that enters a state stays in its pair or out of it, when its configuration stands. -/
theorem enter_paired {new : AxisState} {f : Axis → Axis} (hf : ∀ a, (f a).cfg = a.cfg) (y : AxisId) :
    (s.enter x new f).paired y = s.paired y := by
  unfold State.paired
  by_cases h : x = leaderOf y
  · subst h
    rw [enter_axis_self]
    exact congrArg AxisConfig.pair (hf _)
  · rw [enter_axis_ne s h]

/-- The entry of an unpaired axis that joins the pending list (R101, R106). -/
def Axis.soloEntry (a : Axis) (x : AxisId) : PendingEntry :=
  { axis := x, pair := false, increase := a.cfg.runDraw - (if a.asLeft then 0 else a.cfg.holdDraw), waited := 0,
    urgent := false }

/-- An unpaired axis joins the list under its own number (R101). -/
theorem joinPending_solo (h : s.paired x = false) :
    s.joinPending x =
      { s with
        arbiter := { s.arbiter with waiting := s.arbiter.waiting ++ [(s.axis x).soloEntry x] }
        passDue := true } := by
  simp [State.joinPending, State.waitKey, State.requestedIncrease, Axis.soloEntry, h]

/-- An unpaired axis that enters a state and joins the list. -/
theorem enter_joinPending_solo (h : s.paired x = false) (new : AxisState) (f : Axis → Axis) (hf : ∀ a, (f a).cfg = a.cfg) :
    ((s.enter x new f).joinPending x).axis x = (f (s.axis x)).settled new ∧
      ((s.enter x new f).joinPending x).arbiter.waiting =
        s.arbiter.waiting ++ [((f (s.axis x)).settled new).soloEntry x] ∧
      ((s.enter x new f).joinPending x).passDue = true := by
  rw [joinPending_solo ((enter_paired hf x).trans h)]
  refine ⟨enter_axis_self s x new f, ?_, rfl⟩
  rw [enter_arbiter, enter_axis_self]

/-! ### Button demand (R12) -/

theorem buttonDemand_iff {st : StationId} :
    s.buttonDemand st = true ↔
      ∃ b, (s.button b).role = .roleHold ∧ (s.button b).station = some st ∧
        ((s.button b).state = .pressed ∨ (s.button b).state = .held) := by
  simp [State.buttonDemand, mem_allButtons, and_assoc]

/-- The axes that a change of a station's button demand reaches: the member axes whose host demand is clear (R72). -/
theorem demandReached_eq (s : State) (st : StationId) :
    (s.members st).filter (fun x => !(s.axis x).hostDemand) =
      allAxes.filter fun x => (s.axis x).cfg.station = some st ∧ (s.axis x).hostDemand = false := by
  rw [State.members, List.filter_filter]
  exact filter_decide (fun x => by simp [State.isMember, and_comm]) allAxes

theorem demandAfter_eq (u : State) {b : ButtonId} {st : StationId} (h : (s.button b).station = some st) :
    u.demandAfter s b = if u.buttonDemand st = s.buttonDemand st then s else s.handDemand st := by
  simp [State.demandAfter, h]

/-- Settles O40. -/
theorem demandDropAndReturn : Obligations.DemandDropAndReturn := by
  refine ⟨?drop, ?back, fun st s => ⟨buttonDemand_iff, ?handed, fun u b => demandAfter_eq u⟩⟩
  case drop =>
    intro x s a t
    refine ⟨fun h => ?_, fun h => ?_, demandDrop_elsewhere⟩
    · have ht : t = _ := demandDrop_running h
      rw [ht]
      exact ⟨enter_axis_self s x _ _, enter_arbiter s x _ _, fun y hy => enter_axis_ne s (Ne.symm hy) _ _⟩
    · have ht : t = _ := demandDrop_pending h
      rw [ht]
      exact ⟨enter_axis_self _ x _ _, enter_arbiter _ x _ _, fun y hy => enter_axis_ne _ (Ne.symm hy) _ _⟩
  case back =>
    intro x s solo a t
    refine ⟨demandReturn_load, fun p h hn hp => ?_, fun h hd => ?_, demandReturn_settling, demandReturn_elsewhere⟩
    · have ht : t = _ := demandReturn_join h hn hp
      rw [ht]
      exact enter_joinPending_solo solo .pending _ fun _ => rfl
    · have ht : t = _ := demandReturn_resume h hd
      rw [ht]
      exact ⟨enter_axis_self s x _ _, enter_arbiter s x _ _⟩
  case handed =>
    rw [State.handDemand, demandReached_eq]
    rfl

end Sys2Proof.Machine
end

section
/-! PROOFS. The millisecond: what it does to the part record, the pins and the queue in every state, and its counts in a calm one. -/

namespace Sys2Proof.Machine

variable {s : State}

/-! ### The part record, the pins and the queue -/

/-- The part record, the input pins and the queue read so. -/
def State.outsideReads (p : Part) (pins : Pins) (queue : List Instr) (s : State) : Prop :=
  s.part = p ∧ s.pins = pins ∧ s.pending = queue

/-- No event of a millisecond touches them. -/
theorem outsideReads_kept (p : Part) (pins : Pins) (queue : List Instr) : KeptEvents (State.outsideReads p pins queue) :=
  { axes := fun _ _ h => h, stations := fun _ _ h => h, cues := fun _ _ h => h, pairs := fun _ _ h => h,
    arbiter := fun _ _ h => h, scanner := fun _ _ h => h, display := fun _ _ h => h, passDue := fun _ _ h => h,
    handed := fun _ _ h => h, arrive := fun _ _ _ _ _ h => h, remove := fun _ _ h => h,
    update := fun _ _ _ _ _ _ h => h, append := fun _ _ _ _ h _ _ _ => h, buttons := fun _ _ h => h,
    buttonTiming := fun _ _ h => h, lamps := fun _ _ h => h, noticeLevel := fun _ _ h => h,
    channels := fun _ _ h _ => h, line := fun _ _ _ h _ => h, intervals := fun _ _ _ _ h => h,
    counts := fun _ _ _ _ h => h, kept := fun _ _ h => h, link := fun _ _ h => h, stopLine := fun _ _ h => h,
    mapRecords := fun _ _ _ h => h }

/-- The millisecond touches of the part record the uptime alone, and neither the pins nor the queue (R189). -/
theorem tick_outside (s : State) : s.tick.outsideReads s.countAlways.part s.pins s.pending := by
  unfold State.tick
  extract_lets s0 moved s1 s2 s3
  have h0 : s0.outsideReads s.part s.pins s.pending :=
    drain_kept (outsideReads_kept _ _ _) Config.routeFuel ⟨rfl, rfl, rfl⟩
  have counted : s0.countAlways.outsideReads s.countAlways.part s.pins s.pending :=
    ⟨congrArg (fun p : Part => { p with uptime := p.uptime + 1#32 }) h0.1, h0.2⟩
  have K := outsideReads_kept s.countAlways.part s.pins s.pending
  have h1 : s1.outsideReads s.countAlways.part s.pins s.pending := ite_kept counted (countBlocks_kept K counted)
  have h2 : s2.outsideReads s.countAlways.part s.pins s.pending := runWhen_kept K h1 (gapExpiry_kept K h1)
  have h3 : s3.outsideReads s.countAlways.part s.pins s.pending := runEvent_kept K (sampleStop_kept K h2)
  exact ite_kept h3 (blocksMillisecond_kept K h3)

/-! ### Events that bring nothing more -/

/-- Nothing waits on the link, no pass is due, no route action is handed over, and no line is chosen for a notice. -/
def State.nothingWaits (s : State) : Prop := s.unoccupied ∧ s.handed = [] ∧ s.chosenLine = none

/-- With nothing waiting the link makes no move (R187, R188, R175). -/
theorem pump_quiet (h : s.nothingWaits) : s.pump = s := by
  obtain ⟨⟨hholder, hslot, -⟩, -, hline⟩ := h
  have take : s.takeHeld = s := by simp [State.takeHeld, hholder]
  have begin_ : s.beginReply = s := by simp [State.beginReply, hslot]
  have choose : s.chooseNotice = s := by simp [State.chooseNotice, hline]
  simp only [State.pump, take, begin_, choose]

/-- An event that leaves the axes and the pair contexts, and nothing waiting, is its own change. -/
theorem runEvent_quiet {g : State → State} (h : (g s).nothingWaits) (ha : (g s).axes = s.axes)
    (hp : (g s).pairs = s.pairs) : s.runEvent g = g s := by
  have h' := h
  obtain ⟨⟨-, -, hpass⟩, hhanded, -⟩ := h'
  rw [State.runEvent, settled_of_axes hpass ha hp, pump_quiet h, drain_of_nil hhanded]

theorem runWhen_false {c : Bool} {g : State → State} (h : c = false) : s.runWhen c g = s := by
  rw [State.runWhen, h]
  rfl

/-! ### Entries of a table taken one after another -/

/-- A fold over distinct entries of a table, each step of which rewrites its entry, rewrites them all. -/
theorem foldl_entries {σ α : Type} {n : Nat} (mk : Vector α n → σ) (f : σ → Fin n → σ) (new : Fin n → α) :
    ∀ (l : List (Fin n)) (v : Vector α n), l.Nodup →
      (∀ (w : Vector α n) (i : Fin n), i ∈ l → w.get i = v.get i → f (mk w) i = mk (w.set i.val (new i) i.isLt)) →
      ∃ w, l.foldl f (mk v) = mk w ∧ ∀ i, w.get i = if i ∈ l then new i else v.get i
  | [], v, _, _ => ⟨v, rfl, fun i => by simp⟩
  | i :: l, v, hn, hf => by
    obtain ⟨hi, hn⟩ := List.nodup_cons.1 hn
    have other : ∀ j ∈ l, (v.set i.val (new i) i.isLt).get j = v.get j := fun j hj =>
      vector_get_set_ne v i j _ fun e => hi (e ▸ hj)
    obtain ⟨w, hw, hget⟩ := foldl_entries mk f new l (v.set i.val (new i) i.isLt) hn fun w j hj hwj =>
      hf w j (List.mem_cons_of_mem i hj) (hwj.trans (other j hj))
    refine ⟨w, ?_, fun j => ?_⟩
    · rw [List.foldl_cons, hf v i List.mem_cons_self rfl, hw]
    · rw [hget j]
      by_cases hij : i = j
      · subst hij
        simp [hi, vector_get_set_self]
      · simp [vector_get_set_ne v i j _ hij, Ne.symm hij]

/-- An entry that is written as it stands leaves the table. -/
theorem State.putButton_self (s : State) (b : ButtonId) : s.putButton b (s.button b) = s := by
  have same : s.buttons.set b.val (s.buttons.get b) b.isLt = s.buttons := Vector.set_getElem_self b.isLt
  rw [State.putButton, State.button, same]

theorem State.putAxis_self (s : State) (x : AxisId) : s.putAxis x (s.axis x) = s := by
  have same : s.axes.set x.val (s.axes.get x) x.isLt = s.axes := Vector.set_getElem_self x.isLt
  rw [State.putAxis, State.axis, same]

@[simp] theorem State.putAxis_putAxis (x : AxisId) (a a' : Axis) : (s.putAxis x a).putAxis x a' = s.putAxis x a' := by
  simp [State.putAxis]

/-! ### Samples that change no level -/

/-- A STOP line that takes the level it has stands (R150). -/
theorem setStopLine_same {level : Bool} (h : s.stopLine.level = some level) : s.setStopLine level = s := by
  unfold State.setStopLine
  dsimp only
  rw [if_pos (Or.inr h), ← h]

/-- Five agreeing samples of a level that stands settle nothing (R150). -/
theorem sampleStop_quiet (h : 5 ≤ s.stopRun → s.stopLine.level = some (!s.pins.stop)) :
    s.sampleStop = { s with stopLine := { s.stopLine with sample := some (!s.pins.stop), run := s.stopRun } } := by
  unfold State.sampleStop
  change (if 5 ≤ s.stopRun then _ else _) = _
  split
  next h5 =>
    exact setStopLine_same (h h5)
  next => rfl

/-- A trigger line that does not fall brings no trigger (R127). -/
theorem sampleTrigger_quiet (h : s.scanner.triggerLevel = some true → s.pins.trigger = true) :
    s.sampleTrigger = s.setTriggerLevel s.pins.trigger := by
  unfold State.sampleTrigger
  rw [if_neg]
  rintro ⟨hlevel, hpin⟩
  simp [h hlevel] at hpin

/-- No event of the button follows from the next sample: no debounce is completed, and no held time reaches its limit (R3, R6). -/
def State.buttonCalm (s : State) (b : ButtonId) : Prop :=
  ∃ l, (s.button b).level = some l ∧
    (s.buttonSample b = l ∨ (s.button b).count + 1 < s.buttonTiming.debounce) ∧
    ((s.button b).state = .pressed → (s.button b).heldTime + 1 < (s.button b).holdThreshold) ∧
    ((s.button b).state = .pressed ∨ (s.button b).state = .held →
      (s.button b).heldTime + 1 < s.buttonTiming.stuckLimit * 1000)

/-- A button after a sample that brings no event: its debounce count and its held time (R3, R6). -/
def State.sampledButton (s : State) (b : ButtonId) : Button :=
  { s.button b with
    count := if (s.button b).level = some (s.buttonSample b) then 0 else (s.button b).count + 1
    heldTime :=
      if (s.button b).state = .released then (s.button b).heldTime else min 16777215 ((s.button b).heldTime + 1) }

/-- A held time below its limits changes no state (R6). -/
theorem compareHeld_quiet {b : ButtonId} (hp : (s.button b).state = .pressed → (s.button b).heldTime < (s.button b).holdThreshold)
    (hs : (s.button b).state = .pressed ∨ (s.button b).state = .held →
      (s.button b).heldTime < s.buttonTiming.stuckLimit * 1000) : s.compareHeld b = s := by
  unfold State.compareHeld
  cases hst : (s.button b).state with
  | released => simp [hst]
  | stuck => simp [hst]
  | held => simp [hst, hs (Or.inr hst)]
  | pressed =>
    have := hs (Or.inl hst)
    have := hp hst
    simp only [hst]
    rw [if_neg (by omega), if_neg (by omega)]

/-- The count of a held time that stays below its limits (R6). -/
theorem countHeld_quiet {b : ButtonId}
    (hp : (s.button b).state = .pressed → (s.button b).heldTime + 1 < (s.button b).holdThreshold)
    (hs : (s.button b).state = .pressed ∨ (s.button b).state = .held →
      (s.button b).heldTime + 1 < s.buttonTiming.stuckLimit * 1000) :
    s.countHeld b =
      s.putButton b
        { s.button b with
          heldTime :=
            if (s.button b).state = .released then (s.button b).heldTime else min 16777215 ((s.button b).heldTime + 1) } := by
  unfold State.countHeld
  dsimp only
  by_cases hrel : (s.button b).state = .released
  · rw [if_pos hrel, if_pos hrel]
    exact (s.putButton_self b).symm
  · rw [if_neg hrel, if_neg hrel]
    refine compareHeld_quiet ?_ ?_
    · rw [State.putButton_button_self]
      exact fun h => lt_of_le_of_lt (Nat.min_le_right _ _) (hp h)
    · rw [State.putButton_button_self]
      exact fun h => lt_of_le_of_lt (Nat.min_le_right _ _) (hs h)

/-- A sample that brings no event is counted (R2, R3). -/
theorem sampleButton_quiet {b : ButtonId} (h : s.buttonCalm b) : s.sampleButton b = s.putButton b (s.sampledButton b) := by
  obtain ⟨l, hl, hsample, hp, hs⟩ := h
  have step : s.sampleButton b = s.sampleSettled b l (s.buttonSample b) := by
    simp only [State.sampleButton, hl, State.buttonSample]
  have counted : ∀ n, (s.putButton b { s.button b with count := n }).countHeld b =
      s.putButton b
        { s.button b with
          count := n
          heldTime :=
            if (s.button b).state = .released then (s.button b).heldTime
            else min 16777215 ((s.button b).heldTime + 1) } := fun n => by
    rw [countHeld_quiet (by rw [State.putButton_button_self]; exact hp) (by rw [State.putButton_button_self]; exact hs),
      State.putButton_putButton, State.putButton_button_self]
  rw [step, State.sampleSettled, State.sampledButton]
  by_cases he : s.buttonSample b = l
  · rw [if_pos he, if_pos (by rw [hl, he]), counted]
  · have hc := hsample.resolve_left he
    rw [if_neg he, if_neg (by omega), if_neg (by rw [hl]; simpa using Ne.symm he), counted]

/-! ### The millisecond of a calm axis -/

/-- A sample of an end stop that settles no other level is kept (R78). -/
theorem sampleEndStop_quiet {x : AxisId} {side : StopSide}
    (h : (s.axis x).lastSample side = some (s.stopSample x side) →
      (s.axis x).stopLevel side = some (s.stopSample x side)) :
    (s.sampleEndStop x side).1 = s.putAxis x ((s.axis x).withSample side (s.stopSample x side)) := by
  unfold State.sampleEndStop
  change (if (s.axis x).lastSample side = some (s.stopSample x side) then _ else _ : State × Bool).1 = _
  split
  next hl => exact runWhen_false (by simpa [State.stopSample] using h hl)
  next => rfl

/-- A dwell that does not end is counted (R68). -/
theorem countDwell_quiet {x : AxisId} (h : (s.axis x).state = .dwelling → 2 ≤ (s.axis x).dwell) :
    s.countDwell x =
      s.putAxis x
        { s.axis x with
          dwell := if (s.axis x).state = .dwelling then (s.axis x).dwell - 1 else (s.axis x).dwell } := by
  unfold State.countDwell
  by_cases hd : (s.axis x).state = .dwelling
  · have := h hd
    simp only [hd, if_true]
    exact runWhen_false (by simp; omega)
  · simp only [hd, if_false]
    exact (s.putAxis_self x).symm

/-- An axis after a millisecond that brings it no event: its end-stop samples and its dwell (R78, R68). -/
def State.sampledAxis (s : State) (x : AxisId) : Axis :=
  { s.axis x with
    lowSample := some (s.stopSample x .low)
    highSample := some (s.stopSample x .high)
    dwell := if (s.axis x).state = .dwelling then (s.axis x).dwell - 1 else (s.axis x).dwell }

/-- No event of the axis follows from the next millisecond: no dwell ends, and no end stop settles to another level. -/
def State.axisCalm (s : State) (x : AxisId) : Prop :=
  ((s.axis x).state = .dwelling → 2 ≤ (s.axis x).dwell) ∧
    ∀ side, (s.axis x).lastSample side = some (s.stopSample x side) →
      (s.axis x).stopLevel side = some (s.stopSample x side)

/-- The millisecond of an axis that moved at its start nowhere and has no event due. -/
theorem axisMillisecond_quiet {x : AxisId} (h : s.axisCalm x) :
    s.axisMillisecond x false = s.putAxis x (s.sampledAxis x) := by
  obtain ⟨hdwell, hstops⟩ := h
  have low := sampleEndStop_quiet (hstops .low)
  have sample : ∀ side, (s.putAxis x ((s.axis x).withSample .low (s.stopSample x .low))).stopSample x side =
      s.stopSample x side := by
    intro side
    cases side <;> simp [State.stopSample, State.stopPin, Axis.withSample]
  have high := sampleEndStop_quiet (s := s.putAxis x ((s.axis x).withSample .low (s.stopSample x .low))) (x := x)
    (side := .high) (by rw [sample, State.putAxis_axis_self]; exact hstops .high)
  rw [sample, State.putAxis_axis_self, State.putAxis_putAxis] at high
  unfold State.axisMillisecond
  dsimp only
  rw [runWhen_false (by simp), low, high, countDwell_quiet (by rw [State.putAxis_axis_self]; exact hdwell),
    State.putAxis_axis_self, State.putAxis_putAxis]
  rfl

/-! ### The other expiries that are not due -/

/-- A gap time below its limit, or one that does not run, brings nothing (R184). -/
theorem gapExpiry_quiet (h : s.nothingWaits) (hg : s.link.receiver ≠ none → s.link.gapTime < 21) :
    s.runWhen (Config.gapLimit ≤ s.link.gapTime) State.gapExpiry = s := by
  cases hr : s.link.receiver with
  | none =>
    have stands : s.gapExpiry = s := by simp [State.gapExpiry, hr]
    have quiet : s.runEvent State.gapExpiry = s.gapExpiry :=
      runEvent_quiet (by rw [stands]; exact h) (by rw [stands]) (by rw [stands])
    rw [State.runWhen, quiet, stands, ite_self]
  | some bytes =>
    have := hg (by simp [hr])
    exact runWhen_false (decide_eq_false (by unfold Config.gapLimit; omega))

/-- Entries that are urgent already become nothing more (R103). -/
theorem markUrgent_quiet {due : PendingEntry → Bool} (h : ∀ e ∈ s.arbiter.waiting, due e = true → e.urgent = true) :
    s.markUrgent due = s := by
  have hit : (s.arbiter.waiting.filter fun e => due e && !e.urgent) = [] := by
    rw [List.filter_eq_nil_iff]
    intro e he
    simpa using h e he
  have same : (s.arbiter.waiting.map fun e => if due e then { e with urgent := true } else e) = s.arbiter.waiting := by
    refine (List.map_congr_left fun e he => ?_).trans (List.map_id _)
    split
    next hd => rw [← h e he hd]; rfl
    next => rfl
  unfold State.markUrgent
  simp only [hit, same, List.foldl_nil, List.isEmpty_nil, Bool.not_true, Bool.or_false]

/-- A rest that is not over and an idle time below its limit bring nothing (R28, R30). -/
theorem stationMillisecond_quiet {st : StationId} (hr : (s.station st).state = .resting → (s.station st).restRemaining ≠ 0)
    (hi : (s.station st).idleLimit = 0 ∨ (s.station st).idleTime < (s.station st).idleLimit * 1000) :
    s.stationMillisecond st = s := by
  unfold State.stationMillisecond
  dsimp only
  rw [runWhen_false (g := fun t => t.restExpiry st) (by simpa using hr)]
  exact runWhen_false (by rcases hi with hi | hi <;> simp [hi])

/-- No record escalates while each is acknowledged, at its highest level, or short of its interval (R145). -/
theorem escalationDue_quiet (h : ∀ r ∈ s.alerts.records, r.acked = true ∨ 3 ≤ r.level ∨ r.timeInLevel < s.intervalMs r.severity)
    (id : Nat) : s.escalationDue id = false := by
  unfold State.escalationDue
  split
  next => rfl
  next r hr => rcases h r (List.mem_of_find?_eq_some hr) with h | h | h <;> simp [h]

/-! ### A state in which nothing is due -/

/-- No timer of the arbiter, the stations and the alert table reaches its limit, and nothing waits. -/
structure State.TimersShort (u : State) : Prop where
  waits : u.nothingWaits
  waiting : ∀ e ∈ u.arbiter.waiting, e.urgent = true ∨ u.arbiter.waitLimit = 0 ∨ e.waited < u.arbiter.waitLimit
  rests : ∀ st, (u.station st).state = .resting → (u.station st).restRemaining ≠ 0
  idle : ∀ st, (u.station st).idleLimit = 0 ∨ (u.station st).idleTime < (u.station st).idleLimit * 1000
  alerts : ∀ r ∈ u.alerts.records, r.acked = true ∨ 3 ≤ r.level ∨ r.timeInLevel < u.intervalMs r.severity

/-- No sample and no timer of the blocks brings an event to the part in service. -/
structure State.NothingDue (u : State) : Prop extends u.TimersShort where
  serving : u.part.condition = .inService
  trigger : u.scanner.triggerLevel = some true → u.pins.trigger = true
  period : u.scanner.periodRemaining ≠ some 0
  buttons : ∀ b, u.buttonCalm b
  axes : ∀ x, u.axisCalm x

variable {u : State}

/-- The buttons' millisecond with nothing due: each is sampled (R2). -/
theorem buttons_quiet (h : u.NothingDue) :
    ∃ bs, allButtons.foldl (fun t b => t.runEvent fun v => v.sampleButton b) u = { u with buttons := bs } ∧
      ∀ b, bs.get b = u.sampledButton b := by
  obtain ⟨bs, hfold, hget⟩ := foldl_entries (fun v => ({ u with buttons := v } : State))
    (fun t b => t.runEvent fun v => v.sampleButton b) u.sampledButton allButtons u.buttons (by decide) fun w b _ hw => by
      have record : ({ u with buttons := w } : State).button b = u.button b := hw
      have calm : ({ u with buttons := w } : State).buttonCalm b := by
        have := h.buttons b
        unfold State.buttonCalm State.buttonSample at this ⊢
        rw [record]
        exact this
      have sampled : ({ u with buttons := w } : State).sampledButton b = u.sampledButton b := by
        unfold State.sampledButton State.buttonSample
        rw [record]
      have own : ({ u with buttons := w } : State).sampleButton b =
          { u with buttons := w.set b.val (u.sampledButton b) b.isLt } := by
        rw [sampleButton_quiet calm, sampled]
        rfl
      rw [runEvent_quiet (by rw [own]; exact h.waits) (by rw [own]) (by rw [own]), own]
  exact ⟨bs, hfold, fun b => by rw [hget b, if_pos (mem_allButtons b)]⟩

/-- The axes' millisecond with nothing due: each is sampled, and its dwell counted (R78, R68). -/
theorem axes_quiet (h : ∀ x, u.axisCalm x) :
    ∃ xs, allAxes.foldl (fun t x => t.axisMillisecond x (([] : List AxisId).contains x)) u = { u with axes := xs } ∧
      ∀ x, xs.get x = u.sampledAxis x := by
  obtain ⟨xs, hfold, hget⟩ := foldl_entries (fun v => ({ u with axes := v } : State))
    (fun t x => t.axisMillisecond x (([] : List AxisId).contains x)) u.sampledAxis allAxes u.axes (by decide)
    fun w x _ hw => by
      have record : ({ u with axes := w } : State).axis x = u.axis x := hw
      have sample : ∀ side, ({ u with axes := w } : State).stopSample x side = u.stopSample x side := by
        intro side
        unfold State.stopSample
        rw [record]
        cases side <;> rfl
      have calm : ({ u with axes := w } : State).axisCalm x := by
        have := h x
        unfold State.axisCalm at this ⊢
        simp only [record, sample]
        exact this
      have sampled : ({ u with axes := w } : State).sampledAxis x = u.sampledAxis x := by
        unfold State.sampledAxis
        simp only [record, sample]
      show State.axisMillisecond _ x false = _
      rw [axisMillisecond_quiet calm, sampled]
      rfl
  exact ⟨xs, hfold, fun x => by rw [hget x, if_pos (mem_allAxes x)]⟩

/-- With the timers short no entry becomes urgent (R103). -/
theorem markUrgent_short (h : u.TimersShort) : u.runEvent (fun t => t.markUrgent t.arbiter.reached) = u := by
  have own : u.markUrgent u.arbiter.reached = u := markUrgent_quiet fun e he hd => by
    obtain ⟨hlimit, hreached⟩ : u.arbiter.waitLimit ≠ 0 ∧ u.arbiter.waitLimit ≤ e.waited := by
      simpa [Arbiter.reached] using hd
    rcases h.waiting e he with hu | hz | hw
    · exact hu
    · exact absurd hz hlimit
    · omega
  have quiet : u.runEvent (fun t => t.markUrgent t.arbiter.reached) = u.markUrgent u.arbiter.reached :=
    runEvent_quiet (by rw [own]; exact h.waits) (by rw [own]) (by rw [own])
  rw [quiet, own]

/-- With the timers short no rest ends and no show times out (R28, R30). -/
theorem stations_short (h : u.TimersShort) : allStations.foldl State.stationMillisecond u = u :=
  List.foldl_fixed' (fun st => stationMillisecond_quiet (h.rests st) (h.idle st)) _

/-- With the timers short no record escalates (R145). -/
theorem escalations_short (h : u.TimersShort) (ids : List Nat) :
    ids.foldl (fun t id => t.runWhen (t.escalationDue id) fun v => v.escalate id) u = u :=
  List.foldl_fixed' (fun id => runWhen_false (escalationDue_quiet h.alerts id)) ids

/-- The blocks' millisecond from its parts, when no timer reaches its limit. -/
theorem blocksMillisecond_parts {s1 s2 v : State} (htrigger : u.runEvent State.sampleTrigger = s1)
    (hperiod : s1.scanner.periodRemaining ≠ some 0) (hserving : s1.part.condition = .inService)
    (hbuttons : allButtons.foldl (fun t b => t.runEvent fun w => w.sampleButton b) s1 = s2)
    (haxes : allAxes.foldl (fun t x => t.axisMillisecond x (([] : List AxisId).contains x)) s2 = v)
    (h : v.TimersShort) : u.blocksMillisecond [] = v := by
  unfold State.blocksMillisecond
  dsimp only
  rw [htrigger, runWhen_false (g := State.periodExpiry) (decide_eq_false hperiod),
    if_pos (serving_of_inService hserving), hbuttons, haxes, markUrgent_short h, stations_short h, escalations_short h]

/-- The blocks' millisecond with nothing due and no axis moving: the samples alone. -/
theorem blocksMillisecond_quiet (h : u.NothingDue) :
    ∃ bs xs,
      u.blocksMillisecond [] =
        { u with scanner := { u.scanner with triggerLevel := some u.pins.trigger }, buttons := bs, axes := xs } ∧
      (∀ b, bs.get b = u.sampledButton b) ∧ ∀ x, xs.get x = u.sampledAxis x := by
  have trigger : u.runEvent State.sampleTrigger = u.setTriggerLevel u.pins.trigger := by
    have own := sampleTrigger_quiet h.trigger
    rw [runEvent_quiet (by rw [own]; exact h.waits) (by rw [own]; rfl) (by rw [own]; rfl), own]
  have due : (u.setTriggerLevel u.pins.trigger).NothingDue :=
    { waits := h.waits, waiting := h.waiting, rests := h.rests, idle := h.idle, alerts := h.alerts, serving := h.serving,
      trigger := fun e => by simpa [State.setTriggerLevel] using e, period := h.period, buttons := h.buttons,
      axes := h.axes }
  obtain ⟨bs, hbuttons, hbs⟩ := buttons_quiet due
  obtain ⟨xs, haxes, hxs⟩ := axes_quiet (u := { u.setTriggerLevel u.pins.trigger with buttons := bs }) h.axes
  exact ⟨bs, xs, blocksMillisecond_parts trigger h.period h.serving hbuttons haxes
    { waits := h.waits, waiting := h.waiting, rests := h.rests, idle := h.idle, alerts := h.alerts }, hbs, hxs⟩

/-! ### The counts of a calm millisecond -/

theorem vector_get_ofFn {α : Type} {n : Nat} (f : Fin n → α) (i : Fin n) : (Vector.ofFn f).get i = f i :=
  Vector.getElem_ofFn i.isLt

theorem counted_station (st : StationId) :
    s.countAlways.countBlocks.station st = (s.station st).count (s.idleRuns st) := vector_get_ofFn _ st

theorem counted_axis (x : AxisId) : s.countAlways.countBlocks.axis x = (s.axis x).count (s.rehearses x) :=
  vector_get_ofFn _ x

/-- The gap time of a link counts while its receiver is IN_FRAME (R184). -/
theorem Link.count_eq (k : Link) :
    k.count = { k with gapTime := if k.receiver.isSome then k.gapTime + 1 else k.gapTime } := by
  unfold Link.count
  split <;> rfl

/-- The elapsed time of a rehearsal counts while the axis is active, and the tick's pulses start at 0 (R83). -/
theorem Axis.count_eq (a : Axis) (rehearses : Bool) :
    a.count rehearses =
      { a with
        elapsed := if rehearses ∧ a.state.active then min 16777215 (a.elapsed + 1) else a.elapsed
        stepPulses := 0 } := by
  unfold Axis.count satAdd
  cases rehearses <;> cases a.state.active <;> rfl

/-- The counts leave what waits, and what each axis's samples read. -/
theorem counted_nothingWaits (h : s.nothingWaits) : s.countAlways.countBlocks.nothingWaits := by
  obtain ⟨⟨hholder, hslot, hpass⟩, hhanded, hline⟩ := h
  have link : s.countAlways.countBlocks.link = s.link.count := rfl
  refine ⟨⟨?_, ?_, hpass⟩, hhanded, hline⟩
  · rw [link, Link.count_eq]
    exact hholder
  · rw [link, Link.count_eq]
    exact hslot

theorem counted_stopSample (x : AxisId) (side : StopSide) :
    s.countAlways.countBlocks.stopSample x side = s.stopSample x side := by
  unfold State.stopSample
  rw [counted_axis]
  cases side <;> rfl

theorem counted_axisCalm {x : AxisId} (h : s.axisCalm x) : s.countAlways.countBlocks.axisCalm x := by
  unfold State.axisCalm at h ⊢
  simp only [counted_stopSample, counted_axis]
  exact ⟨h.1, fun
    | .low => h.2 .low
    | .high => h.2 .high⟩

/-- After the counts of a calm part nothing is due. -/
theorem counted_nothingDue (h : s.calm) : s.countAlways.countBlocks.NothingDue := by
  obtain ⟨hserving, hfree, hhanded, hline, -, -, htrigger, hperiod, hbuttons, haxes, hwaiting, hstations, halerts⟩ := h
  refine { waits := counted_nothingWaits ⟨hfree, hhanded, hline⟩, waiting := ?_, rests := ?_, idle := ?_, alerts := ?_,
           serving := hserving, trigger := htrigger, period := ?_, buttons := hbuttons,
           axes := fun x => counted_axisCalm (haxes x).2 }
  · intro e he
    obtain ⟨e0, he0, rfl⟩ := List.mem_map.1 he
    rcases hwaiting e0 he0 with hu | hz | hw
    · exact Or.inl hu
    · exact Or.inr (Or.inl hz)
    · exact Or.inr (Or.inr (lt_of_le_of_lt (Nat.min_le_right _ _) hw))
  · intro st hr
    rw [counted_station] at hr ⊢
    have := (hstations st).1 hr
    simp only [Station.count] at hr ⊢
    rw [if_pos hr]
    omega
  · intro st
    rw [counted_station]
    refine (hstations st).2.imp id fun hi => lt_of_le_of_lt ?_ hi
    simp only [Station.count, satAdd]
    split <;> omega
  · intro r hr
    obtain ⟨r0, hr0, rfl⟩ := List.mem_map.1 hr
    unfold Alert.count
    rcases halerts r0 hr0 with ha | hl | ht
    · simp [ha]
    · split
      next ha => exact Or.inl ha
      next => exact Or.inr (Or.inl hl)
    · split
      next ha => exact Or.inl ha
      next => exact Or.inr (Or.inr (lt_of_le_of_lt (Nat.min_le_right _ _) ht))
  · intro hp
    obtain ⟨n, hn, hzero⟩ := Option.map_eq_some_iff.1 hp
    have := hperiod n hn
    omega

/-- A calm millisecond's state before the samples of its blocks: the counts, and the sample of the STOP line. -/
def State.counted (s : State) : State :=
  { s.countAlways.countBlocks with
    stopLine := { s.stopLine with sample := some (!s.pins.stop), run := s.stopRun } }

/-- A calm millisecond: the counts, then the samples (log entry 2). -/
theorem tick_calm (h : s.calm) :
    ∃ bs xs,
      s.tick =
        { s.counted with
          scanner := { s.counted.scanner with triggerLevel := some s.pins.trigger }
          buttons := bs, axes := xs } ∧
      (∀ b, bs.get b = s.sampledButton b) ∧ ∀ x, xs.get x = s.countAlways.countBlocks.sampledAxis x := by
  have due := counted_nothingDue h
  obtain ⟨hserving, -, hhanded, -, hgap, hstop, -, -, -, haxes, -⟩ := h
  have moved : (allAxes.filter fun x => (s.axis x).state.moving) = [] := by
    rw [List.filter_eq_nil_iff]
    intro x _
    simp [(haxes x).1]
  have gap : s.countAlways.countBlocks.link.receiver ≠ none → s.countAlways.countBlocks.link.gapTime < 21 := by
    have link : s.countAlways.countBlocks.link = s.link.count := rfl
    rw [link, Link.count_eq]
    intro hr
    have := hgap hr
    have : s.link.receiver.isSome = true := Option.isSome_iff_ne_none.2 hr
    simp only [this, if_true]
    omega
  have stop : s.countAlways.countBlocks.runEvent State.sampleStop = s.counted := by
    have own := sampleStop_quiet (s := s.countAlways.countBlocks) hstop
    rw [runEvent_quiet (by rw [own]; exact due.waits) (by rw [own]) (by rw [own]), own]
    rfl
  have serves : ∀ v : State, v.part.condition = .inService → v.isTesting = false := fun v hv => by
    simp [State.isTesting, hv]
  obtain ⟨bs, xs, hblocks, hbs, hxs⟩ := blocksMillisecond_quiet (u := s.counted)
    { waits := due.waits, waiting := due.waiting, rests := due.rests, idle := due.idle, alerts := due.alerts,
      serving := due.serving, trigger := due.trigger, period := due.period, buttons := due.buttons, axes := due.axes }
  refine ⟨bs, xs, ?_, hbs, hxs⟩
  unfold State.tick
  dsimp only
  rw [drain_of_nil hhanded, moved, serves s hserving, if_neg Bool.false_ne_true, gapExpiry_quiet due.waits gap, stop,
    serves s.counted hserving, if_neg Bool.false_ne_true, hblocks]
  rfl

/-- Settles O2. -/
theorem emptyQueueIsOneMillisecond : Obligations.EmptyQueueIsOneMillisecond := by
  have empty : ∀ s : State, s.pending = [] → step s = .next s.tick := fun s hp => by
    unfold step
    rw [hp]
  constructor
  · intro s hp
    obtain ⟨hpart, hpins, hpending⟩ := tick_outside s
    exact ⟨s.tick, empty s hp, hpart, hpins, hpending.trans hp⟩
  · intro s hp hcalm
    obtain ⟨bs, xs, htick, hbs, hxs⟩ := tick_calm hcalm
    refine ⟨s.tick, empty s hp, ?_, fun b => ?_, fun st => ?_, fun x => ?_⟩
    · rw [htick, ← Link.count_eq]
      rfl
    · rw [htick]
      exact hbs b
    · rw [htick]
      exact counted_station st
    · rw [htick]
      refine (hxs x).trans ?_
      unfold State.sampledAxis
      rw [counted_stopSample, counted_stopSample, counted_axis, Axis.count_eq]
      rfl

end Sys2Proof.Machine
end

section
/-! PROOFS. The tests of a station: what a disposition handed to an axis leaves, the lock test and the activity test. -/

namespace Sys2Proof.Machine

variable {s t u : State} {x : AxisId} {st : StationId}

/-! ### What an axis's change of state leaves (R59) -/

/-- A LOCKED station with no rest and no idle time left, as R33 leaves it. -/
def Station.lockedIdle (r : Station) : Prop := r.state = .locked ∧ r.restRemaining = 0 ∧ r.idleTime = 0

/-- A move of one axis: every other axis stands, and its reports wake no locked station. -/
structure AxisMove (x : AxisId) (s t : State) : Prop where
  axis : ∀ y, y ≠ x → t.axis y = s.axis y
  locked : ∀ st, (s.station st).lockedIdle → (t.station st).lockedIdle

theorem AxisMove.of_same (ha : t.axes = s.axes) (hs : t.stations = s.stations) : AxisMove x s t where
  axis y _ := by rw [State.axis, ha, State.axis]
  locked st h := by rwa [State.station, hs]

theorem AxisMove.trans (h : AxisMove x s t) (k : AxisMove x t u) : AxisMove x s u where
  axis y hy := (k.axis y hy).trans (h.axis y hy)
  locked st hst := k.locked st (h.locked st hst)

theorem putAxis_axisMove (a : Axis) : AxisMove x s (s.putAxis x a) where
  axis _ hy := State.putAxis_axis_ne s (Ne.symm hy) a
  locked _ h := h

theorem post_axisMove (l : LineId) (c : Cause) (d : Details → Details) : AxisMove x s (s.post l c d) :=
  .of_same (s.post_axes l c d) (s.post_stations l c d)

theorem scanTrigger_stations (src : ScanSource) : (s.scanTrigger src).stations = s.stations := by
  unfold State.scanTrigger
  split
  · split
    · rfl
    · rfl
    · split
      · exact s.post_stations _ _ _
      · rfl
  · rfl

theorem restStation_station_ne {j : StationId} (h : st ≠ j) : (s.restStation st).station j = s.station j := by
  unfold State.restStation
  dsimp only
  split <;> rw [State.post_station, State.putStation_station_ne s h]

/-- The activity test ends shows alone: a locked station stands (R27). -/
theorem testActivity_lockedIdle {j : StationId} (h : (s.station j).lockedIdle) :
    ((s.testActivity st).station j).lockedIdle := by
  unfold State.testActivity
  split
  · rename_i ends
    have other : st ≠ j := fun e => by
      have := h.1
      rw [← e, ends.1] at this
      cases this
    rwa [restStation_station_ne other]
  · exact h

/-- A station whose idle time restarts stays locked (R29). -/
theorem restartIdle_lockedIdle {j : StationId} (h : (s.station j).lockedIdle) :
    ((s.putStation st { s.station st with idleTime := 0 }).station j).lockedIdle := by
  by_cases e : st = j
  · subst e
    rw [State.putStation_station_self]
    exact ⟨h.1, h.2.1, rfl⟩
  · rwa [State.putStation_station_ne s e]

theorem reportState_axisMove (old new : AxisState) : AxisMove x s (s.reportState x old new) where
  axis y _ := (reportState_sameBut s x old new).axis y
  locked j h := by
    unfold State.reportState
    split
    · exact h
    · dsimp only
      split <;> split
      · exact testActivity_lockedIdle (restartIdle_lockedIdle h)
      · exact testActivity_lockedIdle h
      · exact restartIdle_lockedIdle h
      · exact h

theorem enter_axisMove (new : AxisState) (f : Axis → Axis) : AxisMove x s (s.enter x new f) := by
  have reported := (putAxis_axisMove (s := s) (x := x) ((f (s.axis x)).settled new)).trans
    (reportState_axisMove (s.axis x).state new)
  unfold State.enter
  dsimp only
  split
  · exact reported.trans (.of_same (scanTrigger_sameBut _ _).axes (scanTrigger_stations _))
  · exact reported

theorem disarm_axisMove (keep : Bool) : AxisMove x s (s.disarm x keep) := by
  unfold State.disarm
  split
  · exact .of_same rfl rfl
  · refine AxisMove.trans ?_ (enter_axisMove _ _)
    rw [unpinChain_only]
    exact .of_same rfl rfl

theorem settlePair_axisMove (y : AxisId) : AxisMove x s (s.settlePair y) := by
  unfold State.settlePair
  dsimp only
  split
  · exact .of_same rfl rfl
  · exact .of_same rfl rfl

theorem settleBy_axisMove (d : Disposition) : AxisMove x s (s.settleBy x d) := by
  have paused : AxisMove x s (s.enter x .paused) := enter_axisMove _ _
  have armed : AxisMove x s (s.enter x .armed fun a => { a with current := a.start.map .entry }) := enter_axisMove _ _
  have disarmed : AxisMove x s (s.disarm x false) := disarm_axisMove _
  have posted : ∀ {t : State} {p : PairCtx} {l : LineId} {c : Cause} {f : Details → Details}, AxisMove x s t →
      AxisMove x s ((t.putPair x p).post l c f) := fun {t p _ _ _} h =>
    (h.trans (.of_same (t := t.putPair x p) rfl rfl)).trans (post_axisMove _ _ _)
  unfold State.settleBy
  dsimp only
  refine AxisMove.trans ?_ (settlePair_axisMove x)
  cases d with
  | pause => exact ite_kept (posted paused) paused
  | abandon => exact ite_kept (posted (ite_kept disarmed armed)) (ite_kept disarmed armed)
  | disarm => exact ite_kept (posted disarmed) disarmed

/-- An axis that receives a disposition moves alone (R74). -/
theorem handDisposition_axisMove (d : Disposition) : AxisMove x s (s.handDisposition x d) := by
  unfold State.handDisposition
  split
  · exact enter_axisMove _ _
  · exact putAxis_axisMove _
  · exact AxisMove.trans (t := s.withdraw x) (.of_same rfl rfl) (settleBy_axisMove d)
  · exact settleBy_axisMove d
  · exact settleBy_axisMove d
  · exact ite_kept (disarm_axisMove false) (.of_same rfl rfl)
  · exact .of_same rfl rfl

theorem handAll_axis_of_not_mem {y : AxisId} (d : Disposition) :
    ∀ {xs : List AxisId} {s : State}, y ∉ xs → (s.handAll xs d).axis y = s.axis y
  | [], _, _ => rfl
  | x :: xs, s, h => by
    obtain ⟨hx, hxs⟩ : y ≠ x ∧ y ∉ xs := by simpa using h
    calc (s.handAll (x :: xs) d).axis y = (s.handDisposition x d).axis y := handAll_axis_of_not_mem d hxs
      _ = s.axis y := (handDisposition_axisMove d).axis y hx

theorem handAll_lockedIdle (xs : List AxisId) (d : Disposition) (h : (s.station st).lockedIdle) :
    ((s.handAll xs d).station st).lockedIdle :=
  foldl_kept (P := fun t : State => (t.station st).lockedIdle)
    (fun _ _ ht => (handDisposition_axisMove d).locked st ht) xs s h

/-! ### The lock condition and the lock test (R32 to R34) -/

theorem lockCondition_iff :
    s.lockCondition st = true ↔
      (∃ a ∈ s.alerts.records, a.severity = .lockout ∧ (a.station = none ∨ a.station = some st)) ∨
        (s.station st).latch = true := by
  simp [State.lockCondition, State.lockoutStored, Alert.locks]

theorem testLock_offline (h : (s.station st).state = .offline) : s.testLock st = s := by
  unfold State.testLock
  rw [h]

theorem testLock_stays (h : (s.station st).state = .locked) (hc : s.lockCondition st = true) : s.testLock st = s := by
  unfold State.testLock
  rw [h]
  exact if_pos hc

theorem testLock_unlocks (h : (s.station st).state = .locked) (hc : ¬ s.lockCondition st = true) :
    s.testLock st = s.restStation st := by
  unfold State.testLock
  rw [h]
  exact if_neg hc

theorem testLock_unlocked (h : (s.station st).state ≠ .locked) (hc : ¬ s.lockCondition st = true) :
    s.testLock st = s := by
  unfold State.testLock
  split
  · rfl
  · contradiction
  · exact if_neg hc

theorem testLock_locks (ho : (s.station st).state ≠ .offline) (hl : (s.station st).state ≠ .locked)
    (hc : s.lockCondition st = true) : s.testLock st = s.lockStation st := by
  unfold State.testLock
  split
  · contradiction
  · contradiction
  · exact if_pos hc

theorem members_eq : s.members st = allAxes.filter fun x => (s.axis x).cfg.station = some st := rfl

/-- A station that goes to LOCKED posts LOCKED and hands DISARM to its members (R33). -/
theorem lockStation_eq :
    s.lockStation st =
      ((s.putStation st { s.station st with state := .locked, restRemaining := 0, idleTime := 0 }).post
        (stationLine st) .locked).handAll (s.members st) .disarm := by
  have same : ∀ r : Station, ((s.putStation st r).post (stationLine st) .locked).members st = s.members st := fun r => by
    simp [members_eq]
  unfold State.lockStation
  dsimp only
  rw [same]

theorem lockStation_lockedIdle : ((s.lockStation st).station st).lockedIdle := by
  rw [lockStation_eq]
  apply handAll_lockedIdle
  rw [State.post_station, State.putStation_station_self]
  exact ⟨rfl, rfl, rfl⟩

theorem lockStation_axis {y : AxisId} (h : (s.axis y).cfg.station ≠ some st) :
    (s.lockStation st).axis y = s.axis y := by
  rw [lockStation_eq, handAll_axis_of_not_mem .disarm (by simp [members_eq, h]), State.post_axis, State.putStation_axis]

/-! ### The activity test (R27) -/

theorem isActive_iff : s.isActive x = true ↔ (s.axis x).state ≠ .disarmed ∧ (s.axis x).state ≠ .armed := by
  unfold State.isActive
  cases (s.axis x).state <;> simp [AxisState.active]

theorem testActivity_ends (h : (s.station st).state = .showing) (hm : ∀ x ∈ s.members st, ¬ s.isActive x = true) :
    s.testActivity st = s.restStation st :=
  if_pos ⟨h, by simpa using hm⟩

theorem testActivity_goes_on (h : (s.station st).state ≠ .showing ∨ ∃ x ∈ s.members st, s.isActive x = true) :
    s.testActivity st = s := by
  refine if_neg fun ⟨hs, hm⟩ => ?_
  rcases h with h | ⟨x, hx, ha⟩
  · exact h hs
  · have inactive : (s.members st).any s.isActive = false := by simpa using hm
    exact List.any_eq_false.1 inactive x hx ha

/-- Settles O24, by the branches of the two tests; a disposition moves its own axis alone and wakes no locked station. -/
theorem lockAndActivityTests : Obligations.LockAndActivityTests := by
  intro st s r lock members active rested t
  have condition : s.lockCondition st = true ↔ lock := lockCondition_iff
  have activity : ∀ x, s.isActive x = true ↔ active x := fun x => isActive_iff
  refine ⟨testLock_offline, fun h hc => testLock_stays h (condition.2 hc),
    fun h hc => testLock_unlocks h (mt condition.1 hc), fun h hc => testLock_unlocked h (mt condition.1 hc),
    fun ho hl hc => ?locks, fun h hm => testActivity_ends h fun x hx => mt (activity x).1 (hm x hx),
    fun h => testActivity_goes_on (h.imp_right fun ⟨x, hx, ha⟩ => ⟨x, hx, (activity x).2 ha⟩)⟩
  case locks =>
    have locks : t = s.lockStation st := testLock_locks ho hl (condition.2 hc)
    obtain ⟨hstate, hrest, hidle⟩ := lockStation_lockedIdle (s := s) (st := st)
    rw [locks]
    exact ⟨lockStation_eq, hstate, hrest, hidle, fun x => or_iff_not_imp_right.2 lockStation_axis⟩

end Sys2Proof.Machine
end

section
/-! PROOFS. The station commands, the end of a rest and the idle timeout, each as its event leaves it. -/

namespace Sys2Proof.Machine

variable {s : State} {tag station : Byte} {st : StationId}

/-! ### The timers' events (R28, R30) -/

theorem restExpiry_resting (h : (s.station st).state = .resting) :
    s.restExpiry st =
      (s.putStation st { s.station st with state := .ready, restRemaining := 0 }).post (stationLine st) .ready :=
  if_pos h

/-- The members that an idle timeout reaches are those that are PAUSED (R30). -/
theorem idleTimeout_due (hl : (s.station st).idleLimit ≠ 0) (hr : s.idleRuns st = true) :
    s.idleTimeout st =
      (s.post (stationLine st) .idleTimeout).handAll
        (allAxes.filter fun x => (s.axis x).cfg.station = some st ∧ (s.axis x).state = .paused) .abandon := by
  unfold State.idleTimeout
  rw [if_pos ⟨hl, hr⟩]
  simp [members_eq, List.filter_filter, and_comm]

/-! ### The five requests (R22 to R25, R31, R35) -/

theorem reqStationOnline_read (h : station.toNat = st.val) :
    reqStationOnline station s = (s.bringOnline st, replyBody .ok) := by
  unfold reqStationOnline
  rw [finOf_eq h]

theorem reqStationOffline_read (h : station.toNat = st.val) :
    reqStationOffline station s = (s.takeOffline st, replyBody .ok) := by
  unfold reqStationOffline
  rw [finOf_eq h]

theorem reqStationStart_read (h : station.toNat = st.val) :
    reqStationStart station s =
      ((s.startStation st).1, replyBody (if (s.startStation st).2 then .ok else .busy)) := by
  unfold reqStationStart
  rw [finOf_eq h]

theorem reqStationStop_read (h : station.toNat = st.val) :
    reqStationStop station s = (s.stopStation st, replyBody .ok) := by
  unfold reqStationStop
  rw [finOf_eq h]

theorem reqStationUnlock_read (h : station.toNat = st.val) :
    reqStationUnlock station s = (s.unlockStation st, replyBody .ok) := by
  unfold reqStationUnlock
  rw [finOf_eq h]

theorem startStation_taken (h : (s.station st).state = .ready) (hc : allAxes.filter (s.startSelects st) ≠ []) :
    s.startStation st =
      (((s.enterShowing st).triggerAll (allAxes.filter (s.startSelects st))).testActivity st, true) := by
  rw [startStation_eq, if_pos ⟨h, hc⟩]

theorem startStation_refused (h : (s.station st).state ≠ .ready ∨ allAxes.filter (s.startSelects st) = []) :
    s.startStation st = (s.refuseStart st, false) := by
  rw [startStation_eq, if_neg fun ⟨hs, hc⟩ => h.elim (· hs) hc]

theorem bringOnline_eq :
    s.bringOnline st =
      if (s.station st).state ≠ .offline then s
      else if s.lockCondition st then
        (s.putStation st { s.station st with state := .locked, idleTime := 0 }).post (stationLine st) .locked
      else (s.putStation st { s.station st with state := .ready }).post (stationLine st) .ready :=
  (ite_not ..).symm

/-- The members of a station that goes OFFLINE are those it had (R20, R23). -/
theorem takeOffline_eq :
    s.takeOffline st =
      if (s.station st).state = .offline then s
      else
        ((s.putStation st { s.station st with state := .offline, restRemaining := 0, idleTime := 0 }).post
          (stationLine st) .offline).handAll (allAxes.filter fun x => (s.axis x).cfg.station = some st) .disarm := by
  unfold State.takeOffline
  simp only [members_eq, State.post_axis, State.putStation_axis]

/-- Settles O23, request by request through what its action comes to. -/
theorem stationCommandsRestAndIdle : Obligations.StationCommandsRestAndIdle := by
  refine ⟨?rest, ?idle, ?start, ?online, ?stop⟩
  case rest =>
    intro st s h
    rw [← restExpiry_resting h]
    exact eventWhen_outcome (by simpa using h)
  case idle =>
    intro st s hl hr
    rw [← idleTimeout_due hl hr]
    exact eventWhen_outcome (by simp [hl, hr])
  case start =>
    intro tag station st s ha ht hst chosen
    rw [exec_stationCommandStart ha ht station, reqStationStart_read hst]
    constructor
    · intro hs hc
      rw [startStation_taken hs hc]
      rfl
    · intro h
      rw [startStation_refused h]
      rfl
  case online =>
    intro tag station st s ha ht hst
    rw [exec_stationCommandOnline ha ht station, exec_stationCommandOffline ha ht station, reqStationOnline_read hst,
      reqStationOffline_read hst, ← bringOnline_eq, ← takeOffline_eq]
    exact ⟨rfl, rfl⟩
  case stop =>
    intro tag station st s ha ht hst
    rw [exec_stationCommandStop ha ht station, exec_stationCommandUnlock ha ht station, reqStationStop_read hst,
      reqStationUnlock_read hst]
    exact ⟨rfl, rfl⟩

end Sys2Proof.Machine
end

section
/-! PROOFS. The alert table's records: a merge, a new record and its id, a lost alert, an acknowledgement, a removal and a cleared
condition. -/

namespace Sys2Proof.Machine

variable {s : State} {r : Alert} {kind : AlertKind} {sev : Severity} {source : Nat} {target : Option StationId}

/-! ### The next id (R138) -/

/-- The search for a free id passes over taken ids alone. -/
theorem freeId_passes (rs : List Alert) : ∀ fuel n : Nat,
    ∃ k, freeId rs fuel n = idAfter k n ∧ ∀ j < k, ∃ r ∈ rs, r.id = idAfter j n
  | 0, n => ⟨0, rfl, fun _ hj => absurd hj (Nat.not_lt_zero _)⟩
  | fuel + 1, n => by
    unfold freeId
    split
    · rename_i taken
      obtain ⟨k, hk, passed⟩ := freeId_passes rs fuel (nextIdAfter n)
      refine ⟨k + 1, hk, fun j hj => ?_⟩
      cases j with
      | zero => simpa [idAfter] using taken
      | succ j => exact passed j (by omega)
    · exact ⟨0, rfl, fun _ hj => absurd hj (Nat.not_lt_zero _)⟩

/-- The ids from the one after `n`, wrapping from 65,535 to 1. -/
theorem idAfter_next {n : Nat} (k : Nat) (h1 : 1 ≤ n) (h2 : n ≤ 65535) :
    idAfter k (nextIdAfter n) = (n + k) % 65535 + 1 := by
  have : n - 1 + (k + 1) = n + k := by omega
  rw [← this]
  exact idAfter_eq (k + 1) h1 h2

/-- With at most 16 records, the next id is the first free one after the current (R138). -/
theorem freeId_next {rs : List Alert} {n : Nat} (hlen : rs.length ≤ 16) (h1 : 1 ≤ n) (h2 : n ≤ 65535) :
    ∃ k, freeId rs 17 (nextIdAfter n) = (n + k) % 65535 + 1 ∧ (∀ r ∈ rs, r.id ≠ freeId rs 17 (nextIdAfter n)) ∧
      ∀ j, j < k → ∃ r ∈ rs, r.id = (n + j) % 65535 + 1 := by
  obtain ⟨low, high⟩ := nextIdAfter_range h1
  obtain ⟨k, hk, passed⟩ := freeId_passes rs 17 (nextIdAfter n)
  refine ⟨k, hk.trans (idAfter_next k h1 h2), freeId_new hlen low high, fun j hj => ?_⟩
  rw [← idAfter_next j h1 h2]
  exact passed j hj

/-! ### The records (R139 to R148) -/

theorem isCondition_iff : kind.isCondition = true ↔ kind = .stuckButton ∨ kind = .stopLine := by
  cases kind <;> simp [AlertKind.isCondition]

theorem hasIdentity_iff :
    r.hasIdentity kind source target = true ↔ r.kind = kind ∧ r.source = source ∧ r.station = target := by
  simp [Alert.hasIdentity, and_assoc]

/-- The condition flag of a record of a kind when it is raised (R139). -/
theorem raisedCondition_eq :
    (if kind.isCondition then some true else none) =
      if kind = .stuckButton ∨ kind = .stopLine then some true else none :=
  if_congr isCondition_iff rfl rfl

theorem acknowledge_acked (h : r.acked = true) : s.acknowledge r = s := if_pos h

theorem acknowledge_raised (h : r.acked = false) :
    s.acknowledge r =
      (let q := { r with acked := true }
       let t := (s.updateRecord r.id fun _ => q).postAlert .acknowledged q.detail
       if r.condition = some false then t.removeRecord q else t) :=
  if_neg (by simp [h])

theorem clearCondition_found (h : s.alerts.records.find? (·.hasIdentity kind source target) = some r) :
    s.clearCondition kind source target =
      (let q := { r with condition := some false }
       if r.acked then (s.updateRecord r.id fun _ => q).removeRecord q else s.updateRecord r.id fun _ => q) := by
  unfold State.clearCondition
  rw [h]

theorem clearCondition_absent (h : s.alerts.records.find? (·.hasIdentity kind source target) = none) :
    s.clearCondition kind source target = s := by
  unfold State.clearCondition
  rw [h]

/-- A merge, with the kinds of R139 and the rise to LOCKOUT said in full (R140, R143). -/
theorem mergeAlert_eq :
    s.mergeAlert r sev =
      (let rises : Bool := severityCode r.severity < severityCode sev
       let opens := r.acked || rises
       let q : Alert :=
         { r with
           repeats := min 255 (r.repeats + 1)
           condition := if r.kind = .stuckButton ∨ r.kind = .stopLine then some true else none
           severity := if rises then sev else r.severity
           acked := false
           level := if opens then 0 else r.level
           timeInLevel := if opens then 0 else r.timeInLevel }
       let t := if opens then (s.updateRecord r.id fun _ => q).postAlert .raised q.detail
         else s.updateRecord r.id fun _ => q
       if rises ∧ sev = .lockout then t.testLocks r.station else t) := by
  unfold State.mergeAlert
  simp only [raisedCondition_eq, Bool.and_eq_true, decide_eq_true_eq, satAdd]

/-- The record that a new alert brings (R141). -/
def State.newRecord (s : State) (kind : AlertKind) (sev : Severity) (source : Nat) (target : Option StationId) : Alert :=
  { id := s.alerts.nextId, kind := kind, severity := sev, station := target, source := source, acked := false,
    condition := if kind = .stuckButton ∨ kind = .stopLine then some true else none, level := 0, timeInLevel := 0,
    repeats := 1, raiseTime := s.part.uptime }

theorem appendAlert_eq :
    s.appendAlert kind sev source target =
      (let q := s.newRecord kind sev source target
       let rs := s.alerts.records ++ [q]
       let t := ({ s with
         alerts := { s.alerts with records := rs, nextId := freeId rs 17 (nextIdAfter s.alerts.nextId) } } : State).postAlert
           .raised q.detail
       if sev = .lockout then t.testLocks target else t) := by
  unfold State.appendAlert State.newRecord
  simp only [raisedCondition_eq]

/-- Settles O51, from one equation for each operation of the table and the search for the next id. -/
theorem alertRecords : Obligations.AlertRecords := by
  intro s posted detail named tested written
  have names : ∀ target, named target = stationsOf target := fun target => by cases target <;> rfl
  have tests : tested = State.testLocks :=
    funext₂ fun t target => congrArg (List.foldl (fun u st => u.testLock st) t) (names target)
  refine ⟨?merge, ?raise, ?leave, ?clear⟩
  case merge =>
    intro r sev rises opens q t
    rw [mergeAlert_eq, tests]
    rfl
  case raise =>
    intro kind sev source target q
    refine ⟨⟨freeId (s.alerts.records ++ [q]) 17 (nextIdAfter s.alerts.nextId), ?_, fun h1 h2 hlen => ?_⟩, ?_⟩
    · rw [appendAlert_eq, tests]
      rfl
    · exact freeId_next (by simp; omega) h1 h2
    · rw [names]
      rfl
  case leave =>
    intro r
    refine ⟨?_, acknowledge_acked, acknowledge_raised⟩
    rw [tests]
    rfl
  case clear =>
    intro kind source target mine
    have identity : ∀ r : Alert, r.hasIdentity kind source target = true ↔ mine r := fun r => hasIdentity_iff
    refine ⟨fun h => clearCondition_absent (List.find?_eq_none.2 fun r hr => mt (identity r).1 (h r hr)), fun r h => ?_⟩
    have search : (fun q : Alert => q.hasIdentity kind source target) = fun q => decide (mine q) :=
      funext fun q => by rw [Bool.eq_iff_iff, identity, decide_eq_true_iff]
    exact clearCondition_found (search ▸ h)

end Sys2Proof.Machine
end

section
/-! PROOFS. The validation walk: the chain it finds is a linked path of entries to END, and a failing walk reports the first test that
fails on its way. -/

namespace Sys2Proof.Machine

variable {s t : State}

/-! ### Linked paths (R42, R43) -/

/-- The cue reference that a path starts at: its first entry, or END for the empty path. -/
def cueAt : List CueId → CueRef
  | [] => .chainStop
  | i :: _ => .entry i

/-- A path of next indices that leads to END, over entries without a fault. -/
def State.linked (s : State) : List CueId → Prop
  | [] => True
  | i :: rest => (s.cue i).body.chainFault = none ∧ (s.cue i).next = cueAt rest ∧ s.linked rest

theorem linked_fault : ∀ {chain : List CueId}, s.linked chain → ∀ i ∈ chain, (s.cue i).body.chainFault = none
  | [], _, _, hi => absurd hi List.not_mem_nil
  | j :: rest, ⟨hf, _, hr⟩, i, hi => by
    rcases List.mem_cons.mp hi with rfl | hi
    · exact hf
    · exact linked_fault hr i hi

/-- A path stands while its entries keep their bodies and their next indices. -/
theorem linked_congr : ∀ {chain : List CueId},
    (∀ i ∈ chain, (t.cue i).body = (s.cue i).body ∧ (t.cue i).next = (s.cue i).next) → s.linked chain → t.linked chain
  | [], _, _ => trivial
  | i :: rest, h, ⟨hf, hn, hr⟩ => by
    obtain ⟨hb, hx⟩ := h i List.mem_cons_self
    exact ⟨by rw [hb]; exact hf, by rw [hx]; exact hn, linked_congr (fun j hj => h j (List.mem_cons_of_mem _ hj)) hr⟩

/-- Each entry of a path names the one after it. -/
theorem linked_next : ∀ {chain : List CueId}, s.linked chain → ∀ k, k + 1 < chain.length →
    ∃ i j, chain[k]? = some i ∧ chain[k + 1]? = some j ∧ (s.cue i).next = .entry j
  | [], _, _, hk => absurd hk (Nat.not_lt_zero _)
  | [_], _, _, hk => absurd (Nat.lt_of_succ_lt_succ hk) (Nat.not_lt_zero _)
  | i :: j :: _, ⟨_, hn, _⟩, 0, _ => ⟨i, j, rfl, rfl, hn⟩
  | _ :: _ :: _, ⟨_, _, hr⟩, k + 1, hk => linked_next hr k (Nat.lt_of_succ_lt_succ hk)

/-- The last entry of a path names END. -/
theorem linked_last : ∀ {chain : List CueId}, s.linked chain → chain ≠ [] →
    ∃ i, chain.getLast? = some i ∧ (s.cue i).next = .chainStop
  | [], _, h => absurd rfl h
  | [i], ⟨_, hn, _⟩, _ => ⟨i, rfl, hn⟩
  | _ :: j :: rest, ⟨_, _, hr⟩, _ => by
    rw [List.getLast?_cons_cons]
    exact linked_last hr (List.cons_ne_nil _ _)

/-! ### The walk that succeeds -/

theorem walkFrom_ok : ∀ {fuel : Nat} {i : CueId} {visited chain : List CueId}, visited.Nodup → visited.length ≤ 32 →
    s.walkFrom fuel i visited = .ok chain →
    chain.Nodup ∧ chain.length ≤ 32 ∧ ∃ rest, chain = visited ++ i :: rest ∧ s.linked (i :: rest)
  | 0, _, _, _, _, _, h => by cases h
  | fuel + 1, i, visited, chain, hn, hl, h => by
    unfold State.walkFrom at h
    split at h
    · cases h
    · rename_i hi
      have hi : i ∉ visited := by simpa using hi
      split at h
      · cases h
      · rename_i hlim
        have hlim : visited.length < 32 := Nat.lt_of_not_le hlim
        have hn' : (visited ++ [i]).Nodup := by simpa [List.nodup_append] using ⟨hn, fun a ha e => hi (e ▸ ha)⟩
        have hl' : (visited ++ [i]).length ≤ 32 := by simpa using hlim
        split at h
        · cases h
        · rename_i hf
          split at h
          · rename_i hnext
            cases h
            exact ⟨hn', hl', [], rfl, hf, hnext, trivial⟩
          · rename_i j hnext
            obtain ⟨hd, hlen, rest, rfl, hr⟩ := walkFrom_ok hn' hl' h
            exact ⟨hd, hlen, j :: rest, by simp, hf, hnext, hr⟩

theorem walkFrom_linked : ∀ {fuel : Nat} {i : CueId} {visited rest : List CueId}, rest.length < fuel →
    (visited ++ i :: rest).Nodup → (visited ++ i :: rest).length ≤ 32 → s.linked (i :: rest) →
    s.walkFrom fuel i visited = .ok (visited ++ i :: rest)
  | 0, _, _, _, hf, _, _, _ => absurd hf (Nat.not_lt_zero _)
  | fuel + 1, i, visited, rest, hf, hn, hl, ⟨hfault, hnext, hr⟩ => by
    have hi : visited.contains i = false := by
      have := (List.nodup_append.mp hn).2.2
      simp only [List.contains_eq_mem, decide_eq_false_iff_not]
      exact fun hi => this i hi i List.mem_cons_self rfl
    have hlim : ¬ Config.chainLimit ≤ visited.length := by
      simp only [List.length_append, List.length_cons] at hl
      simp only [Config.chainLimit]
      omega
    unfold State.walkFrom
    rw [if_neg (by rw [hi]; exact Bool.false_ne_true), if_neg hlim, hfault, hnext]
    cases rest with
    | nil => rfl
    | cons j rest =>
      have := walkFrom_linked (fuel := fuel) (i := j) (visited := visited ++ [i]) (rest := rest)
        (Nat.lt_of_succ_lt_succ hf) (by simpa using hn) (by simpa using hl) hr
      simpa [cueAt] using this

/-- The walk finds exactly the linked paths from its start of 1 to 32 entries, none twice (R43). -/
theorem walk_ok_iff {start : CueId} {chain : List CueId} :
    s.walk start = .ok chain ↔
      chain.head? = some start ∧ s.linked chain ∧ chain.Nodup ∧ chain.length ≤ 32 := by
  constructor
  · intro h
    obtain ⟨hn, hl, rest, rfl, hr⟩ := walkFrom_ok List.nodup_nil (Nat.zero_le _) h
    exact ⟨rfl, hr, hn, hl⟩
  · rintro ⟨hh, hr, hn, hl⟩
    cases chain with
    | nil => cases hh
    | cons i rest =>
      cases hh
      simp only [List.length_cons] at hl
      exact walkFrom_linked (visited := []) (by simp only [Config.chainLimit]; omega) hn hl hr

/-! ### The walk that fails (R43, R44) -/

/-- The fault of an entry itself is neither a cycle nor a length. -/
theorem chainFault_own {b : CueBody} {f : ChainFault} (h : b.chainFault = some f) : f ≠ .cycle ∧ f ≠ .tooLong := by
  unfold CueBody.chainFault at h
  repeat' split at h
  all_goals cases h
  all_goals exact ⟨ChainFault.noConfusion, ChainFault.noConfusion⟩

/-- What a walk has passed on its way to an entry: entries without a fault, none twice, each naming the next. -/
structure State.Passed (s : State) (visited : List CueId) (i : CueId) : Prop where
  nodup : visited.Nodup
  short : visited.length ≤ 32
  sound : ∀ j ∈ visited, (s.cue j).body.chainFault = none
  path : (visited ++ [i]).IsChain fun a b => (s.cue a).next = .entry b

/-- The first test that fails at an entry (R43). -/
def State.failsAt (s : State) (f : ChainFault) (visited : List CueId) (i : CueId) : Prop :=
  (f = .cycle ↔ i ∈ visited) ∧ (f = .tooLong ↔ i ∉ visited ∧ visited.length = 32) ∧
    (f ≠ .cycle → f ≠ .tooLong → (s.cue i).body.chainFault = some f)

theorem walkFrom_error : ∀ {fuel : Nat} {i at_ : CueId} {visited : List CueId} {f : ChainFault},
    visited.length + fuel = 33 → s.Passed visited i → s.walkFrom fuel i visited = .error (f, at_) →
    ∃ passed, (passed ++ [at_]).head? = (visited ++ [i]).head? ∧ s.Passed passed at_ ∧ s.failsAt f passed at_
  | 0, _, _, _, _, hfuel, hp, _ => absurd hp.short (by omega)
  | fuel + 1, i, at_, visited, f, hfuel, hp, h => by
    unfold State.walkFrom at h
    split at h
    · rename_i hi
      have hi : i ∈ visited := by simpa using hi
      cases h
      exact ⟨visited, rfl, hp, by simp [State.failsAt, hi]⟩
    · rename_i hi
      have hi : i ∉ visited := by simpa using hi
      split at h
      · rename_i hlim
        have hlen : visited.length = 32 := Nat.le_antisymm hp.short hlim
        cases h
        exact ⟨visited, rfl, hp, by simp [State.failsAt, hi, hlen]⟩
      · rename_i hlim
        have hlen : visited.length < 32 := Nat.lt_of_not_le hlim
        split at h
        · rename_i hf
          obtain ⟨hcycle, hlong⟩ := chainFault_own hf
          cases h
          exact ⟨visited, rfl, hp, by simp [State.failsAt, hi, hcycle, hlong, hf, Nat.ne_of_lt hlen]⟩
        · rename_i hf
          split at h
          · cases h
          · rename_i j hnext
            have hp' : s.Passed (visited ++ [i]) j :=
              { nodup := by simpa [List.nodup_append] using ⟨hp.nodup, fun a ha e => hi (e ▸ ha)⟩
                short := by simpa using hlen
                sound := fun k hk => by
                  rcases List.mem_append.mp hk with hk | hk
                  · exact hp.sound k hk
                  · rw [List.mem_singleton.mp hk]
                    exact hf
                path := List.isChain_append.mpr ⟨hp.path, List.isChain_singleton j, fun a ha b hb => by
                  rw [List.getLast?_concat, Option.mem_some_iff] at ha
                  obtain rfl : j = b := by simpa using hb
                  exact ha ▸ hnext⟩ }
            obtain ⟨passed, hh, hrest⟩ := walkFrom_error (by simp only [List.length_append, List.length_singleton]; omega) hp' h
            exact ⟨passed, hh.trans (by cases visited <;> rfl), hrest⟩

/-- The faults of an entry, by its kind (Table 3-2). -/
theorem chainFault_move {steps : Int} {p : Profile} {seek : Option (StopSide × Int)} :
    (CueBody.move steps p seek).chainFault =
      if p.runs = false ∨ seekAgrees steps seek = false ∨ 1000000 < steps.natAbs then some .badProfile
      else if steps = 0 then some .zeroMove
      else none := by
  simp [CueBody.chainFault, or_assoc]

theorem runs_iff {p : Profile} :
    p.runs = true ↔ 50 ≤ p.f ∧ p.f ≤ p.v ∧ p.v ≤ 20000 ∧ 1 ≤ p.a ∧ p.a ≤ 2000 := by
  simp only [Profile.runs, Bool.and_eq_true, decide_eq_true_eq]
  omega

/-- Settles O27: the successful walk by `walk_ok_iff`, the failing one by following its steps, the faults by their definition. -/
theorem walkFindsTheChainOrItsFault : Obligations.WalkFindsTheChainOrItsFault := by
  refine ⟨fun s start chain h => ?_, fun s start f at_ h => ?_, fun body => ?_⟩
  · obtain ⟨hh, hr, hn, hl⟩ := walk_ok_iff.mp h
    exact ⟨hh, hl, hn, linked_fault hr, linked_next hr, linked_last hr (by rintro rfl; cases hh)⟩
  · have hp : s.Passed [] start :=
      ⟨List.nodup_nil, Nat.zero_le _, fun _ hj => absurd hj List.not_mem_nil, List.isChain_singleton _⟩
    obtain ⟨visited, hh, ⟨hn, hl, hs, hpath⟩, hcycle, hlong, hown⟩ := walkFrom_error rfl hp h
    refine ⟨visited, hh, hn, hl, hs, fun k i j hi hj => ?_, hcycle, hlong, hown⟩
    obtain ⟨hk, rfl⟩ := List.getElem?_eq_some_iff.mp hi
    obtain ⟨hk', rfl⟩ := List.getElem?_eq_some_iff.mp hj
    exact List.isChain_iff_getElem.mp hpath k hk'
  · cases body with
    | move steps p seek =>
      rw [chainFault_move]
      have hr : p.runs = false ↔ ¬ (50 ≤ p.f ∧ p.f ≤ p.v ∧ p.v ≤ 20000 ∧ 1 ≤ p.a ∧ p.a ≤ 2000) := by
        rw [← runs_iff, Bool.not_eq_true]
      rcases seek with _ | ⟨_ | _, _⟩ <;> simp only [hr, seekAgrees, decide_eq_false_iff_not, decide_eq_true_eq,
        Int.not_lt, or_comm, or_left_comm, reduceCtorEq]
    | moveTo target p =>
      simp only [CueBody.chainFault]
      split <;> split <;> simp_all [runs_iff]
    | _ => rfl

end Sys2Proof.Machine
end

section
/-! PROOFS. The cue table's records: the bytes of an entry read back, and WRITE_CUE and ERASE_CUE in their order of checks. -/

namespace Sys2Proof.Machine

variable {s : State} {body : CueBody} {next : CueRef}

/-! ### The bytes of an entry (Table 12-4) -/

/-- A signed 24-bit field reads back. -/
theorem s24_ofInt {z : Int} (h : signed24 z) :
    s24 (byteOf (BitVec.ofInt 24 z).toNat) (byteOf ((BitVec.ofInt 24 z).toNat / 256))
      (byteOf ((BitVec.ofInt 24 z).toNat / 65536)) = z := by
  obtain ⟨hlow, hhigh⟩ := h
  rw [s24_le24]
  exact BitVec.toInt_ofInt_eq_self (by decide) (by omega) (by omega)

/-- A signed 32-bit field reads back. -/
theorem s32_ofInt {z : Int} (hlow : -2147483648 ≤ z) (hhigh : z ≤ 2147483647) :
    s32 (byteOf (BitVec.ofInt 32 z).toNat) (byteOf ((BitVec.ofInt 32 z).toNat / 256))
      (byteOf ((BitVec.ofInt 32 z).toNat / 65536)) (byteOf ((BitVec.ofInt 32 z).toNat / 16777216)) = z := by
  rw [s32_le32]
  exact BitVec.toInt_ofInt_eq_self (by decide) (by omega) (by omega)

theorem kindCode_lt (body : CueBody) : kindCode body < 256 := by
  cases body <;> simp [kindCode]

theorem cueBodyOf_bytes (h : body.held) : cueBodyOf (byteOf (kindCode body)) body.bytes = some body := by
  unfold cueBodyOf
  rw [byteOf_of_lt (kindCode_lt body)]
  cases body with
  | empty => rfl
  | move steps p seek =>
    obtain ⟨hlow, hhigh, ⟨hf, hv, ha⟩, hhome⟩ := h
    have hs := s32_ofInt hlow hhigh
    have hpf := u16_bytes (n := p.f) (by omega)
    have hpv := u16_bytes (n := p.v) (by omega)
    have hpa := u16_bytes (n := p.a) (by omega)
    have noSeek : byteOf 0 = 0#8 := rfl
    have seekLow : byteOf 1 = 1#8 := rfl
    have seekHigh : byteOf 2 = 2#8 := rfl
    rcases seek with _ | ⟨side, home⟩
    · simp [-BitVec.toNat_ofInt, kindCode, CueBody.bytes, leInt32, le32, Profile.bytes, le16, seekCode, hs, hpf, hpv, hpa, noSeek]
    · have hh := s24_ofInt (hhome side home rfl)
      cases side
      all_goals
        simp [-BitVec.toNat_ofInt, kindCode, CueBody.bytes, leInt32, le32, leInt24, le24, Profile.bytes, le16, seekCode, hs,
          hpf, hpv, hpa, hh, seekLow, seekHigh]
  | moveTo target p =>
    obtain ⟨ht, hf, hv, ha⟩ := h
    simp [-BitVec.toNat_ofInt, kindCode, CueBody.bytes, leInt24, le24, Profile.bytes, le16, s24_ofInt ht, u16_bytes (n := p.f) (by omega),
      u16_bytes (n := p.v) (by omega), u16_bytes (n := p.a) (by omega)]
  | dwell ms =>
    obtain ⟨hlow, hhigh⟩ := h
    simp [kindCode, CueBody.bytes, le16, u16_bytes (n := ms) (by omega), inRange_mem hlow hhigh]
  | scene n =>
    simp [kindCode, CueBody.bytes, finOf_eq (byteOf_of_lt (n := n.val) (by omega))]
  | mark code =>
    have hc : code ≤ 255 := h
    simp [kindCode, CueBody.bytes, byteOf_of_lt (n := code) (by omega)]

/-- Settles O25: each field of each kind reads back. -/
theorem cueRecordRoundTrip : Obligations.CueRecordRoundTrip := fun _ h => cueBodyOf_bytes h

theorem cueRefOf_code (next : CueRef) : cueRefOf (byteOf (cueRefCode next)) = some next := by
  cases next with
  | chainStop => rfl
  | entry i =>
    have hi : (byteOf i.val).toNat = i.val := byteOf_of_lt (by omega)
    have hne : byteOf i.val ≠ 0xFF#8 := fun e => by
      rw [e] at hi
      have := i.isLt
      simp at hi
      omega
    simp [cueRefOf, cueRefCode, hne, finOf_eq hi]

/-- The bytes of an entry have the length of its kind (R53, R195). -/
theorem cueLengthFits_bytes (body : CueBody) : cueLengthFits (byteOf (kindCode body)) body.bytes = true := by
  rcases body with _ | ⟨_, _, _ | ⟨_ | _, _⟩⟩ | _ | _ | _ | _
  all_goals simp [cueLengthFits, kindCode, CueBody.bytes, leInt32, le32, leInt24, le24, Profile.bytes, le16, seekCode, byteOf]

/-- The bytes of an entry make a body that WRITE_CUE takes (Table 12-3). -/
theorem lengthFits_bytes (body : CueBody) : lengthFits 0x30#8 (body.bytes.length + 3) = true := by
  rcases body with _ | ⟨_, _, _ | ⟨_ | _, _⟩⟩ | _ | _ | _ | _
  all_goals simp [lengthFits, CueBody.bytes, leInt32, le32, leInt24, le24, Profile.bytes, le16]

/-! ### WRITE_CUE (R53) -/

theorem reqWriteCue_held {index : Byte} {i : CueId} (hi : index.toNat = i.val) (h : body.held) :
    reqWriteCue index (byteOf (kindCode body)) (byteOf (cueRefCode next)) body.bytes s =
      if body = .empty ∧ next ≠ .chainStop then (s, replyBody .badValue)
      else if s.part.failure.getLsbD 0 then (s, replyBody .fault)
      else if (s.cue i).pins ≠ 0 then (s, replyBody .inUse)
      else (s.putCue i { body := body, next := next, pins := 0 }, replyBody .ok) := by
  unfold reqWriteCue
  simp [cueLengthFits_bytes, finOf_eq hi, cueRefOf_code, cueBodyOf_bytes h, State.cueTableSound]

/-! ### ERASE_CUE (R55) -/

theorem mem_cueRun {first j : CueId} {count : Nat} :
    j ∈ cueRun first count ↔ first.val ≤ j.val ∧ j.val < first.val + count := by
  simp [cueRun]

/-- A run ascends. -/
theorem cueRun_sorted (first : CueId) (count : Nat) : (cueRun first count).Pairwise (· < ·) :=
  (List.pairwise_lt_finRange 128).filter _

/-- The search of an ascending list finds the lowest entry that passes. -/
theorem find?_lowest {n : Nat} {l : List (Fin n)} {p : Fin n → Bool} {j : Fin n} (hl : l.Pairwise (· < ·)) (hj : j ∈ l)
    (hp : p j = true) (low : ∀ k ∈ l, k < j → p k = false) : l.find? p = some j := by
  obtain ⟨as, bs, rfl⟩ := List.append_of_mem hj
  refine List.find?_eq_some_iff_append.mpr ⟨hp, as, bs, rfl, fun a ha => ?_⟩
  have hlt : a < j := (List.pairwise_append.mp hl).2.2 a ha j List.mem_cons_self
  rw [low a (List.mem_append_left _ ha) hlt]
  rfl

/-- Erasing a run makes its entries EMPTY and leaves every other entry, and every other part. -/
theorem eraseRun_cue (run : List CueId) (hn : run.Nodup) :
    ∃ cs, run.foldl (fun t j => t.putCue j CueEntry.reset) s = { s with cues := cs } ∧
      ∀ j, cs.get j = if j ∈ run then CueEntry.reset else s.cue j :=
  foldl_entries (fun cs => { s with cues := cs }) (fun t j => t.putCue j CueEntry.reset) (fun _ => CueEntry.reset) run s.cues hn
    fun _ _ _ _ => rfl

section
variable {first count : Byte} {i : CueId}

theorem reqEraseCue_inUse {j : CueId} (hi : first.toNat = i.val) (h1 : 1 ≤ count.toNat) (h2 : count.toNat ≤ 128)
    (h3 : i.val + count.toNat ≤ 128) (hf : s.part.failure.getLsbD 0 = false) (hj : j ∈ cueRun i count.toNat)
    (hp : (s.cue j).pins ≠ 0) (low : ∀ k ∈ cueRun i count.toNat, k < j → (s.cue k).pins = 0) :
    reqEraseCue first count s = (s, replyBody .inUse [byteOf j.val]) := by
  unfold reqEraseCue
  have hfind : (cueRun i count.toNat).find? (fun k => (s.cue k).pins ≠ 0) = some j :=
    find?_lowest (cueRun_sorted i _) hj (by simpa using hp) fun k hk hlt => by simpa using low k hk hlt
  simp only [finOf_eq hi, inRange_mem h1 h2, cueTableSound_eq hf, hfind, if_neg (Nat.not_lt.mpr h3), Bool.not_false,
    Bool.not_true, Bool.false_eq_true, if_false]

theorem reqEraseCue_erases (hi : first.toNat = i.val) (h1 : 1 ≤ count.toNat) (h2 : count.toNat ≤ 128)
    (h3 : i.val + count.toNat ≤ 128) (hf : s.part.failure.getLsbD 0 = false)
    (hp : ∀ k ∈ cueRun i count.toNat, (s.cue k).pins = 0) :
    reqEraseCue first count s =
      ((cueRun i count.toNat).foldl (fun t j => t.putCue j CueEntry.reset) s, replyBody .ok [count]) := by
  unfold reqEraseCue
  have hfind : (cueRun i count.toNat).find? (fun k => (s.cue k).pins ≠ 0) = none :=
    List.find?_eq_none.mpr fun k hk => by simpa using hp k hk
  simp only [finOf_eq hi, inRange_mem h1 h2, cueTableSound_eq hf, hfind, if_neg (Nat.not_lt.mpr h3), Bool.not_false,
    Bool.not_true, Bool.false_eq_true, if_false, byteOf_byte]

end

/-- Settles O26: the request's own action by its checks, and the fold that erases a run. -/
theorem writeCueAndEraseCue : Obligations.WriteCueAndEraseCue := by
  refine ⟨fun tag index i body next s hs ht hi hb => ?_, fun tag first count s hs ht hf h1 h2 h3 ha => ⟨?_, ?_⟩⟩
  · rw [exec_writeCue hs.1 ht _ _ _ _ (lengthFits_bytes body), reqWriteCue_held hi hb]
    split
    · rw [requestOutcome_self hs]
    · split
      · rw [requestOutcome_self hs]
      · split
        · rw [requestOutcome_self hs]
        · exact congrArg _ (requestOutcome_reply hs rfl rfl rfl rfl)
  · intro j hj hp low
    rw [exec_eraseCue hs.1 ht,
      reqEraseCue_inUse (i := ⟨first.toNat, by omega⟩) rfl h1 h2 h3 ha (mem_cueRun.mpr hj) hp fun k hk hlt =>
        low k (mem_cueRun.mp hk) hlt,
      requestOutcome_self hs]
  · intro hp
    obtain ⟨cs, hcs, hget⟩ := eraseRun_cue (s := s) (cueRun ⟨first.toNat, by omega⟩ count.toNat)
      ((cueRun_sorted _ _).imp fun h => ne_of_lt h)
    refine ⟨{ s with cues := cs }, ?_, rfl, fun j => (hget j).trans (if_congr mem_cueRun rfl rfl)⟩
    rw [exec_eraseCue hs.1 ht,
      reqEraseCue_erases (i := ⟨first.toNat, by omega⟩) rfl h1 h2 h3 ha fun k hk => hp k (mem_cueRun.mp hk), hcs]
    exact congrArg _ (requestOutcome_reply hs rfl rfl rfl rfl)

end Sys2Proof.Machine
end

section
/-! PROOFS. What is asked of an invariant of the axes, said once: a property that the operations on an axis keep, and that no other record
decides, is kept by every event, request, command and millisecond. -/

namespace Sys2Proof.Machine

/-! ### The records that decide -/

/-- The axes, the cue entries, the pairs and the arbiter stand, and the scanner covers the channels that it covered. -/
structure CoreStands (s t : State) : Prop where
  axes : t.axes = s.axes
  cues : t.cues = s.cues
  pairs : t.pairs = s.pairs
  arbiter : t.arbiter = s.arbiter
  covers : ∀ c, s.scanner.covers c = true → t.scanner.covers c = true

section
variable {s t u : State}

/-- An update of other records. -/
theorem CoreStands.same (ha : t.axes = s.axes := by rfl) (hc : t.cues = s.cues := by rfl) (hp : t.pairs = s.pairs := by rfl)
    (hw : t.arbiter = s.arbiter := by rfl) (hs : t.scanner.covers = s.scanner.covers := by rfl) :
    CoreStands s t :=
  ⟨ha, hc, hp, hw, fun _ h => hs ▸ h⟩

theorem CoreStands.trans (h : CoreStands s t) (k : CoreStands t u) : CoreStands s u :=
  ⟨k.axes.trans h.axes, k.cues.trans h.cues, k.pairs.trans h.pairs, k.arbiter.trans h.arbiter,
    fun c hc => k.covers c (h.covers c hc)⟩

theorem CoreStands.axis (h : CoreStands s t) (x : AxisId) : t.axis x = s.axis x := by rw [State.axis, h.axes, State.axis]
theorem CoreStands.cue (h : CoreStands s t) (i : CueId) : t.cue i = s.cue i := by rw [State.cue, h.cues, State.cue]
theorem CoreStands.pair (h : CoreStands s t) (x : AxisId) : t.pair x = s.pair x := by rw [State.pair, h.pairs, State.pair]

theorem post_core (l : LineId) (c : Cause) (d : Details → Details) : CoreStands s (s.post l c d) :=
  .same (by simp) (by simp) (by simp) (by simp) (by simp)

theorem restStation_core (st : StationId) : CoreStands s (s.restStation st) := by
  unfold State.restStation
  dsimp only
  split <;> exact CoreStands.trans (t := s.putStation st _) .same (post_core ..)

theorem testActivity_core (st : StationId) : CoreStands s (s.testActivity st) := by
  unfold State.testActivity
  split
  · exact restStation_core st
  · exact .same

theorem covers_iff {sc : Scanner} {c : ChannelId} : sc.covers c = true ↔ sc.state ≠ .off ∧ sc.inRange c = true := by
  simp [Scanner.covers]

/-- A scanner that is OFF covers no channel, so any setting of it stands. -/
theorem CoreStands.of_off (hoff : s.scanner.state = .off) (ha : t.axes = s.axes := by rfl) (hc : t.cues = s.cues := by rfl)
    (hp : t.pairs = s.pairs := by rfl) (hw : t.arbiter = s.arbiter := by rfl) : CoreStands s t :=
  ⟨ha, hc, hp, hw, fun _ h => absurd hoff (covers_iff.mp h).1⟩

/-- A scanner that is put in a state other than OFF covers its range. -/
theorem setScanState_core {st : ScanState} (h : st ≠ .off) : CoreStands s (s.setScanState st) :=
  ⟨.refl _, .refl _, .refl _, .refl _, fun _ hc => covers_iff.mpr ⟨h, (covers_iff.mp hc).2⟩⟩

theorem scanTrigger_core (src : ScanSource) : CoreStands s (s.scanTrigger src) := by
  unfold State.scanTrigger
  split
  · split
    · exact .same
    · exact setScanState_core (by simp)
    · split
      · exact post_core ..
      · exact .same
  · exact .same

theorem reportState_core (x : AxisId) (old new : AxisState) : CoreStands s (s.reportState x old new) := by
  unfold State.reportState
  split
  · exact .same
  · rename_i st _
    dsimp only
    have h1 : ∀ c : Prop, [Decidable c] →
        CoreStands s (if c then s.putStation st { s.station st with idleTime := 0 } else s) := fun c _ => by
      split <;> exact .same
    split
    · exact (h1 _).trans (testActivity_core st)
    · exact h1 _

/-- An axis's change of state, but for its own record and its station's and the scanner's. -/
theorem enter_core (x : AxisId) (new : AxisState) (f : Axis → Axis) :
    CoreStands (s.putAxis x ((f (s.axis x)).settled new)) (s.enter x new f) := by
  unfold State.enter
  dsimp only
  split
  · exact (reportState_core x _ new).trans (scanTrigger_core .motion)
  · exact reportState_core x _ new

end

/-! ### The tests of stations and the alerts -/

/-- A property that the records of `CoreStands` decide and that an axis's disposition keeps. -/
structure CoreKept (P : State → Prop) : Prop where
  core : ∀ {s t}, CoreStands s t → P s → P t
  hand : ∀ {s x d}, d ≠ .pause → P s → P (s.handDisposition x d)

section
variable {P : State → Prop} (K : CoreKept P) {s : State}
include K

theorem CoreKept.post {l : LineId} {c : Cause} {d : Details → Details} (h : P s) : P (s.post l c d) := K.core (post_core ..) h

theorem CoreKept.putStation {st : StationId} {r : Station} (h : P s) : P (s.putStation st r) := K.core .same h

theorem CoreKept.testActivity {st : StationId} (h : P s) : P (s.testActivity st) := K.core (testActivity_core st) h

theorem CoreKept.handAll {xs : List AxisId} {d : Disposition} (hd : d ≠ .pause) (h : P s) : P (s.handAll xs d) :=
  foldl_kept (fun _ _ ht => K.hand hd ht) xs s h

theorem CoreKept.lockStation {st : StationId} (h : P s) : P (s.lockStation st) :=
  K.handAll (by simp) (K.post (K.putStation h))

theorem CoreKept.testLock {st : StationId} (h : P s) : P (s.testLock st) := by
  unfold State.testLock
  split
  · exact h
  · exact ite_kept h (K.core (restStation_core st) h)
  · exact ite_kept (K.lockStation h) h

theorem CoreKept.testLocks {target : Option StationId} (h : P s) : P (s.testLocks target) :=
  foldl_kept (fun _ _ ht => K.testLock ht) _ s h

theorem CoreKept.setLatches {target : Option StationId} (h : P s) : P (s.setLatches target) :=
  foldl_kept (fun _ _ ht => K.testLock (K.putStation ht)) _ s h

theorem CoreKept.putRecords {rs : List Alert} (h : P s) : P (s.putRecords rs) := K.core .same h

theorem CoreKept.removeRecord {r : Alert} (h : P s) : P (s.removeRecord r) :=
  ite_kept (K.testLocks (K.post (K.putRecords h))) (K.post (K.putRecords h))

theorem CoreKept.acknowledge {r : Alert} (h : P s) : P (s.acknowledge r) :=
  ite_kept h (ite_kept (K.removeRecord (K.post (K.putRecords h))) (K.post (K.putRecords h)))

theorem CoreKept.clearCondition {kind : AlertKind} {source : Nat} {station : Option StationId} (h : P s) :
    P (s.clearCondition kind source station) := by
  unfold State.clearCondition
  split
  · exact h
  · exact ite_kept (K.removeRecord (K.putRecords h)) (K.putRecords h)

theorem CoreKept.mergeAlert {r : Alert} {severity : Severity} (h : P s) : P (s.mergeAlert r severity) := by
  unfold State.mergeAlert
  extract_lets rises reopens r1 s1 s2
  have h2 : P s2 := ite_kept (K.post (K.putRecords h)) (K.putRecords h)
  exact ite_kept (K.testLocks h2) h2

theorem CoreKept.appendAlert {kind : AlertKind} {severity : Severity} {source : Nat} {station : Option StationId}
    (h : P s) : P (s.appendAlert kind severity source station) := by
  unfold State.appendAlert
  extract_lets r records src s1 s2
  have h2 : P s2 := K.post (K.core (t := s1) .same h)
  exact ite_kept (K.testLocks h2) h2

theorem CoreKept.loseAlert {kind : AlertKind} {severity : Severity} {source : Nat} {station : Option StationId}
    (h : P s) : P (s.loseAlert kind severity source station) :=
  ite_kept (K.setLatches (K.post h)) (K.post h)

theorem CoreKept.raise {kind : AlertKind} {severity : Severity} {source : Nat} {station : Option StationId} (h : P s) :
    P (s.raise kind severity source station).1 := by
  unfold State.raise
  split
  · exact K.mergeAlert h
  · split
    · exact K.appendAlert h
    · split
      · exact K.appendAlert (K.removeRecord h)
      · exact K.loseAlert h

theorem CoreKept.ackPress {scope : Option StationId} (h : P s) : P (s.ackPress scope) := by
  unfold State.ackPress
  split
  · exact h
  · exact K.acknowledge h

theorem CoreKept.ackHold {scope : Option StationId} (h : P s) : P (s.ackHold scope) := by
  unfold State.ackHold
  split
  · exact h
  · exact K.removeRecord h

theorem CoreKept.escalate {id : Nat} (h : P s) : P (s.escalate id) := by
  unfold State.escalate
  split
  · exact h
  · exact ite_kept h (K.post (K.putRecords h))

end

/-! ### Triggers of several axes -/

/-- A trigger may reach an axis of a pair only as its leader, with the follower ARMED (R112), but in DEMAND mode. -/
def State.pairReady (s : State) (x : AxisId) : Prop :=
  s.paired x = true → s.mode x ≠ .demand → isLeader x = true ∧ (s.axis (followerOf x)).state = .armed

/-- A property that the operations on an axis keep, each where the rules let it come. -/
structure AxesKept (P : State → Prop) : Prop extends CoreKept P where
  halt : ∀ {s x why}, P s → P (s.halt x why)
  trigger : ∀ {s x}, s.pairReady x → P s → P (s.trigger x)
  demandChange : ∀ {s x b}, P s → P (s.demandChange x b)
  rampTick : ∀ {s x}, P s → P (s.rampTick x)
  dwellExpiry : ∀ {s x}, P s → P (s.dwellExpiry x)
  endStopChange : ∀ {s x side b}, P s → P (s.endStopChange x side b)
  compareJam : ∀ {s x y}, P s → P (s.putAxis x ((s.axis x).compareJam y))
  withSample : ∀ {s x side b}, P s → P (s.putAxis x ((s.axis x).withSample side b))
  dwellCount : ∀ {s x n}, P s → P (s.putAxis x { s.axis x with dwell := n })
  hostDemand : ∀ {s x f}, P s → P (s.putAxis x { s.axis x with hostDemand := f })
  setPosition : ∀ {s x z}, (s.axis x).cfg.softLow ≤ z → z ≤ (s.axis x).cfg.softHigh →
    (s.axis x).state = .disarmed ∨ (s.axis x).state = .armed →
    P s → P (s.putAxis x { s.axis x with position := z, valid := true })
  count : ∀ {s}, P s → P s.countBlocks
  grant : ∀ {s e}, e ∈ s.arbiter.waiting → s.fits e = true → P s → P (s.grant e)
  afterGrant : ∀ {s e}, P s → P (s.afterGrant e)
  sortJoined : ∀ {s t : State}, P t → P (s.sortJoined t)
  markWaiting : ∀ {s} (f : PendingEntry → PendingEntry),
    (∀ e, (f e).axis = e.axis ∧ (f e).pair = e.pair ∧ (f e).increase = e.increase) →
    P s → P { s with arbiter := { s.arbiter with waiting := s.arbiter.waiting.map f } }
  budget : ∀ {s} (b : Nat) (p : Policy) (w : Nat), s.totalAllocation ≤ b →
    P s → P { s with arbiter := { s.arbiter with budget := b, policy := p, waitLimit := w } }
  configure : ∀ {s x c}, s.configFits x c = true → s.configBusy x c = false → P s → P (s.configureAxis x c)
  arm : ∀ {s x i b j}, s.armBusy x = false → s.secondStart x b = some j → P s → P (s.armChecks x i j).1
  writeCue : ∀ {s i e}, (s.cue i).pins = 0 → e.pins = 0 → P s → P (s.putCue i e)
  scanOff : ∀ {s : State}, s.guardHeld = false →
    P s → P { s with scanner := { s.scanner with state := .off, periodRemaining := none } }
  cold : ∀ pins waiting, P (State.cold pins waiting)
  warm : ∀ {s}, P s → P s.warmRestart

end Sys2Proof.Machine
end

section
/-! PROOFS. What the load of an entry can do, said once by cases; and that a trigger touches its own axis and its pair's alone. -/

namespace Sys2Proof.Machine

/-! ### The members of a pair (0.7) -/

section
variable (x : AxisId)

@[simp] theorem leaderOf_leaderOf : leaderOf (leaderOf x) = leaderOf x := by revert x; decide
@[simp] theorem leaderOf_followerOf : leaderOf (followerOf x) = leaderOf x := by revert x; decide
@[simp] theorem leaderOf_partnerOf : leaderOf (partnerOf x) = leaderOf x := by revert x; decide
@[simp] theorem followerOf_leaderOf : followerOf (leaderOf x) = followerOf x := by revert x; decide
@[simp] theorem isLeader_leaderOf : isLeader (leaderOf x) = true := by revert x; decide
@[simp] theorem isLeader_followerOf : isLeader (followerOf x) = false := by revert x; decide
@[simp] theorem pairIndex_leaderOf : pairIndex (leaderOf x) = pairIndex x := by revert x; decide
@[simp] theorem pairIndex_followerOf : pairIndex (followerOf x) = pairIndex x := by revert x; decide
theorem leaderOf_ne_followerOf : leaderOf x ≠ followerOf x := by revert x; decide
theorem eq_leaderOf_or_followerOf : x = leaderOf x ∨ x = followerOf x := by revert x; decide

theorem leaderOf_of_isLeader {x : AxisId} (h : isLeader x = true) : leaderOf x = x := by revert x; decide
theorem eq_followerOf {x : AxisId} (h : isLeader x = false) : followerOf x = x := by revert x; decide
theorem pairIndex_eq_iff {x y : AxisId} : pairIndex x = pairIndex y ↔ leaderOf x = leaderOf y := by revert x y; decide

end

section
variable {s t u : State} {x y : AxisId}

@[simp] theorem State.pair_leaderOf : s.pair (leaderOf x) = s.pair x := by simp [State.pair]

theorem paired_of_leaderOf_eq (h : leaderOf y = leaderOf x) : s.paired y = s.paired x := by rw [State.paired, h, State.paired]

/-! ### Configurations that stand -/

theorem paired_of_cfg (h : ∀ y, (t.axis y).cfg = (s.axis y).cfg) (x : AxisId) : t.paired x = s.paired x := by
  rw [State.paired, h, State.paired]

theorem mode_of_cfg (h : ∀ y, (t.axis y).cfg = (s.axis y).cfg) (x : AxisId) : t.mode x = s.mode x := by
  simp only [State.mode, paired_of_cfg h, h]

theorem rehearses_of_cfg (h : ∀ y, (t.axis y).cfg = (s.axis y).cfg) (x : AxisId) : t.rehearses x = s.rehearses x := by
  rw [State.rehearses, mode_of_cfg h, State.rehearses]

/-! ### Motion values rewritten -/

/-- Two contexts of an axis that differ in no value by which it stands in its chain: configuration, state, chain, start, current cue and
disposition. -/
structure Axis.SameRole (a b : Axis) : Prop where
  cfg : a.cfg = b.cfg
  state : a.state = b.state
  chain : a.chain = b.chain
  start : a.start = b.start
  current : a.current = b.current
  disposition : a.disposition = b.disposition

theorem Axis.SameRole.same {a b : Axis} (hcfg : a.cfg = b.cfg := by rfl) (hstate : a.state = b.state := by rfl)
    (hchain : a.chain = b.chain := by rfl) (hstart : a.start = b.start := by rfl)
    (hcurrent : a.current = b.current := by rfl) (hdisp : a.disposition = b.disposition := by rfl) : a.SameRole b :=
  ⟨hcfg, hstate, hchain, hstart, hcurrent, hdisp⟩

theorem Axis.SameRole.trans {a b c : Axis} (h : a.SameRole b) (k : b.SameRole c) : a.SameRole c :=
  ⟨h.cfg.trans k.cfg, h.state.trans k.state, h.chain.trans k.chain, h.start.trans k.start, h.current.trans k.current,
    h.disposition.trans k.disposition⟩

/-- An axis's motion values are rewritten, and records of other blocks. -/
def Steered (x : AxisId) (s t : State) : Prop := ∃ a : Axis, a.SameRole (s.axis x) ∧ CoreStands (s.putAxis x a) t

theorem CoreStands.putAxis (h : CoreStands s t) (x : AxisId) (a : Axis) : CoreStands (s.putAxis x a) (t.putAxis x a) :=
  ⟨by simp only [State.putAxis, h.axes], h.cues, h.pairs, h.arbiter, h.covers⟩

theorem Steered.of_core (h : CoreStands s t) : Steered x s t :=
  ⟨s.axis x, .same, by rw [State.putAxis_self]; exact h⟩

theorem Steered.of_putAxis {a : Axis} (h : a.SameRole (s.axis x)) : Steered x s (s.putAxis x a) := ⟨a, h, .same⟩

theorem Steered.post (h : Steered x s t) {l : LineId} {c : Cause} {d : Details → Details} : Steered x s (t.post l c d) := by
  obtain ⟨a, ha, hc⟩ := h
  exact ⟨a, ha, hc.trans (post_core ..)⟩

theorem Steered.axis_self (h : Steered x s t) : (t.axis x).SameRole (s.axis x) := by
  obtain ⟨a, ha, hc⟩ := h
  rw [hc.axis, State.putAxis_axis_self]
  exact ha

theorem Steered.axis_ne (h : Steered x s t) (hy : x ≠ y) : t.axis y = s.axis y := by
  obtain ⟨a, _, hc⟩ := h
  rw [hc.axis, State.putAxis_axis_ne _ hy]

theorem Steered.cue (h : Steered x s t) (i : CueId) : t.cue i = s.cue i := by
  obtain ⟨a, _, hc⟩ := h
  rw [hc.cue, State.putAxis_cue]

theorem Steered.pair (h : Steered x s t) (y : AxisId) : t.pair y = s.pair y := by
  obtain ⟨a, _, hc⟩ := h
  rw [hc.pair, State.putAxis_pair]

theorem Steered.trans (h : Steered x s t) (k : Steered x t u) : Steered x s u := by
  have hself := h.axis_self
  obtain ⟨a, _, hc⟩ := h
  obtain ⟨b, hb, kc⟩ := k
  refine ⟨b, hb.trans hself, ?_⟩
  have := hc.putAxis x b
  rw [State.putAxis_putAxis] at this
  exact this.trans kc

theorem Steered.role (h : Steered x s t) (y : AxisId) : (t.axis y).SameRole (s.axis y) := by
  by_cases hy : x = y
  · subst hy
    exact h.axis_self
  · rw [h.axis_ne hy]
    exact .same

theorem Steered.cfg (h : Steered x s t) (y : AxisId) : (t.axis y).cfg = (s.axis y).cfg := (h.role y).cfg

theorem Steered.holdsRunCurrent (h : Steered x s t) : t.holdsRunCurrent x = s.holdsRunCurrent x := by
  simp only [State.holdsRunCurrent, paired_of_cfg h.cfg, h.pair, h.axis_self.state]

theorem setDir_steered (x : AxisId) : Steered x s (s.setDir x) := by
  unfold State.setDir
  dsimp only
  split
  · exact .of_core .same
  · exact .of_putAxis .same

theorem takeHome_steered (x : AxisId) (home : Int) : Steered x s (s.takeHome x home) :=
  Steered.post (.of_putAxis .same)

theorem takeVirtualHome_steered (x : AxisId) (home : Int) : Steered x s (s.takeVirtualHome x home) :=
  .of_putAxis .same

theorem startRehearsal_steered (x : AxisId) : Steered x s (s.startRehearsal x) :=
  .of_putAxis .same

/-! ### What the load of one entry can answer (R64 to R71) -/

/-- The answers of a load that is no END: the entry completes at once, the seek misses, or the axis takes a state. -/
structure LoadAnswers (s : State) (x : AxisId) (Q : State × Bool → Prop) : Prop where
  done : ∀ u, Steered x s u → Q (u, true)
  miss : ∀ u, Steered x s u → s.rehearses x = false → Q (u.seekMiss x, false)
  pauses : ∀ u, Steered x s u → s.mode x = .demand → Q (u.enter x .paused, false)
  runs : ∀ u p, Steered x s u → s.holdsRunCurrent x = true ∨ s.rehearses x = true →
    Q (u.enter x .running fun b => b.startRamp p, false)
  trips : ∀ u p, Steered x s u → s.holdsRunCurrent x = true → s.rehearses x = false →
    Q ((u.enter x .running fun b => b.startRamp p).halt x .endStop, false)
  waits : ∀ u p, Steered x s u → s.holdsRunCurrent x = false → s.rehearses x = false →
    Q ((u.enter x .pending fun b => b.startRamp p).joinPending x, false)

theorem motionOutcome_answer {Q : State × Bool → Prop} (H : LoadAnswers s x Q) (hu : Steered x s u) (p : Profile)
    (home : Option Int) : Q (u.motionOutcome x p home) := by
  have hr : u.rehearses x = s.rehearses x := rehearses_of_cfg hu.cfg x
  have hm : u.mode x = s.mode x := mode_of_cfg hu.cfg x
  have hd : Steered x s (u.setDir x) := hu.trans (setDir_steered x)
  have hc : (u.setDir x).holdsRunCurrent x = s.holdsRunCurrent x := hd.holdsRunCurrent
  have hrd : (u.setDir x).rehearses x = s.rehearses x := rehearses_of_cfg hd.cfg x
  unfold State.motionOutcome
  simp only [hr, hm, hu.holdsRunCurrent]
  split
  · cases home with
    | none => exact H.done u hu
    | some v =>
      cases hv : s.rehearses x with
      | true => exact H.done _ (hu.trans (takeVirtualHome_steered x v))
      | false => exact H.miss u hu hv
  · split
    · rename_i hp
      exact H.pauses _ hd hp.1
    · split
      · rename_i hcur
        split
        · rename_i ht
          exact H.trips _ p hd hcur (by simpa using ht.2.2)
        · exact H.runs _ p hd (.inl hcur)
      · rename_i hcur
        split
        · rename_i hv
          exact H.runs _ p hd (.inr hv)
        · rename_i hv
          exact H.waits _ p hd (by simpa using hcur) (by simpa using hv)

theorem loadMotion_answer {Q : State × Bool → Prop} (H : LoadAnswers s x Q) (travel : Int) (p : Profile)
    (seek : Option (StopSide × Int)) : Q (s.loadMotion x travel p seek) := by
  have steer : ∀ a : Axis, a.SameRole (s.axis x) → Steered x s (s.putAxis x a) := fun a ha => .of_putAxis ha
  unfold State.loadMotion
  dsimp only
  cases seek with
  | none =>
    dsimp only
    rw [State.putAxis_putAxis]
    refine motionOutcome_answer H (ite_kept (steer _ ?_).post (steer _ ?_)) p none
    all_goals exact .same
  | some sh =>
    dsimp only
    split
    · exact H.done _ ((steer _ .same).trans (takeHome_steered x _))
    · rw [State.putAxis_putAxis]
      exact motionOutcome_answer H (steer _ .same) p _

/-- Every answer of the load of the current cue. -/
theorem loadOne_answer {Q : State × Bool → Prop} (H : LoadAnswers s x Q) (absent : (s.axis x).current = none → Q (s, false))
    (ends : (s.axis x).current = some .chainStop → Q (s.chainEnd x, false))
    (empty : ∀ i, (s.axis x).current = some (.entry i) → (s.cue i).body = .empty → Q (s, false))
    (dwells : ∀ ms, Q (s.enter x .dwelling fun a => { a with dwell := ms, restartWait := false }, false)) :
    Q (s.loadOne x) := by
  unfold State.loadOne
  split
  · rename_i hc
    exact absent hc
  · rename_i hc
    exact ends hc
  · rename_i i hc
    split
    · rename_i hb
      exact empty i hc hb
    · exact loadMotion_answer H ..
    · exact loadMotion_answer H ..
    · exact dwells _
    · exact H.done _ (ite_kept (.of_core .same) (.of_core .same))
    · exact H.done _ (.of_core (post_core ..))

/-! ### Moves of a pair -/

/-- Only axes of one pair move, and no configuration changes. -/
structure PairMove (x : AxisId) (s t : State) : Prop where
  cfg : ∀ y, (t.axis y).cfg = (s.axis y).cfg
  other : ∀ y, leaderOf y ≠ leaderOf x → t.axis y = s.axis y

theorem PairMove.of_axes (h : ∀ y, t.axis y = s.axis y) : PairMove x s t := ⟨fun y => by rw [h], fun y _ => h y⟩

theorem PairMove.rfl : PairMove x s s := .of_axes fun _ => .refl _

theorem PairMove.trans (h : PairMove x s t) (k : PairMove x t u) : PairMove x s u :=
  ⟨fun y => (k.cfg y).trans (h.cfg y), fun y hy => (k.other y hy).trans (h.other y hy)⟩

/-- What one axis of the pair does. -/
theorem PairMove.of_axis (hy : leaderOf y = leaderOf x) (hc : (t.axis y).cfg = (s.axis y).cfg)
    (h : ∀ z, y ≠ z → t.axis z = s.axis z) : PairMove x s t where
  cfg z := by
    by_cases hz : y = z
    · exact hz ▸ hc
    · rw [h z hz]
  other z hz := h z fun e => hz (e ▸ hy)

theorem PairMove.member (h : PairMove y s t) (hy : leaderOf y = leaderOf x) : PairMove x s t :=
  ⟨h.cfg, fun z hz => h.other z (hy ▸ hz)⟩

theorem Steered.pairMove (h : Steered x s t) : PairMove x s t := .of_axis (.refl _) (h.cfg x) fun _ hz => h.axis_ne hz

theorem CoreStands.pairMove (h : CoreStands s t) : PairMove x s t := .of_axes h.axis

theorem enter_pairMove {new : AxisState} {f : Axis → Axis} (hf : ∀ a, (f a).cfg = a.cfg := by exact fun _ => rfl) :
    PairMove x s (s.enter x new f) :=
  .of_axis (.refl _) (by rw [enter_axis_self]; exact hf _) fun _ hz => enter_axis_ne s hz new f

theorem disarm_pairMove {keep : Bool} : PairMove x s (s.disarm x keep) := by
  unfold State.disarm
  split
  · exact .rfl
  · exact (PairMove.of_axes fun y => unpinChain_axis s _ y).trans enter_pairMove

theorem settlePair_pairMove : PairMove x s (s.settlePair x) := by
  unfold State.settlePair
  dsimp only
  exact ite_kept (.of_axes fun _ => State.putPair_axis ..) .rfl

theorem settleBy_pairMove {d : Disposition} : PairMove x s (s.settleBy x d) := by
  unfold State.settleBy
  extract_lets a p ending s1 s2
  have h1 : PairMove x s s1 := by
    show PairMove x s (match d with
      | .pause => s.enter x .paused
      | .abandon =>
        if ending && !a.cfg.repeats then s.disarm x false
        else s.enter x .armed fun a => { a with current := a.start.map .entry }
      | .disarm => s.disarm x false)
    cases d with
    | pause => exact enter_pairMove
    | abandon => exact ite_kept disarm_pairMove enter_pairMove
    | disarm => exact disarm_pairMove
  have h2 : PairMove x s s2 := ite_kept (h1.trans (.of_axes fun y => by simp)) h1
  exact h2.trans settlePair_pairMove

theorem handDisposition_pairMove {d : Disposition} : PairMove x s (s.handDisposition x d) := by
  unfold State.handDisposition
  split
  · exact enter_pairMove
  · exact .of_axis (.refl _) (by simp) fun _ hz => State.putAxis_axis_ne _ hz _
  · exact PairMove.trans (t := s.withdraw x) (.of_axes fun _ => .refl _) settleBy_pairMove
  · exact settleBy_pairMove
  · exact settleBy_pairMove
  · exact ite_kept disarm_pairMove .rfl
  · exact .rfl

theorem seekMiss_pairMove : PairMove x s (s.seekMiss x) := by
  have hrun : ∀ t : State, PairMove x t (t.endRun x) := fun t => by
    unfold State.endRun
    split
    · exact (handDisposition_pairMove.member (leaderOf_partnerOf x)).trans settlePair_pairMove
    · exact .rfl
  exact (((post_core ..).pairMove.trans disarm_pairMove).trans (hrun _)).trans settlePair_pairMove

theorem stepCue_pairMove : PairMove x s (s.stepCue x) := by
  unfold State.stepCue
  split
  · exact .rfl
  · exact .of_axis (.refl _) (by simp) fun _ hz => State.putAxis_axis_ne _ hz _

theorem stepCue_state (x y : AxisId) : ((s.stepCue x).axis y).state = (s.axis y).state := by
  unfold State.stepCue
  split
  · rfl
  · by_cases hy : x = y
    · subst hy
      simp
    · rw [State.putAxis_axis_ne _ hy]

theorem settleChainEnd_pairMove : PairMove x s (s.settleChainEnd x) := by
  unfold State.settleChainEnd
  dsimp only
  have hp : ∀ d, PairMove x s (s.post (axisLine x) .chainEnd d) := fun d => (post_core ..).pairMove
  split
  · exact (hp _).trans enter_pairMove
  · exact (hp _).trans disarm_pairMove

theorem restartLeader_pairMove : PairMove x s (s.restartLeader x) := by
  unfold State.restartLeader
  dsimp only
  exact PairMove.trans (.of_axes fun _ => State.putPair_axis ..) enter_pairMove

theorem chainEnd_pairMove : PairMove x s (s.chainEnd x) := by
  unfold State.chainEnd
  split
  · split
    · exact restartLeader_pairMove
    · exact ((settleChainEnd_pairMove.trans (.of_axes fun _ => State.putPair_axis ..)).trans
        (handDisposition_pairMove.member (leaderOf_leaderOf x))).trans settlePair_pairMove
  · exact settleChainEnd_pairMove

/-! ### The loads of a trigger (R63, R112) -/

/-- No load of the axis can end in a trip: it rehearses, or it is unpaired and not RUNNING. -/
def State.tripless (s : State) (x : AxisId) : Prop :=
  s.rehearses x = true ∨ s.paired x = false ∧ (s.axis x).state ≠ .running

theorem tripless_of (hc : ∀ y, (t.axis y).cfg = (s.axis y).cfg) (hs : (t.axis x).state = (s.axis x).state)
    (h : s.tripless x) : t.tripless x := by
  unfold State.tripless
  rw [rehearses_of_cfg hc, paired_of_cfg hc, hs]
  exact h

theorem loadOne_pairMove (h : s.tripless x) :
    PairMove x s (s.loadOne x).1 ∧ ((s.loadOne x).2 = true → ((s.loadOne x).1.axis x).state = (s.axis x).state) := by
  have hf : ∀ (p : Profile) (a : Axis), (a.startRamp p).cfg = a.cfg := fun _ _ => .refl _
  have still : ∀ {u : State}, PairMove x s u → PairMove x s u ∧ (false = true → (u.axis x).state = (s.axis x).state) :=
    fun hu => ⟨hu, fun e => Bool.noConfusion e⟩
  refine loadOne_answer (Q := fun r => PairMove x s r.1 ∧ (r.2 = true → (r.1.axis x).state = (s.axis x).state)) ?_
    (fun _ => still .rfl) (fun _ => still chainEnd_pairMove) (fun _ _ _ => still .rfl)
    (fun ms => still (u := s.enter x .dwelling fun a => { a with dwell := ms, restartWait := false }) enter_pairMove)
  exact
    { done := fun u hu => ⟨hu.pairMove, fun _ => hu.axis_self.state⟩
      miss := fun u hu _ => still (hu.pairMove.trans seekMiss_pairMove)
      pauses := fun u hu _ => still (hu.pairMove.trans enter_pairMove)
      runs := fun u p hu _ => still (hu.pairMove.trans (enter_pairMove (hf p)))
      trips := fun u p hu hrun hr => by
        obtain hreh | ⟨hp, hs⟩ := h
        · rw [hr] at hreh
          cases hreh
        · simp only [State.holdsRunCurrent, hp, Bool.false_eq_true, if_false, decide_eq_true_eq] at hrun
          exact absurd hrun hs
      waits := fun u p hu _ _ =>
        still ((hu.pairMove.trans (enter_pairMove (hf p))).trans (.of_axes fun _ => .refl _)) }

theorem completeEntry_pairMove :
    PairMove x s (s.completeEntry x).1 ∧
      ((s.completeEntry x).2 = true → ((s.completeEntry x).1.axis x).state = (s.axis x).state) := by
  unfold State.completeEntry
  dsimp only
  split
  · exact ⟨(stepCue_pairMove.trans (post_core ..).pairMove).trans enter_pairMove, fun e => Bool.noConfusion e⟩
  · exact ⟨stepCue_pairMove, fun _ => stepCue_state x x⟩

theorem loadEntries_pairMove : ∀ (fuel : Nat) {s : State}, s.tripless x → PairMove x s (State.loadEntries x fuel s)
  | 0, _, _ => .rfl
  | fuel + 1, s, h => by
    obtain ⟨h1, hs1⟩ := loadOne_pairMove h
    unfold State.loadEntries
    dsimp only
    split
    · rename_i hdone
      obtain ⟨h2, hs2⟩ := completeEntry_pairMove (s := (s.loadOne x).1) (x := x)
      split
      · rename_i hmore
        have hcfg := (h1.trans h2).cfg
        exact (h1.trans h2).trans (loadEntries_pairMove fuel (tripless_of hcfg ((hs2 hmore).trans (hs1 hdone)) h))
      · exact h1.trans h2
    · exact h1

theorem load_pairMove (h : s.tripless x) : PairMove x s (s.load x) := loadEntries_pairMove _ h

theorem loadMember_pairMove {st : AxisState} (h : s.tripless x) : PairMove x s (s.loadMember x st) :=
  ite_kept (load_pairMove h) .rfl

theorem rehearses_member (hp : s.paired x = true) (hy : leaderOf y = leaderOf x) : s.rehearses y = s.rehearses x := by
  have hpy : s.paired y = true := (paired_of_leaderOf_eq hy).trans hp
  simp only [State.rehearses, State.mode, hp, hpy, hy, if_true]

theorem triggerPair_pairMove (hp : s.paired x = true) : PairMove x s (s.triggerPair x) := by
  unfold State.triggerPair
  extract_lets l f s0
  have h0 : PairMove x s s0 := .of_axes fun _ => State.putPair_axis ..
  have hl : leaderOf l = leaderOf x := leaderOf_leaderOf x
  have hf : leaderOf f = leaderOf x := leaderOf_followerOf x
  split
  · rename_i hr
    have quiet : ∀ {t : State} {y : AxisId}, PairMove x s t → leaderOf y = leaderOf x → t.tripless y := fun ht hy =>
      .inl ((rehearses_of_cfg ht.cfg _).trans ((rehearses_member hp hy).trans hr))
    have h1 := h0.trans ((startRehearsal_steered l).pairMove.member hl)
    have h2 := h1.trans ((startRehearsal_steered f).pairMove.member hf)
    have h3 := h2.trans ((loadMember_pairMove (st := .armed) (quiet h2 hl)).member hl)
    exact h3.trans ((loadMember_pairMove (quiet h3 hf)).member hf)
  · have h1 := h0.trans ((enter_pairMove (new := .pending) (f := id)).member hl)
    have h2 := h1.trans ((enter_pairMove (new := .pending) (f := id)).member hf)
    exact h2.trans (.of_axes fun _ => .refl _)

/-- A trigger moves axes of one pair alone, and no configuration (R63, R112). -/
theorem trigger_pairMove : PairMove x s (s.trigger x) := by
  unfold State.trigger
  split
  · rename_i hs
    split
    · rename_i hp
      exact triggerPair_pairMove hp
    · rename_i hp
      have hp : s.paired x = false := by simpa using hp
      split
      · rename_i hr
        have h1 : Steered x s (s.startRehearsal x) := startRehearsal_steered x
        exact h1.pairMove.trans (load_pairMove (.inl ((rehearses_of_cfg h1.cfg x).trans hr)))
      · exact load_pairMove (.inr ⟨hp, by simp [hs]⟩)
  · exact .rfl

end

end Sys2Proof.Machine
end

section
/-! PROOFS. A property of `AxesKept` is kept by every event, every request, every command and every millisecond. -/

namespace Sys2Proof.Machine

-- In turn, since the check limits memory, and every proof under way holds a stack of its own.
set_option Elab.async false

/-! ### Which axes a start triggers (R11, R24, R112) -/

section
variable {s t : State} {x y : AxisId}

theorem pairReady_of_axis (h : ∀ z, t.axis z = s.axis z) (hx : s.pairReady x) : t.pairReady x := by
  have hc : ∀ z, (t.axis z).cfg = (s.axis z).cfg := fun z => by rw [h]
  unfold State.pairReady
  rw [paired_of_cfg hc, mode_of_cfg hc, h]
  exact hx

theorem startSelects_pairReady {st : StationId} (h : s.startSelects st x = true) : s.pairReady x := by
  obtain ⟨-, -, -, hp⟩ := startSelects_iff.mp h
  exact fun hpaired _ => hp hpaired

theorem demandSelects_pairReady {st : StationId} (h : s.demandSelects st x = true) : s.pairReady x := by
  obtain ⟨-, -, hm⟩ := demandSelects_iff.mp h
  exact fun _ hne => absurd hm hne

/-- A trigger leaves another ready axis ready: the two are of two pairs, or unpaired. -/
theorem trigger_pairReady (hx : s.pairReady x) (hy : s.pairReady y) (hne : x ≠ y) : (s.trigger x).pairReady y := by
  have hmove : PairMove x s (s.trigger x) := trigger_pairMove
  intro hp hm
  rw [paired_of_cfg hmove.cfg] at hp
  rw [mode_of_cfg hmove.cfg] at hm
  obtain ⟨hly, hfy⟩ := hy hp hm
  by_cases hl : leaderOf y = leaderOf x
  · have hpx : s.paired x = true := (paired_of_leaderOf_eq hl.symm).trans hp
    have hmx : s.mode x ≠ .demand := by
      simpa only [State.mode, hp, hpx, hl, if_true] using hm
    have hlx := (hx hpx hmx).1
    rw [leaderOf_of_isLeader hly, leaderOf_of_isLeader hlx] at hl
    exact absurd hl.symm hne
  · refine ⟨hly, ?_⟩
    rw [hmove.other _ (by simpa using hl)]
    exact hfy

end

variable {P : State → Prop} (K : AxesKept P) {s : State}
include K

/-! ### Stations -/

theorem AxesKept.haltAll {xs : List AxisId} (h : P s) : P (s.haltAll xs) := foldl_kept (fun _ _ ht => K.halt ht) xs s h

theorem AxesKept.triggerAll : ∀ {xs : List AxisId} {s : State}, xs.Nodup → (∀ x ∈ xs, s.pairReady x) → P s →
    P (s.triggerAll xs)
  | [], _, _, _, h => h
  | x :: xs, s, hn, hr, h => by
    obtain ⟨hx, hn⟩ := List.nodup_cons.mp hn
    have hready := hr x List.mem_cons_self
    refine AxesKept.triggerAll (xs := xs) (s := s.trigger x) hn (fun y hy => ?_) (K.trigger hready h)
    exact trigger_pairReady hready (hr y (List.mem_cons_of_mem _ hy)) fun e => hx (e ▸ hy)

omit K in
theorem allAxes_filter_nodup (p : AxisId → Bool) : (allAxes.filter p).Nodup :=
  List.Nodup.filter _ (by decide)

theorem AxesKept.enterShowing {st : StationId} (h : P s) : P (s.enterShowing st) := K.post (K.putStation h)
theorem AxesKept.refuseStart {st : StationId} (h : P s) : P (s.refuseStart st) := K.post (K.putStation h)

omit K in
theorem enterShowing_axis (st : StationId) (x : AxisId) : (s.enterShowing st).axis x = s.axis x := by
  simp [State.enterShowing]

theorem AxesKept.startStation {st : StationId} (h : P s) : P (s.startStation st).1 := by
  unfold State.startStation
  dsimp only
  split
  · refine K.testActivity (K.triggerAll (allAxes_filter_nodup _) (fun x hx => ?_) (K.enterShowing h))
    exact pairReady_of_axis (enterShowing_axis st) (startSelects_pairReady (List.mem_filter.mp hx).2)
  · exact K.refuseStart h

theorem AxesKept.demandPress {st : StationId} (h : P s) : P (s.demandPress st).1 := by
  have ready : ∀ x ∈ allAxes.filter (s.demandSelects st), s.pairReady x := fun x hx =>
    demandSelects_pairReady (List.mem_filter.mp hx).2
  unfold State.demandPress
  dsimp only
  split
  · split
    · exact K.refuseStart h
    · exact K.testActivity (K.triggerAll (allAxes_filter_nodup _)
        (fun x hx => pairReady_of_axis (enterShowing_axis st) (ready x hx)) (K.enterShowing h))
  · exact K.testActivity (K.triggerAll (allAxes_filter_nodup _) ready h)
  · exact K.refuseStart h

theorem AxesKept.stopStation {st : StationId} (h : P s) : P (s.stopStation st) := K.handAll (by simp) h

theorem AxesKept.restExpiry {st : StationId} (h : P s) : P (s.restExpiry st) := ite_kept (K.post (K.putStation h)) h

theorem AxesKept.idleTimeout {st : StationId} (h : P s) : P (s.idleTimeout st) :=
  ite_kept (K.handAll (by simp) (K.post h)) h

theorem AxesKept.bringOnline {st : StationId} (h : P s) : P (s.bringOnline st) :=
  ite_kept (ite_kept (K.post (K.putStation h)) (K.post (K.putStation h))) h

theorem AxesKept.takeOffline {st : StationId} (h : P s) : P (s.takeOffline st) :=
  ite_kept h (K.handAll (by simp) (K.post (K.putStation h)))

theorem AxesKept.unlockStation {st : StationId} (h : P s) : P (s.unlockStation st) :=
  ite_kept (K.testLock (K.putStation h)) h

/-! ### Route actions and the STOP line -/

theorem AxesKept.routeActs {l : LineId} {act : RouteAction} (h : P s) : P (s.routeActs l act) := by
  cases act with
  | nothing => exact h
  | startStation st => exact K.startStation h
  | scan => exact K.core (scanTrigger_core _) h
  | raiseAlert severity station => exact K.raise h

theorem AxesKept.applyStop (h : P s) : P s.applyStop := K.raise (K.haltAll h)

theorem AxesKept.applyRelease (h : P s) : P s.applyRelease := K.clearCondition h

theorem AxesKept.setStopLine {a : Bool} (h : P s) : P (s.setStopLine a) := by
  unfold State.setStopLine
  extract_lets line s1
  have h1 : P s1 := K.core .same h
  exact ite_kept h1 (ite_kept (K.applyStop h1) (K.applyRelease h1))

theorem AxesKept.sampleStop (h : P s) : P s.sampleStop := by
  unfold State.sampleStop
  extract_lets sample n line s1
  have h1 : P s1 := K.core .same h
  exact ite_kept (K.setStopLine h1) h1

/-! ### The arbiter -/

theorem AxesKept.urgentGrants : ∀ (fuel : Nat) {s : State} {g : List PendingEntry}, P s → P (urgentGrants fuel s g).1
  | 0, _, _, h => h
  | fuel + 1, s, g, h => by
    unfold Sys2Proof.Machine.urgentGrants
    split
    · exact h
    · rename_i e he
      split
      · rename_i hf
        exact AxesKept.urgentGrants fuel (K.grant (List.mem_of_find?_eq_some he) hf h)
      · exact h

theorem AxesKept.orderedGrants : ∀ (xs : List AxisId) {s : State} {g : List PendingEntry},
    P s → P (orderedGrants xs s g).1
  | [], _, _, h => h
  | x :: xs, s, g, h => by
    unfold Sys2Proof.Machine.orderedGrants
    split
    · exact AxesKept.orderedGrants xs h
    · rename_i e he
      split
      · rename_i hf
        exact AxesKept.orderedGrants xs (K.grant (List.mem_of_find?_eq_some he) hf h)
      · exact AxesKept.orderedGrants xs h

theorem AxesKept.passGrants (h : P s) : P s.passGrants.1 := by
  have h1 := K.urgentGrants 9 (g := []) h
  unfold State.passGrants
  split
  · rename_i heq
    rw [heq] at h1
    exact h1
  · rename_i heq
    rw [heq] at h1
    exact K.orderedGrants _ h1

theorem AxesKept.settleEvent : ∀ (fuel : Nat) {before after : State}, P after → P (settleEvent fuel before after)
  | 0, _, _, h => h
  | fuel + 1, before, after, h => by
    unfold Sys2Proof.Machine.settleEvent
    split
    · have h1 : P { before.sortJoined after with passDue := false } := K.core .same (K.sortJoined h)
      exact AxesKept.settleEvent fuel (foldl_kept (fun _ _ ht => K.afterGrant ht) _ _ (K.passGrants h1))
    · exact h

theorem AxesKept.settled {before after : State} (h : P after) : P (before.settled after) := K.settleEvent _ h

theorem AxesKept.markUrgent {due : PendingEntry → Bool} (h : P s) : P (s.markUrgent due) := by
  unfold State.markUrgent
  extract_lets hit arbiter s1
  have h0 := K.markWaiting (fun e => if due e then { e with urgent := true } else e)
    (fun e => by split <;> exact ⟨rfl, rfl, rfl⟩) h
  exact foldl_kept (fun _ _ ht => K.post ht) _ _ (K.core (t := s1) .same h0)

theorem AxesKept.entryUrgent {x : AxisId} (h : P s) : P (s.entryUrgent x) :=
  ite_kept h (K.markUrgent (K.markWaiting (fun e => if e.axis = x then { e with waited := max e.waited s.arbiter.waitLimit } else e)
    (fun e => by split <;> exact ⟨rfl, rfl, rfl⟩) h))

/-! ### Buttons -/

theorem AxesKept.putButton {b : ButtonId} {r : Button} (h : P s) : P (s.putButton b r) := K.core .same h

theorem AxesKept.demandAfter {before : State} {b : ButtonId} (h : P s) : P (before.demandAfter s b) := by
  unfold State.demandAfter
  split
  · exact h
  · exact ite_kept h (foldl_kept (fun _ _ ht => K.demandChange ht) _ s h)

theorem AxesKept.pressAction {before : State} {b : ButtonId} (h : P s) : P (before.pressAction s b) := by
  unfold State.pressAction
  dsimp only
  split
  · exact h
  · split
    · exact h
    · exact ite_kept (K.startStation h) (K.post (K.startStation h))
  · split
    · exact h
    · exact ite_kept (K.demandPress (K.demandAfter h)) (K.post (K.demandPress (K.demandAfter h)))
  · exact K.ackPress h
  · exact foldl_kept (fun _ _ ht => K.stopStation ht) _ s h

theorem AxesKept.buttonPress {b : ButtonId} (h : P s) : P (s.buttonPress b) := K.pressAction (K.post (K.putButton h))

theorem AxesKept.enterStuck {b : ButtonId} (h : P s) : P (s.enterStuck b) :=
  ite_kept (K.demandAfter (K.raise (K.post (K.putButton h)))) (K.raise (K.post (K.putButton h)))

theorem AxesKept.enterHeld {b : ButtonId} (h : P s) : P (s.enterHeld b) :=
  ite_kept (K.ackHold (K.post (K.putButton h))) (K.post (K.putButton h))

theorem AxesKept.compareHeld {b : ButtonId} (h : P s) : P (s.compareHeld b) := by
  unfold State.compareHeld
  dsimp only
  split
  · exact ite_kept (K.enterStuck h) (ite_kept (K.enterHeld h) h)
  · exact ite_kept (K.enterStuck h) h
  · exact h

theorem AxesKept.buttonRelease {b : ButtonId} (h : P s) : P (s.buttonRelease b) := by
  unfold State.buttonRelease
  extract_lets r s1
  have h1 : P s1 := K.post (K.putButton h)
  split
  · exact h1
  · exact K.clearCondition h1
  · exact ite_kept (K.demandAfter h1) h1

theorem AxesKept.buttonSettle {b : ButtonId} {c : Contact} (h : P s) : P (s.buttonSettle b c) :=
  ite_kept (K.demandAfter (K.putButton h)) (K.putButton h)

theorem AxesKept.countHeld {b : ButtonId} (h : P s) : P (s.countHeld b) := ite_kept h (K.compareHeld (K.putButton h))

theorem AxesKept.sampleButton {b : ButtonId} (h : P s) : P (s.sampleButton b) := by
  unfold State.sampleButton
  dsimp only
  split
  · exact ite_kept (K.countHeld (K.putButton h))
      (ite_kept (ite_kept (K.buttonPress h) (K.buttonRelease h)) (K.countHeld (K.putButton h)))
  · exact ite_kept (K.buttonSettle h) (K.putButton h)

/-! ### The requests of the hall: buttons, stations, cues -/

theorem AxesKept.stationCommand {st c : Byte} (h : P s) : P (stationCommand st c s).1 := by
  unfold Sys2Proof.Machine.stationCommand
  split
  · unfold reqStationOnline
    split
    · exact h
    · exact K.bringOnline h
  · unfold reqStationOffline
    split
    · exact h
    · exact K.takeOffline h
  · unfold reqStationStart
    split
    · exact h
    · exact K.startStation h
  · unfold reqStationStop
    split
    · exact h
    · exact K.stopStation h
  · unfold reqStationUnlock
    split
    · exact h
    · exact K.unlockStation h
  · exact h

theorem AxesKept.reqWriteCue {i k n : Byte} {fields : List Byte} (h : P s) : P (reqWriteCue i k n fields s).1 := by
  unfold Sys2Proof.Machine.reqWriteCue
  refine ite_fst_kept h ?_
  split
  · refine ite_fst_kept h (ite_fst_kept h ?_)
    split
    · exact h
    · rename_i hp
      exact K.writeCue (by simpa using hp) rfl h
  · exact h

/-- Erasing entries without pins. -/
theorem AxesKept.eraseRun : ∀ {run : List CueId} {s : State}, (∀ j ∈ run, (s.cue j).pins = 0) → P s →
    P (run.foldl (fun t j => t.putCue j CueEntry.reset) s)
  | [], _, _, h => h
  | i :: run, s, hp, h => by
    refine AxesKept.eraseRun (run := run) (s := s.putCue i CueEntry.reset) (fun j hj => ?_) (K.writeCue (hp i List.mem_cons_self) rfl h)
    by_cases hij : i = j
    · rw [hij, State.putCue_cue_self]
      rfl
    · rw [State.putCue_cue_ne _ hij]
      exact hp j (List.mem_cons_of_mem _ hj)

theorem AxesKept.reqEraseCue {f c : Byte} (h : P s) : P (reqEraseCue f c s).1 := by
  unfold Sys2Proof.Machine.reqEraseCue
  split
  · refine ite_fst_kept h (ite_fst_kept h ?_)
    dsimp only
    split
    · exact h
    · rename_i hfind
      exact K.eraseRun (fun j hj => by simpa using List.find?_eq_none.mp hfind j hj) h
  · exact h

theorem AxesKept.hallAction {kind : Byte} {body : List Byte} (h : P s) : P (hallAction kind body s).1 := by
  have setButton : ∀ b p r st hold row col, P (reqSetButton b p r st hold row col s).1 := fun _ _ _ _ _ _ _ => by
    unfold reqSetButton
    dsimp only
    repeat' split
    all_goals first | exact h | exact K.putButton h
  have timing : ∀ d n, P (reqSetButtonTiming d n s).1 := fun _ _ => by
    unfold reqSetButtonTiming
    split
    · exact K.core .same h
    · exact h
  have setStation : ∀ st rest idle row col, P (reqSetStation st rest idle row col s).1 := fun _ _ _ _ _ => by
    unfold reqSetStation
    dsimp only
    repeat' split
    all_goals first | exact h | exact K.putStation h
  have readStation : ∀ st clear, P (reqReadStation st clear s).1 := fun _ _ => by
    unfold reqReadStation
    split
    · exact ite_kept (K.putStation h) h
    · exact h
  unfold Sys2Proof.Machine.hallAction
  repeat' (refine ite_fst_kept ?_ ?_)
  all_goals try split
  all_goals first
    | exact setButton ..
    | exact timing ..
    | exact setStation ..
    | exact K.stationCommand h
    | exact readStation ..
    | exact K.reqWriteCue h
    | exact reqReadCue_kept h
    | exact reqValidateChain_kept h
    | exact K.reqEraseCue h
    | exact h

/-! ### The requests of the axes and the arbiter -/

/-- DISARM_AXIS of ARMED axes. -/
theorem AxesKept.disarmAll : ∀ {xs : List AxisId} {s : State}, (∀ x ∈ xs, (s.axis x).state.active = false) → P s →
    P (xs.foldl (fun t y => t.disarm y false) s)
  | [], _, _, h => h
  | x :: xs, s, hx, h => by
    have hone : P (s.disarm x false) := by
      have hstate := hx x List.mem_cons_self
      have hhand := K.hand (x := x) (d := .disarm) (by simp) h
      unfold State.handDisposition at hhand
      cases hs : (s.axis x).state
      case armed => simpa [hs] using hhand
      case disarmed => rw [State.disarm, if_pos hs]; exact h
      all_goals rw [hs] at hstate; exact Bool.noConfusion hstate
    refine AxesKept.disarmAll (xs := xs) (s := s.disarm x false) (fun y hy => ?_) hone
    have hstate := hx y (List.mem_cons_of_mem _ hy)
    by_cases hxy : y = x
    · subst hxy
      unfold State.disarm
      split
      · exact hstate
      · rw [enter_axis_self]
        rfl
    · rw [(disarm_axisMove false).axis y hxy]
      exact hstate

theorem AxesKept.reqDisarmAxis {x : Byte} (h : P s) : P (reqDisarmAxis x s).1 := by
  unfold Sys2Proof.Machine.reqDisarmAxis
  split
  · exact h
  · refine ite_fst_kept h (K.disarmAll (fun y hy => ?_) h)
    have := (List.mem_filter.mp hy).2
    simp only [decide_eq_true_eq] at this
    rw [this]
    rfl

theorem AxesKept.reqSetAxis {x st m fl r hd : Byte} {lo hi : Int} {g : Byte} {j : Nat} {t : Byte} (h : P s) :
    P (reqSetAxis x st m fl r hd lo hi g j t s).1 := by
  unfold Sys2Proof.Machine.reqSetAxis
  split
  · split
    · exact h
    · rename_i hfits
      split
      · exact h
      · rename_i hbusy
        exact K.configure (by simpa using hfits) (by simpa using hbusy) h
  · exact h

theorem AxesKept.reqArmAxis {x i j : Byte} (h : P s) : P (reqArmAxis x i j s).1 := by
  unfold Sys2Proof.Machine.reqArmAxis
  split
  · split
    · rename_i hsecond _
      split
      · exact h
      · rename_i hbusy
        split
        · exact h
        · exact h
        · exact K.arm (by simpa using hbusy) hsecond h
    · exact h
  · exact h

theorem AxesKept.reqTriggerAxis {x : Byte} (h : P s) : P (reqTriggerAxis x s).1 := by
  unfold Sys2Proof.Machine.reqTriggerAxis
  split
  · exact h
  · rename_i x _
    split
    · exact h
    · rename_i st _
      split
      · exact h
      · rename_i hbusy
        have hjoin : ∀ y, (s.joinShow st).axis y = s.axis y := fun y => by
          unfold State.joinShow
          split
          · exact enterShowing_axis st y
          · rfl
        have hready : s.pairReady x := fun hp _ => by
          have := (not_or.mp hbusy).1
          simp only [State.triggerBusy, hp, Bool.true_and, Bool.or_eq_true, decide_eq_true_eq, not_or, not_not,
            Bool.not_eq_true', Bool.not_eq_false] at this
          exact this.2
        have hshow : P (s.joinShow st) := ite_kept (K.enterShowing h) (K.putStation h)
        exact K.testActivity (K.trigger (pairReady_of_axis hjoin hready) hshow)

theorem AxesKept.reqDemandAxis {x f : Byte} (h : P s) : P (reqDemandAxis x f s).1 := by
  unfold Sys2Proof.Machine.reqDemandAxis
  dsimp only
  split
  · exact ite_fst_kept h (ite_kept (K.hostDemand h) (K.demandChange (K.hostDemand h)))
  · exact h

theorem AxesKept.reqSetPosition {x : Byte} {z : Int} (h : P s) : P (reqSetPosition x z s).1 := by
  unfold Sys2Proof.Machine.reqSetPosition
  dsimp only
  split
  · exact h
  · split
    · exact h
    · rename_i hrange
      split
      · exact h
      · rename_i hstate
        rw [not_or, Int.not_lt, Int.not_lt] at hrange
        exact K.setPosition hrange.1 hrange.2 (by simpa only [not_and_or, not_not] using hstate) h

theorem AxesKept.reqSetBudget {b p : Byte} {w : Nat} (h : P s) : P (reqSetBudget b p w s).1 := by
  unfold Sys2Proof.Machine.reqSetBudget
  split
  · split
    · exact h
    · split
      · exact h
      · rename_i v q _ _ _ hb
        exact K.markUrgent (K.core .same (K.budget v q w (Nat.le_of_not_lt hb) h))
  · exact h

theorem AxesKept.axisAction {kind : Byte} {body : List Byte} (h : P s) : P (axisAction kind body s).1 := by
  have stop : ∀ x, P (reqStopAxis x s).1 := fun x => by
    unfold reqStopAxis
    split
    · exact h
    · exact ite_fst_kept h (K.handAll (by simp) h)
  have halt : ∀ x, P (reqHaltAxis x s).1 := fun x => by
    unfold reqHaltAxis
    split
    · exact h
    · exact K.haltAll h
  unfold Sys2Proof.Machine.axisAction
  repeat' (refine ite_fst_kept ?_ ?_)
  all_goals try split
  all_goals first
    | exact K.reqSetAxis h
    | exact K.reqArmAxis h
    | exact K.reqDisarmAxis h
    | exact K.reqTriggerAxis h
    | exact K.reqDemandAxis h
    | exact stop _
    | exact halt _
    | exact K.reqSetPosition h
    | exact reqReadAxis_kept h
    | exact K.reqSetBudget h
    | exact h

/-! ### The requests of the scanner, the alert table and the lamp matrix -/

/-- SET_SCAN is taken while the scanner is OFF, where it covers no channel. -/
theorem AxesKept.reqSetScan {a b m src : Byte} {p : Nat} {t : Byte} (h : P s) : P (reqSetScan a b m src p t s).1 := by
  unfold Sys2Proof.Machine.reqSetScan
  split
  · split
    · exact h
    · rename_i hoff
      exact K.core (.of_off (not_not.mp hoff)) h
  · exact h

theorem AxesKept.scanSwitch {f : Byte} (h : P s) : P (scanSwitch f s).1 := by
  unfold Sys2Proof.Machine.scanSwitch
  split
  · unfold reqScanEnable
    split
    · split
      · exact h
      · rename_i hoff _
        exact K.core (.of_off hoff) h
    · exact h
  · unfold reqScanDisable
    split
    · exact h
    · rename_i hheld
      exact K.scanOff (by simpa using hheld) h
  · exact h

omit K in
theorem clearFresh_core (cs : List ChannelId) : CoreStands s (s.clearFresh cs) := by
  rw [clearFresh_only]
  exact .same

omit K in
theorem writeColumns_core (n : SceneId) : ∀ (bs : List Byte) (c : Fin 32) (s : State), CoreStands s (State.writeColumns n c bs s)
  | [], _, _ => .same
  | b :: bs, c, s => CoreStands.trans (t := s.putColumn n c b) .same (writeColumns_core n bs _ _)

theorem AxesKept.senseAction {kind : Byte} {body : List Byte} (h : P s) : P (senseAction kind body s).1 := by
  have trigger : P (reqScanTrigger s).1 := by
    unfold reqScanTrigger
    repeat' split
    all_goals first | exact h | exact K.core (scanTrigger_core _) h
  have channel : ∀ c k lo hi p, P (reqSetChannel c k lo hi p s).1 := fun _ _ _ _ _ => by
    unfold reqSetChannel
    repeat' split
    all_goals first | exact h | exact K.core .same h
  have sense : ∀ cs, P (reqReadSense cs s).1 := fun _ => by
    unfold reqReadSense
    split
    · exact h
    · exact K.core (clearFresh_core _) h
  have ack : ∀ id, P (reqAckAlert id s).1 := fun _ => by
    unfold reqAckAlert
    repeat' split
    all_goals first | exact h | exact K.acknowledge h
  have clear : ∀ id, P (reqClearAlert id s).1 := fun _ => by
    unfold reqClearAlert
    repeat' split
    all_goals first | exact h | exact K.removeRecord h
  have raise : ∀ v st c, P (reqRaiseAlert v st c s).1 := fun _ _ _ => by
    unfold reqRaiseAlert
    split
    · exact K.raise h
    · exact h
  have escalation : ∀ n c l, P (reqSetEscalation n c l s).1 := fun _ _ _ => by
    unfold reqSetEscalation
    split
    · exact K.core .same h
    · exact h
  have lamps : ∀ n c bs, P (reqWriteLamps n c bs s).1 := fun _ _ _ => by
    unfold reqWriteLamps
    repeat' split
    all_goals first | exact h | exact K.core (writeColumns_core ..) h
  have scene : ∀ n, P (reqShowScene n s).1 := fun _ => by
    unfold reqShowScene
    repeat' split
    all_goals first | exact h | exact K.core .same h
  have mirror : ∀ f, P (reqSetMirror f s).1 := fun _ => by
    unfold reqSetMirror
    repeat' split
    all_goals first | exact h | exact K.core .same h
  unfold Sys2Proof.Machine.senseAction
  repeat' (refine ite_fst_kept ?_ ?_)
  all_goals try split
  all_goals first
    | exact K.reqSetScan h
    | exact K.scanSwitch h
    | exact trigger
    | exact channel ..
    | exact sense _
    | exact reqReadAlerts_kept h
    | exact ack _
    | exact clear _
    | exact raise ..
    | exact escalation ..
    | exact lamps ..
    | exact reqReadLamps_kept h
    | exact scene _
    | exact mirror _
    | exact h

/-! ### The requests of the link and the event table -/

theorem AxesKept.linkAction {kind : Byte} {body : List Byte} (h : P s) : P (linkAction kind body s).1 := by
  have status : ∀ c, P (reqStatus c s).1 := fun _ => by
    unfold reqStatus
    split
    · exact h
    · exact ite_kept (K.core .same h) h
  have setEvent : ∀ l e v a p q m, P (reqSetEvent l e v a p q m s).1 := fun _ _ _ _ _ _ _ => by
    unfold reqSetEvent
    repeat' split
    all_goals first | exact h | exact K.core .same h
  have clearLine : ∀ (t : State) (l : LineId), P t → P (t.putLine l (t.line l).clear) := fun _ _ ht => K.core .same ht
  have clearEvents : ∀ ls, P (reqClearEvents ls s).1 := fun _ => by
    unfold reqClearEvents
    split
    · exact h
    · exact foldl_kept clearLine _ s h
  have noticeLevel : ∀ v, P (reqSetNoticeLevel v s).1 := fun _ => by
    unfold reqSetNoticeLevel
    split
    · exact h
    · exact K.core .same h
  unfold Sys2Proof.Machine.linkAction
  repeat' (refine ite_fst_kept ?_ ?_)
  all_goals try split
  all_goals first
    | exact status _
    | exact setEvent ..
    | exact clearEvents _
    | exact noticeLevel _
    | exact h
    | exact K.core .same h

theorem AxesKept.serve {f : Frame} (h : P s) : P (s.serve f).1 := by
  unfold State.serve
  split
  · exact h
  · unfold requestAction
    exact ite_fst_kept (K.linkAction h) (ite_fst_kept (K.hallAction h) (ite_fst_kept (K.axisAction h) (K.senseAction h)))

/-! ### The scanner -/

theorem AxesKept.jamGuard {c : ChannelId} (h : P s) : P (s.jamGuard c) := by
  unfold State.jamGuard
  dsimp only
  exact foldl_kept (fun _ _ ht => K.halt ht) _ _ (foldl_kept (fun _ _ ht => K.compareJam ht) _ s h)

theorem AxesKept.store {c : ChannelId} {x : Nat} (h : P s) : P (s.store c x) := by
  unfold State.store
  dsimp only
  have h1 : P (s.putChannel c ((s.channel c).filter x).mark.windowStep.1) := K.core .same h
  generalize s.putChannel c ((s.channel c).filter x).mark.windowStep.1 = s1 at h1
  have h2 : P (match ((s.channel c).filter x).mark.windowStep.2 with
      | none => s1
      | some w => s1.post (channelLine c) w.cause) := by
    split
    · exact h1
    · exact K.post h1
  exact K.jamGuard (ite_kept (K.post h2) h2)

theorem AxesKept.conversionComplete {x : Nat} (h : P s) : P (s.conversionComplete x) := by
  unfold State.conversionComplete
  split
  · dsimp only
    split
    · unfold State.endScan
      dsimp only
      split <;> exact K.core (setScanState_core (by simp)) (K.post (K.store h))
    · exact K.core (setScanState_core (by simp)) (K.store h)
  · exact h

theorem AxesKept.periodExpiry (h : P s) : P s.periodExpiry :=
  ite_kept (K.core (scanTrigger_core _) (K.core .same h)) h

theorem AxesKept.setTriggerLevel {b : Bool} (h : P s) : P (s.setTriggerLevel b) :=
  K.core .same h

theorem AxesKept.triggerFallingEdge (h : P s) : P s.triggerFallingEdge := K.core (scanTrigger_core _) (K.setTriggerLevel h)

theorem AxesKept.sampleTrigger (h : P s) : P s.sampleTrigger := ite_kept (K.triggerFallingEdge h) (K.setTriggerLevel h)

/-! ### The link and the end of an event -/

theorem AxesKept.acceptFrame {f : Frame} (h : P s) : P (s.acceptFrame f) := by
  unfold State.acceptFrame
  split <;> exact K.core .same h

theorem AxesKept.hunt (h : P s) : P s.hunt := K.core .same h

theorem AxesKept.frameComplete {bytes : List Byte} (h : P s) : P (s.frameComplete bytes) := by
  unfold State.frameComplete
  split
  · split
    · exact K.acceptFrame h
    · exact h
  · exact K.post (K.core .same h)

theorem AxesKept.byteReceived {c : Byte} {b : Bool} (h : P s) : P (s.byteReceived c b) := by
  refine ite_kept ?_ h
  unfold State.takeByte
  split
  · exact ite_kept (K.core .same h) h
  · exact ite_kept (K.core .same h) (K.hunt h)
  · exact ite_kept (K.core .same h) (K.frameComplete (K.hunt h))

theorem AxesKept.gapExpiry (h : P s) : P s.gapExpiry := by
  unfold State.gapExpiry
  split
  · exact h
  · exact K.core .same h

theorem AxesKept.takeHeld (h : P s) : P s.takeHeld := by
  unfold State.takeHeld
  split
  · rename_i f _ _
    have h1 := K.serve (f := f) (K.core (t := { s with link := { s.link with holder := none } }) .same h)
    exact K.core .same (K.settled h1)
  · exact h

theorem AxesKept.pump (h : P s) : P s.pump := by
  have hbegin : ∀ {t : State}, P t → P t.beginReply := fun ht => by
    unfold State.beginReply
    split
    · exact K.core .same ht
    · exact ht
  have hchoose : ∀ {t : State}, P t → P t.chooseNotice := fun ht => by
    unfold State.chooseNotice
    split
    · exact K.core .same ht
    · exact ht
  exact hchoose (K.takeHeld (hbegin (K.takeHeld h)))

theorem AxesKept.drain : ∀ (fuel : Nat) {s : State}, P s → P (drain fuel s)
  | 0, _, h => h
  | fuel + 1, s, h => by
    unfold Sys2Proof.Machine.drain
    split
    · exact h
    · exact AxesKept.drain fuel (K.pump (K.settled (K.routeActs (K.core .same h))))

/-- An event keeps what its own change keeps. -/
theorem AxesKept.runEvent {g : State → State} (hg : P (g s)) : P (s.runEvent g) := K.drain _ (K.pump (K.settled hg))

theorem AxesKept.eventWhen {c : Bool} {g : State → State} {t : State} (h : P s) (hg : P (g s))
    (ht : s.eventWhen c g = .next t) : P t := by
  unfold State.eventWhen at ht
  cases ht
  exact ite_kept (K.runEvent hg) h

theorem AxesKept.runWhen {c : Bool} {g : State → State} (h : P s) (hg : P (g s)) : P (s.runWhen c g) :=
  ite_kept (K.runEvent hg) h

/-! ### The millisecond -/

theorem AxesKept.sampleEndStop {x : AxisId} {side : StopSide} (h : P s) : P (s.sampleEndStop x side).1 := by
  unfold State.sampleEndStop
  dsimp only
  split
  · exact K.runWhen (K.withSample h) (K.endStopChange (K.withSample h))
  · exact K.withSample h

theorem AxesKept.countDwell {x : AxisId} (h : P s) : P (s.countDwell x) :=
  ite_kept (K.runWhen (K.dwellCount h) (K.dwellExpiry (K.dwellCount h))) h

theorem AxesKept.axisMillisecond {x : AxisId} {m : Bool} (h : P s) : P (s.axisMillisecond x m) := by
  have h2 : P ((s.sampleEndStop x .low).1.sampleEndStop x .high).1 := K.sampleEndStop (K.sampleEndStop h)
  unfold State.axisMillisecond
  dsimp only
  exact K.runWhen (K.countDwell h2) (K.rampTick (K.countDwell h2))

theorem AxesKept.stationMillisecond {st : StationId} (h : P s) : P (s.stationMillisecond st) := by
  unfold State.stationMillisecond
  extract_lets s1 r
  have h1 : P s1 := K.runWhen h (K.restExpiry h)
  exact K.runWhen h1 (K.idleTimeout h1)

theorem AxesKept.blocksMillisecond {moved : List AxisId} (h : P s) : P (s.blocksMillisecond moved) := by
  unfold State.blocksMillisecond
  extract_lets s1 s2 s3 s4 s5 s6
  have h1 : P s1 := K.runEvent (K.sampleTrigger h)
  have h2 : P s2 := K.runWhen h1 (K.periodExpiry h1)
  have h3 : P s3 := ite_kept (foldl_kept (fun _ _ ht => K.runEvent (K.sampleButton ht)) _ _ h2) h2
  have h4 : P s4 := foldl_kept (fun _ _ ht => K.axisMillisecond ht) _ _ h3
  have h5 : P s5 := K.runEvent (K.markUrgent h4)
  have h6 : P s6 := foldl_kept (fun _ _ ht => K.stationMillisecond ht) _ _ h5
  exact foldl_kept (fun _ _ ht => K.runWhen ht (K.escalate ht)) _ _ h6

theorem AxesKept.tick (h : P s) : P s.tick := by
  unfold State.tick
  extract_lets s0 moved s1 s2 s3
  have h0 : P s0 := K.drain _ h
  have hc : P s0.countAlways := K.core .same h0
  have h1 : P s1 := ite_kept hc (K.count hc)
  have h2 : P s2 := K.runWhen h1 (K.gapExpiry h1)
  have h3 : P s3 := K.runEvent (K.sampleStop h2)
  exact ite_kept h3 (K.blocksMillisecond h3)

/-! ### The commands -/

theorem AxesKept.testItemDone {f : Bool} (h : P s) : P (s.testItemDone f) := by
  have testEnd : ∀ {t : State}, P t → P t.testEnd := fun {t} ht => by
    unfold State.testEnd
    extract_lets condition part s1 s2 s3
    have h2 : P s2 := foldl_kept (fun _ _ hu => K.raise hu) _ _ (K.core (t := s1) .same ht)
    exact K.post (ite_kept (K.applyStop h2) h2)
  refine ite_kept ?_ h
  split
  · exact h
  · dsimp only
    exact ite_kept (testEnd (K.core .same h)) (K.core .same h)

theorem AxesKept.transmitEnd (h : P s) : P s.transmitEnd := by
  have free : P s.freeTransmitter := K.core .same h
  unfold State.transmitEnd
  split
  · exact h
  · exact ite_kept (K.warm h) (K.runEvent free)
  · exact K.runEvent free

theorem AxesKept.driveEndStop {x : AxisId} {side : StopSide} {a : Bool} (h : P s) : P (s.driveEndStop x side a) :=
  K.withSample (s := { s with pins := (s.driveEndStop x side a).pins }) (K.core .same h)

/-- Every command keeps the property. -/
theorem AxesKept.exec {c : Instr} {t : State} (h : P s) (ht : exec c s = .next t) : P t := by
  have pin : ∀ b l, P (s.setButtonPin b l) := fun _ _ => K.core .same h
  have hold : ∀ b n, P (s.holdFor b n) := fun _ _ => K.putButton h
  have stop : ∀ a, P (s.driveStop a) := fun _ => K.core .same h
  cases c
  case coldReset => cases ht; exact K.cold ..
  case warmRestart => cases ht; exact ite_kept (K.warm h) h
  case testItemDone => exact K.eventWhen h (K.testItemDone h) ht
  case buttonSettle => exact K.eventWhen h (K.buttonSettle (pin _ _)) ht
  case buttonPress => exact K.eventWhen h (K.buttonPress (pin _ _)) ht
  case buttonHold => exact K.eventWhen h (K.compareHeld (hold _ _)) ht
  case buttonStuck => exact K.eventWhen h (K.compareHeld (hold _ _)) ht
  case buttonRelease => exact K.eventWhen h (K.buttonRelease (pin _ _)) ht
  case restExpiry => exact K.eventWhen h (K.restExpiry h) ht
  case idleTimeout => exact K.eventWhen h (K.idleTimeout h) ht
  case stopLineAssert => exact K.eventWhen h (K.setStopLine (stop _)) ht
  case stopLineRelease => exact K.eventWhen h (K.setStopLine (stop _)) ht
  case endStopChange => exact K.eventWhen h (K.endStopChange (K.driveEndStop h)) ht
  case dwellExpiry => exact K.eventWhen h (K.dwellExpiry h) ht
  case rampTick => exact K.eventWhen h (K.rampTick h) ht
  case entryUrgent => exact K.eventWhen h (K.entryUrgent h) ht
  case conversionComplete => exact K.eventWhen h (K.conversionComplete h) ht
  case periodExpiry => exact K.eventWhen h (K.periodExpiry h) ht
  case triggerFallingEdge =>
    exact K.eventWhen h (K.triggerFallingEdge (s := { s with pins := { s.pins with trigger := false } }) (K.core .same h)) ht
  case escalation => exact K.eventWhen h (K.escalate h) ht
  case blinkPhaseChange clock => exact K.eventWhen h (by cases clock <;> exact K.core .same h) ht
  case byteReceived => exact K.eventWhen h (K.byteReceived h) ht
  case gapExpiry => exact K.eventWhen h (K.gapExpiry h) ht
  case transmitEnd => cases ht; exact K.transmitEnd h
  all_goals cases ht; exact K.runEvent (K.acceptFrame h)

/-- Every step keeps the property. -/
theorem AxesKept.step {t : State} (h : P s) (ht : step s = .next t) : P t := by
  unfold Sys2Proof.Machine.step at ht
  split at ht
  · cases ht
    exact K.tick h
  · exact K.exec (K.core .same h) ht

end Sys2Proof.Machine
end

section
/-! PROOFS. The pins: arming pins the entries of a chain, disarming unpins them, and nothing else moves a pin or a chain. -/

namespace Sys2Proof.Machine

-- In turn, since the check limits memory, and every proof under way holds a stack of its own.
set_option Elab.async false

variable {s t : State} {x : AxisId}

/-! ### What unpinning and disarming leave (R47) -/

theorem unpinChain_pins (chain : List CueId) (hn : chain.Nodup) (j : CueId) :
    ((s.unpinChain chain).cue j).pins = (s.cue j).pins - if j ∈ chain then 1 else 0 := by
  unfold State.unpinChain
  induction chain generalizing s with
  | nil => simp
  | cons i c ih =>
    rw [List.foldl_cons, ih (List.nodup_cons.1 hn).2]
    by_cases h : i = j
    · subst h
      simp [(List.nodup_cons.1 hn).1]
    · rw [State.putCue_cue_ne _ h]
      simp [Ne.symm h]

/-- The context of an axis that has become DISARMED; an immediate halt and a seek miss keep the current cue (Table 4-2). -/
def Axis.disarmed (a : Axis) (keep : Bool) : Axis :=
  { a with
    state := .disarmed, chain := [], start := none, current := if keep then a.current else none, rate := 0, acc := 0,
    jamCount := 0, dwell := 0, disposition := none, restartWait := false }

theorem disarm_of_disarmed {keep : Bool} (h : (s.axis x).state = .disarmed) : s.disarm x keep = s := if_pos h

/-- A disarming rewrites its axis and the pins of its chain, and reports it. -/
theorem disarm_core {keep : Bool} (h : (s.axis x).state ≠ .disarmed) :
    CoreStands ((s.unpinChain (s.axis x).chain).putAxis x ((s.axis x).disarmed keep)) (s.disarm x keep) := by
  unfold State.disarm
  rw [if_neg h]
  have := enter_core (s := s.unpinChain (s.axis x).chain) x .disarmed fun a =>
    { a with chain := [], start := none, current := if keep then a.current else none }
  rw [unpinChain_axis] at this
  simpa [Axis.settled, AxisState.moving, Axis.disarmed] using this

theorem disarm_axis_self {keep : Bool} (h : (s.axis x).state ≠ .disarmed) :
    (s.disarm x keep).axis x = (s.axis x).disarmed keep := by
  rw [(disarm_core h).axis, State.putAxis_axis_self]

theorem disarm_axis_ne {keep : Bool} {y : AxisId} (hy : x ≠ y) : (s.disarm x keep).axis y = s.axis y :=
  (disarm_axisMove keep).axis y (Ne.symm hy)

theorem disarm_pins {keep : Bool} (h : (s.axis x).state ≠ .disarmed) (hn : (s.axis x).chain.Nodup) (i : CueId) :
    ((s.disarm x keep).cue i).pins = (s.cue i).pins - if i ∈ (s.axis x).chain then 1 else 0 := by
  rw [(disarm_core h).cue, State.putAxis_cue, unpinChain_pins _ hn]

/-! ### The pin counts kept (R46, R47) -/

/-- The axes whose chain holds an entry, without one of them and with it. -/
theorem holders_split (p : AxisId → Bool) (x : AxisId) :
    (allAxes.filter p).length = (allAxes.filter fun y => p y && y ≠ x).length + if p x then 1 else 0 := by
  have hperm : allAxes.Perm (x :: allAxes.erase x) := List.perm_cons_erase (mem_allAxes x)
  have hrest : (allAxes.erase x).filter (fun y => p y && y ≠ x) = (allAxes.erase x).filter p :=
    List.filter_congr fun y hy => by
      have hne : y ≠ x := fun e => List.Nodup.not_mem_erase (by decide) (e ▸ hy)
      simp [hne]
  rw [(hperm.filter p).length_eq, (hperm.filter _).length_eq, List.filter_cons, List.filter_cons, hrest]
  cases p x <;> simp

/-- Where no chain, no pin count and no disarming changes, the counts stand. -/
theorem State.pinsCounted.of_chains (h : s.pinsCounted) (hc : ∀ y, (t.axis y).chain = (s.axis y).chain)
    (hd : ∀ y, (t.axis y).state = .disarmed → (s.axis y).state = .disarmed)
    (hp : ∀ i, (t.cue i).pins = (s.cue i).pins) : t.pinsCounted := by
  obtain ⟨hnone, hnodup, hcount⟩ := h
  refine ⟨fun y hy => (hc y).trans (hnone y (hd y hy)), fun y => hc y ▸ hnodup y, fun i => ?_⟩
  rw [hp, hcount i]
  simp only [hc]

theorem State.pinsCounted.core (h : s.pinsCounted) (hc : CoreStands s t) : t.pinsCounted :=
  h.of_chains (fun y => by rw [hc.axis]) (fun y hy => by rwa [hc.axis] at hy) fun i => by rw [hc.cue]

theorem State.pinsCounted.steered (h : s.pinsCounted) (hs : Steered x s t) : t.pinsCounted :=
  h.of_chains (fun y => (hs.role y).chain) (fun y hy => (hs.role y).state ▸ hy) fun i => by rw [hs.cue]

/-- Where records other than the axes and the cue entries change, the counts stand. -/
theorem State.pinsCounted.of_eq (h : s.pinsCounted) (ha : t.axes = s.axes := by rfl) (hc : t.cues = s.cues := by rfl) :
    t.pinsCounted :=
  h.of_chains (fun y => by rw [State.axis, ha, State.axis]) (fun y hy => by rwa [State.axis, ha] at hy)
    fun i => by rw [State.cue, hc, State.cue]

theorem State.pinsCounted.putAxis {a : Axis} (h : s.pinsCounted) (hc : a.chain = (s.axis x).chain)
    (hd : a.state = .disarmed → (s.axis x).state = .disarmed) : (s.putAxis x a).pinsCounted := by
  refine h.of_chains (fun y => ?_) (fun y hy => ?_) fun _ => rfl
  · by_cases hxy : x = y
    · rw [← hxy, State.putAxis_axis_self, hc]
    · rw [State.putAxis_axis_ne _ hxy]
  · by_cases hxy : x = y
    · rw [← hxy, State.putAxis_axis_self] at hy
      exact hxy ▸ hd hy
    · rwa [State.putAxis_axis_ne _ hxy] at hy

/-- An axis that enters a state other than DISARMED with its chain keeps the counts. -/
theorem State.pinsCounted.enter {new : AxisState} {f : Axis → Axis} (h : s.pinsCounted) (hn : new ≠ .disarmed := by simp)
    (hf : ∀ a, (f a).chain = a.chain := by exact fun _ => rfl) : (s.enter x new f).pinsCounted :=
  (h.putAxis (a := (f (s.axis x)).settled new) (hf _) fun hd => absurd hd hn).core (enter_core x new f)

/-- A chain given up and its pins lowered, in one step (R47). -/
theorem State.pinsCounted.disarm {keep : Bool} (h : s.pinsCounted) : (s.disarm x keep).pinsCounted := by
  by_cases hs : (s.axis x).state = .disarmed
  · rw [disarm_of_disarmed hs]
    exact h
  obtain ⟨hnone, hnodup, hcount⟩ := h
  have hchain : ((s.disarm x keep).axis x).chain = [] := by
    rw [disarm_axis_self hs]
    rfl
  refine ⟨fun y hy => ?_, fun y => ?_, fun i => ?_⟩
  · by_cases hxy : x = y
    · exact hxy ▸ hchain
    · rw [disarm_axis_ne hxy] at hy ⊢
      exact hnone y hy
  · by_cases hxy : x = y
    · rw [← hxy, hchain]
      exact List.nodup_nil
    · rw [disarm_axis_ne hxy]
      exact hnodup y
  · rw [disarm_pins hs (hnodup x), hcount i, holders_split _ x, holders_split (fun y => i ∈ ((s.disarm x keep).axis y).chain) x]
    have hrest : (fun y => decide (i ∈ ((s.disarm x keep).axis y).chain) && decide (y ≠ x)) =
        fun y => decide (i ∈ (s.axis y).chain) && decide (y ≠ x) := funext fun y => by
      by_cases hxy : x = y
      · simp [hxy]
      · rw [disarm_axis_ne hxy]
    rw [hrest, hchain]
    split <;> simp_all

/-- A chain taken on by a DISARMED axis and its entries pinned, in one step (R46, R61). -/
theorem State.pinsCounted.armMember {start : CueId} {chain : List CueId} (h : s.pinsCounted)
    (hs : (s.axis x).state = .disarmed) (hn : chain.Nodup) : (s.armMember x start chain).pinsCounted := by
  obtain ⟨hnone, hnodup, hcount⟩ := h
  have hself : ((s.armMember x start chain).axis x).chain = chain ∧ ((s.armMember x start chain).axis x).state = .armed := by
    rw [State.armMember, enter_axis_self]
    exact ⟨rfl, rfl⟩
  have hother : ∀ y, x ≠ y → (s.armMember x start chain).axis y = s.axis y := fun y hy => by
    rw [State.armMember, enter_axis_ne _ hy, pinChain_axis]
  refine ⟨fun y hy => ?_, fun y => ?_, fun i => ?_⟩
  · by_cases hxy : x = y
    · subst hxy
      rw [hself.2] at hy
      cases hy
    · rw [hother y hxy] at hy ⊢
      exact hnone y hy
  · by_cases hxy : x = y
    · rw [← hxy, hself.1]
      exact hn
    · rw [hother y hxy]
      exact hnodup y
  · have hpins : ((s.armMember x start chain).cue i).pins = (s.cue i).pins + if i ∈ chain then 1 else 0 := by
      rw [State.armMember, enter_cue, pinChain_pins _ _ hn]
    rw [hpins, hcount i, holders_split _ x, holders_split (fun y => i ∈ ((s.armMember x start chain).axis y).chain) x]
    have hrest : (fun y => decide (i ∈ ((s.armMember x start chain).axis y).chain) && decide (y ≠ x)) =
        fun y => decide (i ∈ (s.axis y).chain) && decide (y ≠ x) := funext fun y => by
      by_cases hxy : x = y
      · simp [hxy]
      · rw [hother y hxy]
    rw [hrest, hself.1, hnone x hs]
    simp

/-! ### The operations on an axis -/

theorem State.pinsCounted.putPair {p : PairCtx} (h : s.pinsCounted) : (s.putPair x p).pinsCounted := h.of_eq

theorem State.pinsCounted.settlePair (h : s.pinsCounted) : (s.settlePair x).pinsCounted := ite_kept h.putPair h

theorem State.pinsCounted.post {l : LineId} {c : Cause} {d : Details → Details} (h : s.pinsCounted) :
    (s.post l c d).pinsCounted := h.core (post_core ..)

theorem State.pinsCounted.withdraw (h : s.pinsCounted) : (s.withdraw x).pinsCounted := h.of_eq

theorem State.pinsCounted.joinPending (h : s.pinsCounted) : (s.joinPending x).pinsCounted := h.of_eq

theorem State.pinsCounted.settleBy {d : Disposition} (h : s.pinsCounted) : (s.settleBy x d).pinsCounted := by
  unfold State.settleBy
  extract_lets a p ending s1 s2
  have h1 : s1.pinsCounted := by
    show State.pinsCounted (match d with
      | .pause => s.enter x .paused
      | .abandon =>
        if ending && !a.cfg.repeats then s.disarm x false
        else s.enter x .armed fun a => { a with current := a.start.map .entry }
      | .disarm => s.disarm x false)
    cases d with
    | pause => exact h.enter
    | abandon => exact ite_kept h.disarm h.enter
    | disarm => exact h.disarm
  exact (ite_kept (P := State.pinsCounted) h1.putPair.post h1).settlePair

theorem State.pinsCounted.handDisposition {d : Disposition} (h : s.pinsCounted) : (s.handDisposition x d).pinsCounted := by
  unfold State.handDisposition
  split
  · exact h.enter
  · exact h.putAxis rfl id
  · exact h.withdraw.settleBy
  · exact h.settleBy
  · exact h.settleBy
  · exact ite_kept h.disarm h
  · exact h

theorem pinsCounted_coreKept : CoreKept State.pinsCounted := ⟨fun hc h => h.core hc, fun _ h => h.handDisposition⟩

theorem State.pinsCounted.endRun (h : s.pinsCounted) : (s.endRun x).pinsCounted :=
  ite_kept h.handDisposition.settlePair h

theorem State.pinsCounted.halt {why : HaltCause} (h : s.pinsCounted) : (s.halt x why).pinsCounted := by
  unfold State.halt
  extract_lets a s1 src s2 s3
  have h2 : s2.pinsCounted := ite_kept (h.withdraw.putAxis rfl id) h.withdraw
  have h3 : s3.pinsCounted := h2.disarm.post
  refine ite_kept h ?_
  cases why
  · exact h3.settlePair
  · exact pinsCounted_coreKept.raise h3.endRun
  · exact pinsCounted_coreKept.raise h3.endRun

theorem State.pinsCounted.seekMiss (h : s.pinsCounted) : (s.seekMiss x).pinsCounted := h.post.disarm.endRun.settlePair

theorem State.pinsCounted.stepCue (h : s.pinsCounted) : (s.stepCue x).pinsCounted := by
  unfold State.stepCue
  split
  · exact h
  · exact h.putAxis rfl id

theorem State.pinsCounted.completeEntry (h : s.pinsCounted) : (s.completeEntry x).1.pinsCounted := by
  unfold State.completeEntry
  dsimp only
  split
  · exact h.stepCue.post.enter
  · exact h.stepCue

theorem State.pinsCounted.completeStopping (h : s.pinsCounted) : (s.completeStopping x).pinsCounted :=
  (ite_kept (P := State.pinsCounted) h.stepCue.post h.stepCue).settleBy

theorem State.pinsCounted.settleChainEnd (h : s.pinsCounted) : (s.settleChainEnd x).pinsCounted :=
  ite_kept h.post.enter h.post.disarm

theorem State.pinsCounted.chainEnd (h : s.pinsCounted) : (s.chainEnd x).pinsCounted :=
  ite_kept (ite_kept h.putPair.enter h.settleChainEnd.putPair.handDisposition.settlePair) h.settleChainEnd

theorem State.pinsCounted.enterRamp {p : Profile} {new : AxisState} (h : s.pinsCounted) (hn : new ≠ .disarmed) :
    (s.enter x new fun b => b.startRamp p).pinsCounted := h.enter hn fun _ => rfl

theorem State.pinsCounted.enterTrip {p : Profile} (h : s.pinsCounted) :
    ((s.enter x .running fun b => b.startRamp p).halt x .endStop).pinsCounted :=
  State.pinsCounted.halt (h.enterRamp (by simp))

theorem State.pinsCounted.loadAnswers (h : s.pinsCounted) : LoadAnswers s x fun r => r.1.pinsCounted where
  done _ hu := h.steered hu
  miss _ hu _ := (h.steered hu).seekMiss
  pauses _ hu _ := (h.steered hu).enter
  runs _ _ hu _ := (h.steered hu).enterRamp (by simp)
  trips _ _ hu _ _ := (h.steered hu).enterTrip
  waits _ _ hu _ _ := ((h.steered hu).enterRamp (by simp)).joinPending

theorem State.pinsCounted.enterDwell {ms : Nat} (h : s.pinsCounted) :
    (s.enter x .dwelling fun a => { a with dwell := ms, restartWait := false }).pinsCounted := h.enter

theorem State.pinsCounted.loadOne (h : s.pinsCounted) : (s.loadOne x).1.pinsCounted :=
  loadOne_answer (Q := fun r => r.1.pinsCounted) h.loadAnswers (fun _ => h) (fun _ => h.chainEnd) (fun _ _ _ => h)
    fun _ => h.enterDwell

theorem State.pinsCounted.loadEntries : ∀ (fuel : Nat) {s : State}, s.pinsCounted → (State.loadEntries x fuel s).pinsCounted
  | 0, _, h => h
  | fuel + 1, s, h => by
    unfold State.loadEntries
    dsimp only
    exact ite_kept (ite_kept (State.pinsCounted.loadEntries fuel h.loadOne.completeEntry) h.loadOne.completeEntry) h.loadOne

theorem State.pinsCounted.load (h : s.pinsCounted) : (s.load x).pinsCounted := h.loadEntries _

theorem State.pinsCounted.completeAndGoOn (h : s.pinsCounted) : (s.completeAndGoOn x).pinsCounted :=
  ite_kept h.completeEntry.load h.completeEntry

theorem State.pinsCounted.goOn {c : Prop} [Decidable c] (h : s.pinsCounted) :
    (if c then s.completeStopping x else s.completeAndGoOn x).pinsCounted := ite_kept h.completeStopping h.completeAndGoOn

theorem State.pinsCounted.countReached (h : s.pinsCounted) : (s.countReached x).pinsCounted :=
  ite_kept h.goOn (ite_kept (h.steered (takeVirtualHome_steered x _)).goOn h.seekMiss)

theorem State.pinsCounted.rampTick (h : s.pinsCounted) : (s.rampTick x).pinsCounted := by
  unfold State.rampTick
  refine ite_kept ?_ h
  split
  · exact h
  · extract_lets a s1
    have h1 : s1.pinsCounted := h.putAxis rfl id
    exact ite_kept h1.countReached (ite_kept h1.settleBy h1)

theorem State.pinsCounted.dwellExpiry (h : s.pinsCounted) : (s.dwellExpiry x).pinsCounted := by
  unfold State.dwellExpiry
  extract_lets a s1
  have h1 : s1.pinsCounted := h.putAxis rfl id
  exact ite_kept (ite_kept h1.load h1.completeAndGoOn) h

theorem State.pinsCounted.tripped {side : StopSide} (h : s.pinsCounted) : (s.tripped x side).pinsCounted :=
  ite_kept (h.steered (takeHome_steered x _)).goOn h.halt

theorem withStopLevel_sameRole (a : Axis) (side : StopSide) (level : Bool) : (a.withStopLevel side level).SameRole a := by
  cases side <;> exact .same

theorem withSample_sameRole (a : Axis) (side : StopSide) (level : Bool) : (a.withSample side level).SameRole a := by
  cases side <;> exact .same

theorem State.pinsCounted.endStopChange {side : StopSide} {level : Bool} (h : s.pinsCounted) :
    (s.endStopChange x side level).pinsCounted := by
  unfold State.endStopChange
  extract_lets a s1
  have h1 : s1.pinsCounted := h.steered (.of_putAxis (withStopLevel_sameRole _ side level))
  exact ite_kept h (ite_kept h1.tripped h1)

theorem State.pinsCounted.demandChange {asserted : Bool} (h : s.pinsCounted) : (s.demandChange x asserted).pinsCounted := by
  have hdrop : (s.demandDrop x).pinsCounted := by
    unfold State.demandDrop
    split
    · exact h.enter
    · exact h.withdraw.enter
    · exact h
  have hreturn : (s.demandReturn x).pinsCounted := by
    unfold State.demandReturn
    dsimp only
    split
    · refine ite_kept h.load ?_
      split
      · exact h
      · exact h.enter.joinPending
    · exact ite_kept h.enter h
    · exact h
  exact ite_kept (ite_kept hreturn hdrop) h

theorem State.pinsCounted.loadMember {st : AxisState} (h : s.pinsCounted) : (s.loadMember x st).pinsCounted := ite_kept h.load h

theorem State.pinsCounted.startRehearsal (h : s.pinsCounted) : (s.startRehearsal x).pinsCounted :=
  h.steered (startRehearsal_steered x)

theorem State.pinsCounted.trigger (h : s.pinsCounted) : (s.trigger x).pinsCounted := by
  have hpair : (s.triggerPair x).pinsCounted :=
    ite_kept h.putPair.startRehearsal.startRehearsal.loadMember.loadMember h.putPair.enter.enter.joinPending
  exact ite_kept (ite_kept hpair (ite_kept h.startRehearsal.load h.load)) h

theorem State.pinsCounted.grant {e : PendingEntry} (h : s.pinsCounted) : (s.grant e).pinsCounted := by
  unfold State.grant
  extract_lets arbiter s1
  have h1 : s1.pinsCounted := h.of_eq
  exact ite_kept h1.putPair h1.enter

theorem State.pinsCounted.afterGrant {e : PendingEntry} (h : s.pinsCounted) : (s.afterGrant e).pinsCounted :=
  ite_kept h.loadMember.loadMember.settlePair (ite_kept h.tripped h)

/-! ### The requests and the starts -/

/-- An entry that no chain holds may be replaced (R53, R55). -/
theorem State.pinsCounted.writeCue {i : CueId} {e : CueEntry} (h : s.pinsCounted) (hs : (s.cue i).pins = 0) (he : e.pins = 0) :
    (s.putCue i e).pinsCounted := by
  refine h.of_chains (fun _ => rfl) (fun _ => id) fun j => ?_
  by_cases hij : i = j
  · subst hij
    rw [State.putCue_cue_self, he, hs]
  · rw [State.putCue_cue_ne _ hij]

theorem reconfigure_role (a : Axis) (c : AxisConfig) :
    (a.reconfigure c).cfg = c ∧ (a.reconfigure c).state = a.state ∧ (a.reconfigure c).chain = a.chain ∧
      (a.reconfigure c).start = a.start ∧ (a.reconfigure c).current = a.current ∧
      (a.reconfigure c).disposition = a.disposition := by
  unfold Axis.reconfigure
  dsimp only
  split <;> exact ⟨rfl, rfl, rfl, rfl, rfl, rfl⟩

theorem State.pinsCounted.configureAxis {c : AxisConfig} (h : s.pinsCounted) : (s.configureAxis x c).pinsCounted := by
  obtain ⟨-, hstate, hchain, -⟩ := reconfigure_role (s.axis x) c
  have h1 : (s.putAxis x ((s.axis x).reconfigure c)).pinsCounted := h.putAxis hchain fun hd => hstate ▸ hd
  exact ite_kept (h1.putPair.putAxis rfl id) h1

theorem walk_nodup {i : CueId} {chain : List CueId} (h : s.walk i = .ok chain) : chain.Nodup := (walk_ok_iff.mp h).2.2.1

theorem armMember_axis_ne {start : CueId} {chain : List CueId} {y : AxisId} (hy : x ≠ y) :
    (s.armMember x start chain).axis y = s.axis y := by
  rw [State.armMember, enter_axis_ne _ hy, pinChain_axis]

/-- The members that ARM_AXIS arms are DISARMED, the axis itself or both of its pair (R61, R111). -/
theorem armBusy_false (h : s.armBusy x = false) :
    (s.axis x).state = .disarmed ∧ (s.paired x = true → isLeader x = true ∧ (s.axis (followerOf x)).state = .disarmed) := by
  simp only [State.armBusy, Bool.or_eq_false_iff, decide_eq_false_iff_not, not_not, Bool.and_eq_false_iff,
    Bool.not_eq_false'] at h
  obtain ⟨hx, hp⟩ := h
  refine ⟨hx, fun hpaired => ?_⟩
  rcases hp with hp | hp
  · rw [hp] at hpaired
    cases hpaired
  · simpa using hp

/-- The second member of an arming, when there is one, is the follower of a paired leader (R111). -/
theorem secondStart_some {b : Byte} {j : CueId} (h : s.secondStart x b = some (some j)) :
    s.paired x = true ∧ isLeader x = true := by
  unfold State.secondStart at h
  split at h
  · rename_i hp
    simpa using hp
  · cases h

/-- An arming of the walked members: none is taken, or each is armed on its own chain (R49, R61, R111). -/
theorem armChecks_kept_by {P : State → Prop} {i : CueId} {second : Option CueId} (h : P s)
    (one : ∀ chain, second = none → s.walk i = .ok chain → s.notGuarded x = false →
      P (if s.paired x then (s.armMember x i chain).putPair x PairCtx.reset else s.armMember x i chain))
    (two : ∀ j chain chain2, second = some j → s.walk i = .ok chain → s.walk j = .ok chain2 →
      s.notGuarded x = false → s.notGuarded (followerOf x) = false →
      P (if s.paired x then ((s.armMember x i chain).armMember (followerOf x) j chain2).putPair x PairCtx.reset
        else (s.armMember x i chain).armMember (followerOf x) j chain2)) :
    P (s.armChecks x i second).1 := by
  unfold State.armChecks
  split
  · exact h
  · split
    · exact h
    · rename_i chain hw
      cases second with
      | none =>
        dsimp only
        unfold State.armWith
        refine ite_fst_kept h (ite_fst_kept h ?_)
        split
        · exact h
        · rename_i hg
          simp only [List.any_cons, List.any_nil, Bool.or_false, Bool.not_eq_true] at hg
          exact one chain rfl hw hg
      | some j =>
        dsimp only
        split
        · exact h
        · rename_i chain2 hw2
          unfold State.armWith
          refine ite_fst_kept h (ite_fst_kept h ?_)
          split
          · exact h
          · rename_i hg
            simp only [List.any_cons, List.any_nil, Bool.or_false, Bool.not_eq_true, Bool.or_eq_false_iff] at hg
            exact two j chain chain2 rfl hw hw2 hg.1 hg.2

theorem State.pinsCounted.armChecks {i : CueId} {b : Byte} {j : Option CueId} (h : s.pinsCounted)
    (hbusy : s.armBusy x = false) (hsecond : s.secondStart x b = some j) : (s.armChecks x i j).1.pinsCounted := by
  obtain ⟨hx, hpair⟩ := armBusy_false hbusy
  refine armChecks_kept_by h (fun chain _ hw _ => ?_) (fun k chain chain2 hk hw hw2 _ _ => ?_)
  · have h1 := h.armMember (start := i) hx (walk_nodup hw)
    exact ite_kept h1.putPair h1
  · obtain ⟨hp, hl⟩ := secondStart_some (hk ▸ hsecond)
    have hne : x ≠ followerOf x := fun e => by
      rw [e, isLeader_followerOf] at hl
      cases hl
    have h1 := h.armMember (start := i) hx (walk_nodup hw)
    have h2 := h1.armMember (x := followerOf x) (start := k)
      (by rw [armMember_axis_ne hne]; exact (hpair hp).2) (walk_nodup hw2)
    exact ite_kept h2.putPair h2

theorem Axis.count_sameRole (a : Axis) (rehearses : Bool) : (a.count rehearses).SameRole a := .same

theorem countBlocks_axis (y : AxisId) : s.countBlocks.axis y = (s.axis y).count (s.rehearses y) := vector_get_ofFn _ y

theorem State.pinsCounted.countBlocks (h : s.pinsCounted) : s.countBlocks.pinsCounted :=
  h.of_chains (fun y => by rw [countBlocks_axis, (Axis.count_sameRole ..).chain])
    (fun y hy => by rwa [countBlocks_axis, (Axis.count_sameRole ..).state] at hy) fun _ => rfl

/-- A part with fresh axes and no pins. -/
theorem pinsCounted_of_reset (ha : ∀ y, s.axis y = Axis.reset) (hp : ∀ i, (s.cue i).pins = 0) : s.pinsCounted := by
  refine ⟨fun y _ => by rw [ha]; rfl, fun y => by rw [ha]; exact List.nodup_nil, fun i => ?_⟩
  simp only [hp, ha, Axis.reset, List.not_mem_nil, decide_false, List.filter_false, List.length_nil]

theorem cold_axis (pins : Pins) (waiting : List Instr) (y : AxisId) : (State.cold pins waiting).axis y = Axis.reset :=
  vector_get_replicate _ y

theorem warmRestart_axis (y : AxisId) : s.warmRestart.axis y = Axis.reset := vector_get_replicate _ y

theorem pinsCounted_axesKept : AxesKept State.pinsCounted where
  toCoreKept := pinsCounted_coreKept
  halt h := h.halt
  trigger _ h := h.trigger
  demandChange h := h.demandChange
  rampTick h := h.rampTick
  dwellExpiry h := h.dwellExpiry
  endStopChange h := h.endStopChange
  compareJam h := h.steered (.of_putAxis .same)
  withSample h := h.steered (.of_putAxis (withSample_sameRole ..))
  dwellCount h := h.steered (.of_putAxis .same)
  hostDemand h := h.steered (.of_putAxis .same)
  setPosition _ _ _ h := h.steered (.of_putAxis .same)
  count h := h.countBlocks
  grant _ _ h := h.grant
  afterGrant h := h.afterGrant
  sortJoined h := h.of_eq
  markWaiting _ _ h := h.of_eq
  budget _ _ _ _ h := h.of_eq
  configure _ _ h := h.configureAxis
  arm hb hs h := h.armChecks hb hs
  writeCue hs he h := h.writeCue hs he
  scanOff _ h := h.of_eq
  cold pins waiting :=
    pinsCounted_of_reset (cold_axis pins waiting) fun i => by rw [State.cue, State.cold, vector_get_replicate]; rfl
  warm {s} _ := pinsCounted_of_reset warmRestart_axis fun i => by simp [State.cue, State.warmRestart, Vector.get]

/-- Settles O7: arming and disarming keep the counts, and every other operation leaves chains and pins. -/
theorem stepKeepsPinCounts : Obligations.StepKeepsPinCounts := fun _ _ h ht => pinsCounted_axesKept.step h ht

end Sys2Proof.Machine
end

section
/-! PROOFS. The guards: an axis that is not DISARMED keeps its guard channel covered. What else must be kept for this: a grant reaches PENDING
axes alone. -/

namespace Sys2Proof.Machine

-- In turn, since the check limits memory, and every proof under way holds a stack of its own.
set_option Elab.async false

/-- The states in which a pair member moves only during its pair's run (R113). -/
def AxisState.inRun : AxisState → Bool
  | .running | .dwelling | .stopping => true
  | _ => false

theorem AxisState.inRun_iff {st : AxisState} : st.inRun = true ↔ st = .running ∨ st = .dwelling ∨ st = .stopping := by
  cases st <;> simp [AxisState.inRun]

/-- Each entry of the pending list is of a PENDING axis: an unpaired one, or the leader of a pair before its run (R101, R112). -/
def State.waitingFit (s : State) : Prop :=
  ∀ w ∈ s.arbiter.waiting,
    w.pair = s.paired w.axis ∧ (w.pair = true → isLeader w.axis = true ∧ (s.pair w.axis).run = false) ∧
      (s.axis w.axis).state = .pending

/-- The guards, with what keeps a grant from reaching a DISARMED axis. -/
structure State.guardSafe (s : State) : Prop where
  covered : s.guardsCovered
  waiting : s.waitingFit
  apart : ∀ y, s.paired y = false → (s.pair y).run = false
  modes : ∀ y, s.paired y = true → s.mode y ≠ .demand
  follows : ∀ y, s.paired y = true → isLeader y = false → (s.axis y).state.inRun = true → (s.pair y).run = true

/-- No entry of the pending list is the axis's own. -/
def State.notWaiting (s : State) (x : AxisId) : Prop := ∀ w ∈ s.arbiter.waiting, w.axis ≠ x

/-- The axis may run: it is no follower outside its pair's run. -/
def State.mayRun (s : State) (x : AxisId) : Prop := s.paired x = true → isLeader x = false → (s.pair x).run = true

section
variable {s t u : State} {x y : AxisId}

/-! ### What decides the guards -/

/-- What the guards rest on stands; entries may leave the pending list. -/
structure RunStands (s t : State) : Prop where
  cfg : ∀ y, (t.axis y).cfg = (s.axis y).cfg
  state : ∀ y, (t.axis y).state = (s.axis y).state
  run : ∀ y, (t.pair y).run = (s.pair y).run
  waiting : ∀ w ∈ t.arbiter.waiting, ∃ v ∈ s.arbiter.waiting, w.axis = v.axis ∧ w.pair = v.pair
  covers : ∀ c, s.scanner.covers c = true → t.scanner.covers c = true

theorem waiting_subset (h : t.arbiter.waiting ⊆ s.arbiter.waiting) :
    ∀ w ∈ t.arbiter.waiting, ∃ v ∈ s.arbiter.waiting, w.axis = v.axis ∧ w.pair = v.pair :=
  fun w hw => ⟨w, h hw, rfl, rfl⟩

theorem CoreStands.runStands (h : CoreStands s t) : RunStands s t where
  cfg y := by rw [h.axis]
  state y := by rw [h.axis]
  run y := by rw [h.pair]
  waiting := waiting_subset (h.arbiter ▸ List.Subset.refl _)
  covers := h.covers

theorem Steered.runStands (h : Steered x s t) : RunStands s t where
  cfg := h.cfg
  state y := (h.role y).state
  run y := by rw [h.pair]
  waiting := by
    obtain ⟨a, _, hc⟩ := h
    exact waiting_subset (hc.arbiter ▸ List.Subset.refl _)
  covers := by
    obtain ⟨a, _, hc⟩ := h
    exact hc.covers

/-- Where records other than the axes, the pairs, the arbiter and the scanner change. -/
theorem RunStands.of_eq (ha : t.axes = s.axes := by rfl) (hp : t.pairs = s.pairs := by rfl)
    (hw : t.arbiter = s.arbiter := by rfl) (hs : t.scanner = s.scanner := by rfl) : RunStands s t where
  cfg y := by rw [State.axis, ha, State.axis]
  state y := by rw [State.axis, ha, State.axis]
  run y := by rw [State.pair, hp, State.pair]
  waiting := waiting_subset (hw ▸ List.Subset.refl _)
  covers c hc := hs ▸ hc

theorem RunStands.of_putAxis {a : Axis} (hc : a.cfg = (s.axis x).cfg := by rfl) (hs : a.state = (s.axis x).state := by rfl) :
    RunStands s (s.putAxis x a) where
  cfg y := by
    by_cases hy : x = y
    · rw [← hy, State.putAxis_axis_self, hc]
    · rw [State.putAxis_axis_ne _ hy]
  state y := by
    by_cases hy : x = y
    · rw [← hy, State.putAxis_axis_self, hs]
    · rw [State.putAxis_axis_ne _ hy]
  run _ := rfl
  waiting := waiting_subset (List.Subset.refl _)
  covers _ := id

theorem RunStands.paired (h : RunStands s t) (y : AxisId) : t.paired y = s.paired y := paired_of_cfg h.cfg y

theorem RunStands.notWaiting (h : RunStands s t) (hx : s.notWaiting x) : t.notWaiting x := fun w hw => by
  obtain ⟨v, hv, he, _⟩ := h.waiting w hw
  exact he ▸ hx v hv

theorem RunStands.mayRun (h : RunStands s t) (hx : s.mayRun x) : t.mayRun x := fun hp hl => by
  rw [h.run]
  exact hx (h.paired x ▸ hp) hl

theorem State.guardSafe.stands (h : s.guardSafe) (k : RunStands s t) : t.guardSafe where
  covered y c hs hg := k.covers c (h.covered y c (k.state y ▸ hs) (k.cfg y ▸ hg))
  waiting w hw := by
    obtain ⟨v, hv, ha, hp⟩ := k.waiting w hw
    rw [ha, hp, k.paired, k.run, k.state]
    exact h.waiting v hv
  apart y hy := by
    rw [k.run]
    exact h.apart y (k.paired y ▸ hy)
  modes y hy := by
    rw [mode_of_cfg k.cfg]
    exact h.modes y (k.paired y ▸ hy)
  follows y hp hl hs := by
    rw [k.run]
    exact h.follows y (k.paired y ▸ hp) hl (k.state y ▸ hs)

/-! ### A change of state of one axis -/

/-- One axis moves, with its configuration; nothing else that the guards rest on changes. -/
structure OnlyAxis (x : AxisId) (s t : State) : Prop where
  cfg : (t.axis x).cfg = (s.axis x).cfg
  other : ∀ y, x ≠ y → t.axis y = s.axis y
  run : ∀ y, (t.pair y).run = (s.pair y).run
  waiting : t.arbiter = s.arbiter
  covers : ∀ c, s.scanner.covers c = true → t.scanner.covers c = true

theorem OnlyAxis.cfgs (h : OnlyAxis x s t) (y : AxisId) : (t.axis y).cfg = (s.axis y).cfg := by
  by_cases hy : x = y
  · exact hy ▸ h.cfg
  · rw [h.other y hy]

/-- A change of state keeps the guards: the axis is guarded, it leaves PENDING only off the list, and it may run. -/
theorem State.guardSafe.change (h : s.guardSafe) (k : OnlyAxis x s t)
    (hg : (t.axis x).state ≠ .disarmed → ∀ c, (s.axis x).cfg.guard = some c → s.scanner.covers c = true)
    (hw : (t.axis x).state = .pending ∨ s.notWaiting x) (hr : (t.axis x).state.inRun = true → s.mayRun x) : t.guardSafe where
  covered y c hs hc := by
    refine k.covers c ?_
    rw [k.cfgs] at hc
    by_cases hy : x = y
    · subst hy
      exact hg hs c hc
    · exact h.covered y c (k.other y hy ▸ hs) hc
  waiting w hm := by
    rw [k.waiting] at hm
    obtain ⟨hp, hl, hs⟩ := h.waiting w hm
    rw [paired_of_cfg k.cfgs, k.run]
    refine ⟨hp, hl, ?_⟩
    by_cases hy : x = w.axis
    · rcases hw with hw | hw
      · exact hy ▸ hw
      · exact absurd hy.symm (hw w hm)
    · rw [k.other _ hy]
      exact hs
  apart y hy := by
    rw [k.run]
    exact h.apart y (paired_of_cfg k.cfgs y ▸ hy)
  modes y hy := by
    rw [mode_of_cfg k.cfgs]
    exact h.modes y (paired_of_cfg k.cfgs y ▸ hy)
  follows y hp hl hs := by
    rw [paired_of_cfg k.cfgs] at hp
    rw [k.run]
    by_cases hy : x = y
    · subst hy
      exact hr hs hp hl
    · exact h.follows y hp hl (k.other y hy ▸ hs)

theorem enter_onlyAxis {new : AxisState} {f : Axis → Axis} (hf : ∀ a, (f a).cfg = a.cfg) : OnlyAxis x s (s.enter x new f) where
  cfg := by
    rw [enter_axis_self]
    exact hf _
  other y hy := enter_axis_ne s hy new f
  run y := by rw [enter_pair]
  waiting := enter_arbiter ..
  covers := (enter_core x new f).covers

theorem disarm_onlyAxis {keep : Bool} (h : (s.axis x).state ≠ .disarmed) : OnlyAxis x s (s.disarm x keep) where
  cfg := by
    rw [disarm_axis_self h]
    rfl
  other y hy := disarm_axis_ne hy
  run y := by rw [(disarm_core h).pair, State.putAxis_pair, unpinChain_only]; rfl
  waiting := by rw [(disarm_core h).arbiter, State.putAxis_arbiter, unpinChain_only]
  covers c hc := (disarm_core h).covers c (by rw [State.putAxis_scanner, unpinChain_only]; exact hc)

theorem State.guardSafe.enter {new : AxisState} {f : Axis → Axis} (h : s.guardSafe) (hs : (s.axis x).state ≠ .disarmed)
    (hw : new = .pending ∨ s.notWaiting x) (hr : new.inRun = true → s.mayRun x)
    (hf : ∀ a, (f a).cfg = a.cfg := by exact fun _ => rfl) : (s.enter x new f).guardSafe := by
  have hnew : ((s.enter x new f).axis x).state = new := by
    rw [enter_axis_self]
    rfl
  exact h.change (enter_onlyAxis hf) (fun _ c hc => h.covered x c hs hc) (by rwa [hnew]) (by rwa [hnew])

theorem State.guardSafe.disarm {keep : Bool} (h : s.guardSafe) (hw : s.notWaiting x) : (s.disarm x keep).guardSafe := by
  by_cases hs : (s.axis x).state = .disarmed
  · rw [disarm_of_disarmed hs]
    exact h
  have hnew : ((s.disarm x keep).axis x).state = .disarmed := by
    rw [disarm_axis_self hs]
    rfl
  exact h.change (disarm_onlyAxis hs) (fun hn => absurd hnew hn) (.inr hw) (by rw [hnew]; exact fun e => Bool.noConfusion e)

/-! ### Who waits and who may run -/

theorem State.guardSafe.notWaiting (h : s.guardSafe) (hs : (s.axis x).state ≠ .pending) : s.notWaiting x := fun w hw e =>
  hs (e ▸ (h.waiting w hw).2.2)

/-- A pair's run has been granted, so neither it nor a member waits (R112). -/
theorem State.guardSafe.notWaiting_of_run (h : s.guardSafe) (hr : (s.pair x).run = true) : s.notWaiting x := fun w hw e => by
  obtain ⟨hp, hl, _⟩ := h.waiting w hw
  subst e
  have hrun : (s.pair w.axis).run = false := by
    cases hpair : w.pair
    · exact h.apart _ (hp ▸ hpair)
    · exact (hl hpair).2
  rw [hr] at hrun
  cases hrun

theorem State.guardSafe.mayRun (h : s.guardSafe) (hs : (s.axis x).state.inRun = true) : s.mayRun x := fun hp hl =>
  h.follows x hp hl hs

theorem mayRun_of_mode (h : s.guardSafe) (hm : s.mode x = .demand) : s.mayRun x := fun hp => absurd hm (h.modes x hp)

theorem withdraw_stands : RunStands s (s.withdraw x) where
  cfg _ := rfl
  state _ := rfl
  run _ := rfl
  waiting := waiting_subset (List.filter_subset_self _)
  covers _ := id

/-- After its withdrawal an axis is off the list: a member of a pair waits as its leader (R101, R102). -/
theorem withdraw_notWaiting (h : s.guardSafe) : (s.withdraw x).notWaiting x := fun w hw e => by
  obtain ⟨hmem, hkey⟩ := List.mem_filter.mp hw
  obtain ⟨hp, hl, _⟩ := h.waiting w hmem
  subst e
  refine absurd ?_ (of_decide_eq_true hkey)
  unfold State.waitKey
  split
  · rename_i hpaired
    exact (leaderOf_of_isLeader (hl (hp.trans hpaired)).1).symm
  · rfl

/-! ### Pairs -/

theorem putPair_pair_of_eq {p : PairCtx} (h : leaderOf y = leaderOf x) : (s.putPair x p).pair y = p := by
  rw [← State.pair_leaderOf, h, State.pair_leaderOf, State.putPair_pair_self]

theorem putPair_pair_ne {p : PairCtx} (h : leaderOf y ≠ leaderOf x) : (s.putPair x p).pair y = s.pair y :=
  vector_get_set_ne _ _ _ _ fun e => h (pairIndex_eq_iff.mp e).symm

/-- A pair's run is begun or ended. -/
theorem State.guardSafe.putPair {p : PairCtx} (h : s.guardSafe)
    (hon : p.run = true → s.paired x = true ∧ s.notWaiting (leaderOf x))
    (hoff : p.run = false → (s.axis (followerOf x)).state.inRun = false) : (s.putPair x p).guardSafe where
  covered := h.covered
  waiting w hw := by
    obtain ⟨hp, hl, hs⟩ := h.waiting w hw
    refine ⟨hp, fun hpair => ⟨(hl hpair).1, ?_⟩, hs⟩
    by_cases hx : leaderOf w.axis = leaderOf x
    · rw [putPair_pair_of_eq hx]
      cases hrun : p.run
      · rfl
      · exact absurd ((leaderOf_of_isLeader (hl hpair).1).symm.trans hx) ((hon hrun).2 w hw)
    · rw [putPair_pair_ne hx]
      exact (hl hpair).2
  apart y hy := by
    by_cases hx : leaderOf y = leaderOf x
    · rw [putPair_pair_of_eq hx]
      cases hrun : p.run
      · rfl
      · rw [show (s.putPair x p).paired y = s.paired y from rfl, paired_of_leaderOf_eq hx, (hon hrun).1] at hy
        cases hy
    · rw [putPair_pair_ne hx]
      exact h.apart y hy
  modes := h.modes
  follows y hp hl hs := by
    by_cases hx : leaderOf y = leaderOf x
    · rw [putPair_pair_of_eq hx]
      cases hrun : p.run
      · have hy : y = followerOf x := by rw [← eq_followerOf hl, ← followerOf_leaderOf, hx, followerOf_leaderOf]
        rw [State.putPair_axis, hy, hoff hrun] at hs
        cases hs
      · rfl
    · rw [putPair_pair_ne hx]
      exact h.follows y hp hl hs

/-- A pair's other values change alone. -/
theorem putPair_stands {p : PairCtx} (hr : p.run = (s.pair x).run := by rfl) : RunStands s (s.putPair x p) where
  cfg _ := rfl
  state _ := rfl
  run y := by
    by_cases hx : leaderOf y = leaderOf x
    · rw [putPair_pair_of_eq hx, hr, State.pair, State.pair, pairIndex_eq_iff.mpr hx]
    · rw [putPair_pair_ne hx]
  waiting := waiting_subset (List.Subset.refl _)
  covers _ := id

theorem inRun_active {st : AxisState} (h : st.active = false) : st.inRun = false := by
  revert h
  cases st <;> decide

theorem State.guardSafe.settlePair (h : s.guardSafe) : (s.settlePair x).guardSafe := by
  unfold State.settlePair
  dsimp only
  split
  · rename_i hc
    obtain ⟨-, -, -, hf⟩ := hc
    exact h.putPair (fun e => Bool.noConfusion e) fun _ => inRun_active (by simpa [State.isActive] using hf)
  · exact h

/-! ### Dispositions and halts -/

theorem State.guardSafe.post {l : LineId} {c : Cause} {d : Details → Details} (h : s.guardSafe) : (s.post l c d).guardSafe :=
  h.stands (post_core ..).runStands

theorem State.guardSafe.settleBy {d : Disposition} (h : s.guardSafe) (hs : (s.axis x).state ≠ .disarmed)
    (hw : s.notWaiting x) : (s.settleBy x d).guardSafe := by
  unfold State.settleBy
  extract_lets a p ending s1 s2
  have moved : ∀ {v : State}, v.guardSafe → OnlyAxis x s v → v.guardSafe ∧ (v.pair x).run = (s.pair x).run := fun hv k =>
    ⟨hv, k.run x⟩
  have hdis := moved (h.disarm (keep := false) hw) (disarm_onlyAxis hs)
  have hent : ∀ {new : AxisState} {f : Axis → Axis}, new.inRun = false → (∀ a, (f a).cfg = a.cfg) →
      (s.enter x new f).guardSafe ∧ ((s.enter x new f).pair x).run = (s.pair x).run := fun hn hf =>
    moved (h.enter hs (.inr hw) (fun e => by rw [hn] at e; cases e) hf) (enter_onlyAxis hf)
  have h1 : s1.guardSafe ∧ (s1.pair x).run = (s.pair x).run := by
    cases d with
    | pause => exact hent rfl fun _ => rfl
    | abandon => exact ite_kept (P := fun v : State => v.guardSafe ∧ (v.pair x).run = (s.pair x).run) hdis (hent rfl fun _ => rfl)
    | disarm => exact hdis
  obtain ⟨h1, hp⟩ := h1
  have h2 : s2.guardSafe :=
    ite_kept (State.guardSafe.post (h1.stands (putPair_stands hp.symm))) h1
  exact h2.settlePair

theorem State.guardSafe.handDisposition {d : Disposition} (h : s.guardSafe) : (s.handDisposition x d).guardSafe := by
  unfold State.handDisposition
  split
  case h_1 hs => exact h.enter (by simp [hs]) (.inr (h.notWaiting (by simp [hs]))) fun _ => h.mayRun (by simp [hs, AxisState.inRun])
  case h_2 hs => exact h.stands .of_putAxis
  case h_3 hs => exact (h.stands withdraw_stands).settleBy (show (s.axis x).state ≠ .disarmed by simp [hs]) (withdraw_notWaiting h)
  case h_4 hs => exact h.settleBy (by simp [hs]) (h.notWaiting (by simp [hs]))
  case h_5 hs => exact h.settleBy (by simp [hs]) (h.notWaiting (by simp [hs]))
  case h_6 hs => exact ite_kept (h.disarm (h.notWaiting (by simp [hs]))) h
  case h_7 hs => exact h

theorem guardSafe_coreKept : CoreKept State.guardSafe := ⟨fun hc h => h.stands hc.runStands, fun _ h => h.handDisposition⟩

theorem State.guardSafe.endRun (h : s.guardSafe) : (s.endRun x).guardSafe := ite_kept h.handDisposition.settlePair h

theorem State.guardSafe.halt {why : HaltCause} (h : s.guardSafe) : (s.halt x why).guardSafe := by
  unfold State.halt
  extract_lets a s1 src s2 s3
  have k2 : RunStands s1 s2 := ite_kept .of_putAxis .of_eq
  have h2 : s2.guardSafe := (h.stands withdraw_stands).stands k2
  have h3 : s3.guardSafe := (h2.disarm (k2.notWaiting (withdraw_notWaiting h))).post
  refine ite_kept h ?_
  cases why
  · exact h3.settlePair
  · exact guardSafe_coreKept.raise h3.endRun
  · exact guardSafe_coreKept.raise h3.endRun

/-! ### Loads -/

/-- An axis that may load: armed or active, off the list, and in its pair's run if it is a follower. -/
structure State.loadable (s : State) (x : AxisId) : Prop where
  guardSafe : s.guardSafe
  armed : (s.axis x).state ≠ .disarmed
  free : s.notWaiting x
  mayRun : s.mayRun x

theorem State.loadable.stands (h : s.loadable x) (k : RunStands s t) : t.loadable x :=
  ⟨h.guardSafe.stands k, k.state x ▸ h.armed, k.notWaiting h.free, k.mayRun h.mayRun⟩

theorem State.loadable.enter {new : AxisState} {f : Axis → Axis} (h : s.loadable x)
    (hf : ∀ a, (f a).cfg = a.cfg := by exact fun _ => rfl) : (s.enter x new f).guardSafe :=
  h.guardSafe.enter h.armed (.inr h.free) (fun _ => h.mayRun) hf

theorem State.guardSafe.loadable (h : s.guardSafe) (hs : (s.axis x).state.inRun = true) : s.loadable x where
  guardSafe := h
  armed e := by
    rw [e] at hs
    cases hs
  free := h.notWaiting fun e => by
    rw [e] at hs
    cases hs
  mayRun := h.mayRun hs

theorem State.loadable.seekMiss (h : s.loadable x) : (s.seekMiss x).guardSafe := by
  have k : RunStands s (s.post (axisLine x) .seekMiss) := (post_core ..).runStands
  exact ((h.guardSafe.stands k).disarm (k.notWaiting h.free)).endRun.settlePair

theorem stepCue_stands : RunStands s (s.stepCue x) := by
  unfold State.stepCue
  split
  · exact .of_eq
  · exact .of_putAxis

theorem State.loadable.completeEntry (h : s.loadable x) :
    (s.completeEntry x).1.guardSafe ∧ ((s.completeEntry x).2 = true → (s.completeEntry x).1.loadable x) := by
  have h1 : (s.stepCue x).loadable x := h.stands stepCue_stands
  unfold State.completeEntry
  dsimp only
  split
  · exact ⟨(h1.stands (post_core ..).runStands).enter, fun e => Bool.noConfusion e⟩
  · exact ⟨h1.guardSafe, fun _ => h1⟩

theorem State.loadable.completeStopping (h : s.loadable x) : (s.completeStopping x).guardSafe := by
  have h1 : (s.stepCue x).loadable x := h.stands stepCue_stands
  unfold State.completeStopping
  extract_lets s1 s2
  have h2 : s2.loadable x := ite_kept (P := fun t : State => t.loadable x) (h1.stands (post_core ..).runStands) h1
  exact h2.guardSafe.settleBy h2.armed h2.free

theorem State.loadable.settleChainEnd (h : s.loadable x) : (s.settleChainEnd x).guardSafe := by
  have h1 : ∀ d, (s.post (axisLine x) .chainEnd d).loadable x := fun d => h.stands (post_core ..).runStands
  exact ite_kept (h1 _).enter ((h1 _).guardSafe.disarm (h1 _).free)

theorem State.loadable.restartLeader (h : s.loadable x) : (s.restartLeader x).guardSafe := by
  have h1 : (s.putPair x { s.pair x with loops := satAdd 255 (s.pair x).loops 1 }).loadable x := h.stands putPair_stands
  unfold State.restartLeader
  exact h1.enter fun _ => rfl

theorem State.loadable.chainEnd (h : s.loadable x) : (s.chainEnd x).guardSafe := by
  unfold State.chainEnd
  split
  · split
    · exact h.restartLeader
    · unfold State.endPair
      dsimp only
      exact (h.settleChainEnd.stands (putPair_stands (p := { (s.settleChainEnd x).pair x with endFlag := true }))).handDisposition.settlePair
  · exact h.settleChainEnd

/-- An axis that has just become PENDING joins the list; a follower does not, for it is in its pair's run. -/
theorem State.guardSafe.join (h : s.guardSafe) (hs : (s.axis x).state = .pending)
    (hp : s.paired x = true → isLeader x = true ∧ (s.pair x).run = false) : (s.joinPending x).guardSafe where
  covered := h.covered
  waiting w hw := by
    rcases List.mem_append.mp hw with hw | hw
    · exact h.waiting w hw
    · rw [List.mem_singleton.mp hw]
      have hkey : s.waitKey x = x := by
        unfold State.waitKey
        split
        · rename_i hpaired
          exact leaderOf_of_isLeader (hp hpaired).1
        · rfl
      dsimp only
      rw [hkey]
      exact ⟨rfl, hp, hs⟩
  apart := h.apart
  modes := h.modes
  follows := h.follows

theorem State.loadable.enterPending {f : Axis → Axis} (h : s.loadable x) (hr : s.paired x = true → (s.pair x).run = false)
    (hf : ∀ a, (f a).cfg = a.cfg := by exact fun _ => rfl) : ((s.enter x .pending f).joinPending x).guardSafe := by
  have hpaired : (s.enter x .pending f).paired x = s.paired x := paired_of_cfg (enter_onlyAxis hf).cfgs x
  refine (h.enter hf).join (by rw [enter_axis_self]; rfl) fun hp => ?_
  rw [hpaired] at hp
  rw [enter_pair]
  refine ⟨?_, hr hp⟩
  cases hl : isLeader x
  · have := h.mayRun hp hl
    rw [hr hp] at this
    cases this
  · rfl

/-- What the load of one entry leaves. -/
def State.loadKept (x : AxisId) (r : State × Bool) : Prop := r.1.guardSafe ∧ (r.2 = true → r.1.loadable x)

theorem loadKept_still (h : s.guardSafe) : State.loadKept x (s, false) := ⟨h, fun e => Bool.noConfusion e⟩

theorem State.loadable.enterRamp {new : AxisState} {p : Profile} (h : s.loadable x) :
    (s.enter x new fun b => b.startRamp p).guardSafe := h.enter fun _ => rfl

theorem State.loadable.enterTrip {p : Profile} (h : s.loadable x) :
    ((s.enter x .running fun b => b.startRamp p).halt x .endStop).guardSafe := State.guardSafe.halt h.enterRamp

theorem State.loadable.enterWait {p : Profile} (h : s.loadable x) (hr : s.holdsRunCurrent x = false) :
    ((s.enter x .pending fun b => b.startRamp p).joinPending x).guardSafe :=
  h.enterPending (fun hp => by simpa [State.holdsRunCurrent, hp] using hr) fun _ => rfl

theorem State.loadable.enterDwell {ms : Nat} (h : s.loadable x) :
    (s.enter x .dwelling fun a => { a with dwell := ms, restartWait := false }).guardSafe := h.enter

theorem State.loadable.loadAnswers (h : s.loadable x) : LoadAnswers s x (State.loadKept x) where
  done _ hu := ⟨h.guardSafe.stands hu.runStands, fun _ => h.stands hu.runStands⟩
  miss _ hu _ := loadKept_still (h.stands hu.runStands).seekMiss
  pauses _ hu _ := loadKept_still (h.stands hu.runStands).enter
  runs _ _ hu _ := loadKept_still (h.stands hu.runStands).enterRamp
  trips _ _ hu _ _ := loadKept_still (h.stands hu.runStands).enterTrip
  waits _ _ hu hr _ := loadKept_still ((h.stands hu.runStands).enterWait (hu.holdsRunCurrent.trans hr))

theorem State.loadable.loadOne (h : s.loadable x) : State.loadKept x (s.loadOne x) :=
  loadOne_answer h.loadAnswers (fun _ => loadKept_still h.guardSafe) (fun _ => loadKept_still h.chainEnd)
    (fun _ _ _ => loadKept_still h.guardSafe) fun _ => loadKept_still h.enterDwell

theorem State.loadable.loadEntries : ∀ (fuel : Nat) {s : State}, s.loadable x → (State.loadEntries x fuel s).guardSafe
  | 0, _, h => h.guardSafe
  | fuel + 1, s, h => by
    obtain ⟨h1, hdone⟩ := h.loadOne
    unfold State.loadEntries
    dsimp only
    split
    · rename_i hd
      obtain ⟨h2, hmore⟩ := (hdone hd).completeEntry
      split
      · rename_i hm
        exact State.loadable.loadEntries fuel (hmore hm)
      · exact h2
    · exact h1

theorem State.loadable.load (h : s.loadable x) : (s.load x).guardSafe := h.loadEntries _

theorem State.loadable.completeAndGoOn (h : s.loadable x) : (s.completeAndGoOn x).guardSafe := by
  obtain ⟨h1, hmore⟩ := h.completeEntry
  unfold State.completeAndGoOn
  dsimp only
  split
  · rename_i hm
    exact (hmore hm).load
  · exact h1

theorem State.loadable.goOn {c : Prop} [Decidable c] (h : s.loadable x) :
    (if c then s.completeStopping x else s.completeAndGoOn x).guardSafe := ite_kept h.completeStopping h.completeAndGoOn

/-! ### The events of an axis -/

theorem moving_inRun {st : AxisState} (h : st.moving = true) : st.inRun = true := by
  rcases moving_iff.mp h with rfl | rfl <;> rfl

theorem State.loadable.countReached (h : s.loadable x) : (s.countReached x).guardSafe :=
  ite_kept h.goOn (ite_kept (h.stands (takeVirtualHome_steered x _).runStands).goOn h.seekMiss)

theorem State.guardSafe.rampTick (h : s.guardSafe) : (s.rampTick x).guardSafe := by
  unfold State.rampTick
  split
  · rename_i hm
    split
    · exact h
    · extract_lets a s1
      have h1 : s1.loadable x := (h.loadable (moving_inRun hm)).stands .of_putAxis
      exact ite_kept h1.countReached (ite_kept (h1.guardSafe.settleBy h1.armed h1.free) h1.guardSafe)
  · exact h

theorem State.guardSafe.dwellExpiry (h : s.guardSafe) : (s.dwellExpiry x).guardSafe := by
  unfold State.dwellExpiry
  extract_lets a s1
  split
  · rename_i hd
    have h1 : s1.loadable x := (h.loadable (by rw [hd]; rfl)).stands .of_putAxis
    exact ite_kept h1.load h1.completeAndGoOn
  · exact h

theorem State.guardSafe.tripped {side : StopSide} (h : s.guardSafe) (hm : (s.axis x).state.moving = true) :
    (s.tripped x side).guardSafe :=
  ite_kept ((h.loadable (moving_inRun hm)).stands (takeHome_steered x _).runStands).goOn h.halt

theorem State.guardSafe.endStopChange {side : StopSide} {level : Bool} (h : s.guardSafe) :
    (s.endStopChange x side level).guardSafe := by
  unfold State.endStopChange
  extract_lets a s1
  have k : Steered x s s1 := .of_putAxis (withStopLevel_sameRole _ side level)
  refine ite_kept h ?_
  split
  · rename_i hm
    exact (h.stands k.runStands).tripped (by rw [k.axis_self.state]; exact hm.2.1)
  · exact h.stands k.runStands

theorem State.guardSafe.demandDrop (h : s.guardSafe) (hm : s.mode x = .demand) : (s.demandDrop x).guardSafe := by
  unfold State.demandDrop
  split
  · rename_i hs
    exact h.enter (by simp [hs]) (.inr (h.notWaiting (by simp [hs]))) fun _ => mayRun_of_mode h hm
  · rename_i hs
    exact (h.stands withdraw_stands).enter (show (s.axis x).state ≠ .disarmed by simp [hs]) (.inr (withdraw_notWaiting h)) fun e => Bool.noConfusion e
  · exact h

theorem State.guardSafe.demandReturn (h : s.guardSafe) (hm : s.mode x = .demand) : (s.demandReturn x).guardSafe := by
  have unpaired : s.paired x ≠ true := fun hp => h.modes x hp hm
  unfold State.demandReturn
  dsimp only
  split
  · rename_i hs
    have hl : s.loadable x := ⟨h, by simp [hs], h.notWaiting (by simp [hs]), mayRun_of_mode h hm⟩
    refine ite_kept hl.load ?_
    split
    · exact h
    · exact hl.enterPending (fun hp => absurd hp unpaired) fun _ => rfl
  · rename_i hs
    exact ite_kept (h.enter (by simp [hs]) (.inr (h.notWaiting (by simp [hs]))) fun _ => mayRun_of_mode h hm) h
  · exact h

theorem State.guardSafe.demandChange {asserted : Bool} (h : s.guardSafe) : (s.demandChange x asserted).guardSafe := by
  unfold State.demandChange
  split
  · rename_i hm
    exact ite_kept (h.demandReturn hm) (h.demandDrop hm)
  · exact h

/-! ### Triggers and grants -/

/-- A pair's run is under way when a member loads with it. -/
theorem State.guardSafe.loadMember {st : AxisState} (h : s.guardSafe) (hs : st ≠ .disarmed) : (s.loadMember x st).guardSafe := by
  unfold State.loadMember
  split
  · rename_i hc
    obtain ⟨hst, hr⟩ := hc
    exact State.loadable.load ⟨h, hst ▸ hs, h.notWaiting_of_run hr, fun _ _ => hr⟩
  · exact h

/-- The trigger of a pair whose members are both ARMED (R112). -/
theorem State.guardSafe.triggerPair (h : s.guardSafe) (hp : s.paired x = true) (hx : (s.axis x).state = .armed)
    (hl : isLeader x = true) (hf : (s.axis (followerOf x)).state = .armed) : (s.triggerPair x).guardSafe := by
  have hleader : leaderOf x = x := leaderOf_of_isLeader hl
  have hne : x ≠ followerOf x := fun e => leaderOf_ne_followerOf x (hleader.trans e)
  have free : ∀ y, (s.axis y).state = .armed → s.notWaiting y := fun y hy => h.notWaiting (by simp [hy])
  unfold State.triggerPair
  extract_lets l f s0
  have h0 : s0.guardSafe := h.putPair (fun _ => ⟨hp, free _ (by rw [hleader]; exact hx)⟩) (fun _ => by rw [hf]; rfl)
  split
  · exact (((h0.stands (startRehearsal_steered l).runStands).stands (startRehearsal_steered f).runStands).loadMember
      (by simp)).loadMember (by simp)
  · rename_i hr
    have h1 : (s0.enter x .pending).guardSafe := h0.enter (show (s.axis x).state ≠ .disarmed by simp [hx]) (.inl rfl) fun e => Bool.noConfusion e
    have hfs : ((s0.enter x .pending).axis (followerOf x)).state = .armed := by
      rw [enter_axis_ne _ hne]
      exact hf
    have h2 : ((s0.enter x .pending).enter (followerOf x) .pending).guardSafe :=
      h1.enter (by simp [hfs]) (.inl rfl) fun e => Bool.noConfusion e
    show (((s0.enter (leaderOf x) .pending).enter (followerOf x) .pending).joinPending (leaderOf x)).guardSafe
    rw [hleader]
    refine h2.join ?_ fun _ => ⟨hl, ?_⟩
    · rw [enter_axis_ne _ (Ne.symm hne), enter_axis_self]
      rfl
    · rw [enter_pair, enter_pair, State.putPair_pair_self]
      simpa using hr

theorem State.guardSafe.trigger (h : s.guardSafe) (hready : s.pairReady x) : (s.trigger x).guardSafe := by
  unfold State.trigger
  split
  · rename_i hs
    have free : s.notWaiting x := h.notWaiting (by simp [hs])
    split
    · rename_i hp
      obtain ⟨hl, hf⟩ := hready hp (h.modes x hp)
      exact h.triggerPair hp hs hl hf
    · rename_i hp
      have hl : s.loadable x := ⟨h, by simp [hs], free, fun hpaired => absurd hpaired hp⟩
      exact ite_kept (hl.stands (startRehearsal_steered x).runStands).load hl.load
  · exact h

/-- A grant takes its entry off the list: a pair's run begins, or an unpaired axis runs (R67, R112). -/
theorem State.guardSafe.grant {w : PendingEntry} (h : s.guardSafe) (hw : w ∈ s.arbiter.waiting) : (s.grant w).guardSafe := by
  obtain ⟨hp, hl, hs⟩ := h.waiting w hw
  unfold State.grant
  extract_lets arbiter s1
  have k1 : RunStands s s1 := ⟨fun _ => rfl, fun _ => rfl, fun _ => rfl, waiting_subset (List.filter_subset_self _), fun _ => id⟩
  have free : s1.notWaiting w.axis := fun v hv => of_decide_eq_true (List.mem_filter.mp hv).2
  have h1 : s1.guardSafe := h.stands k1
  split
  · rename_i hpair
    refine h1.putPair (fun _ => ⟨(k1.paired _).trans (hp.symm.trans hpair), ?_⟩) fun e => Bool.noConfusion e
    rw [leaderOf_of_isLeader (hl hpair).1]
    exact free
  · rename_i hpair
    refine h1.enter (show (s.axis w.axis).state ≠ .disarmed by simp [hs]) (.inr free) fun _ hpaired => ?_
    exact absurd (hp.trans ((k1.paired _).symm.trans hpaired)) hpair

theorem State.guardSafe.afterGrant {w : PendingEntry} (h : s.guardSafe) : (s.afterGrant w).guardSafe := by
  refine ite_kept ((h.loadMember (by simp)).loadMember (by simp)).settlePair ?_
  unfold State.grantTrip
  dsimp only
  split
  · rename_i hc
    exact h.tripped hc.1
  · exact h

theorem sortJoined_stands : RunStands t (s.sortJoined t) where
  cfg _ := rfl
  state _ := rfl
  run _ := rfl
  waiting := waiting_subset fun w hw => by
    rcases List.mem_append.mp hw with hw | hw
    · exact (List.mem_filter.mp hw).1
    · obtain ⟨y, _, hy⟩ := List.mem_flatMap.mp hw
      exact (List.mem_filter.mp (List.mem_filter.mp hy).1).1
  covers _ := id

theorem markWaiting_stands {f : PendingEntry → PendingEntry} (hf : ∀ w, (f w).axis = w.axis ∧ (f w).pair = w.pair) :
    RunStands s { s with arbiter := { s.arbiter with waiting := s.arbiter.waiting.map f } } where
  cfg _ := rfl
  state _ := rfl
  run _ := rfl
  waiting w hw := by
    obtain ⟨v, hv, rfl⟩ := List.mem_map.mp hw
    exact ⟨v, hv, hf v⟩
  covers _ := id

theorem countBlocks_stands : RunStands s s.countBlocks where
  cfg y := by rw [countBlocks_axis, (Axis.count_sameRole ..).cfg]
  state y := by rw [countBlocks_axis, (Axis.count_sameRole ..).state]
  run _ := rfl
  waiting w hw := by
    obtain ⟨v, hv, rfl⟩ := List.mem_map.mp hw
    exact ⟨v, hv, rfl, rfl⟩
  covers c hc := hc

/-! ### SET_AXIS and ARM_AXIS -/

theorem dissolve_axis {mode : AxisMode} (y : AxisId) :
    ((s.dissolve x mode).axis y).cfg = (s.axis y).cfg ∧ ((s.dissolve x mode).axis y).state = (s.axis y).state := by
  unfold State.dissolve
  dsimp only
  by_cases hy : followerOf x = y
  · subst hy
    rw [State.putAxis_axis_self]
    exact ⟨rfl, rfl⟩
  · rw [State.putAxis_axis_ne _ hy, State.putPair_axis]
    exact ⟨rfl, rfl⟩

/-- SET_AXIS writes the configuration of its axis and changes no state. -/
theorem configureAxis_axis {c : AxisConfig} (y : AxisId) :
    ((s.configureAxis x c).axis y).cfg = (if x = y then c else (s.axis y).cfg) ∧
      ((s.configureAxis x c).axis y).state = (s.axis y).state := by
  obtain ⟨hcfg, hstate, -⟩ := reconfigure_role (s.axis x) c
  have h1 : ((s.putAxis x ((s.axis x).reconfigure c)).axis y).cfg = (if x = y then c else (s.axis y).cfg) ∧
      ((s.putAxis x ((s.axis x).reconfigure c)).axis y).state = (s.axis y).state := by
    by_cases hy : x = y
    · rw [if_pos hy, ← hy, State.putAxis_axis_self]
      exact ⟨hcfg, hstate⟩
    · rw [if_neg hy, State.putAxis_axis_ne _ hy]
      exact ⟨rfl, rfl⟩
  unfold State.configureAxis
  dsimp only
  split
  · obtain ⟨hc, hs⟩ := dissolve_axis (s := s.putAxis x ((s.axis x).reconfigure c)) (x := x) (mode := (s.axis x).cfg.mode) y
    exact ⟨hc.trans h1.1, hs.trans h1.2⟩
  · exact h1

/-- SET_AXIS that takes a pair flag off clears the context of the axis's pair, and no other context (R109). -/
theorem configureAxis_pair {c : AxisConfig} (y : AxisId) :
    (s.configureAxis x c).pair y =
      if ((s.axis x).cfg.pair = true ∧ c.pair = false) ∧ leaderOf y = leaderOf x then PairCtx.reset else s.pair y := by
  have hcond : ((s.axis x).cfg.pair && !c.pair) = true ↔ (s.axis x).cfg.pair = true ∧ c.pair = false := by simp
  unfold State.configureAxis
  dsimp only
  by_cases hd : (s.axis x).cfg.pair = true ∧ c.pair = false
  · rw [if_pos (hcond.mpr hd)]
    unfold State.dissolve
    by_cases hy : leaderOf y = leaderOf x
    · rw [if_pos ⟨hd, hy⟩, State.putAxis_pair, putPair_pair_of_eq hy]
    · rw [if_neg fun h => hy h.2, State.putAxis_pair, putPair_pair_ne hy]
      rfl
  · rw [if_neg fun h => hd (hcond.mp h), if_neg fun h => hd h.1]
    rfl

theorem configureAxis_arbiter {c : AxisConfig} : (s.configureAxis x c).arbiter = s.arbiter := by
  unfold State.configureAxis
  dsimp only
  split <;> rfl

theorem configureAxis_scanner {c : AxisConfig} : (s.configureAxis x c).scanner = s.scanner := by
  unfold State.configureAxis
  dsimp only
  split <;> rfl

theorem configureAxis_paired {c : AxisConfig} (y : AxisId) :
    (s.configureAxis x c).paired y = if x = leaderOf y then c.pair else s.paired y := by
  unfold State.paired
  rw [(configureAxis_axis _).1]
  split <;> rfl

theorem configFits_pair {c : AxisConfig} (h : s.configFits x c = true) (hp : c.pair = true) :
    isLeader x = true ∧ c.mode ≠ .demand := by
  simp only [State.configFits, hp, Bool.not_true, Bool.false_or, Bool.and_eq_true, Bool.or_eq_true, decide_eq_true_eq] at h
  obtain ⟨-, ⟨hl, hm⟩, -⟩ := h
  exact ⟨hl, by rcases hm with hm | hm <;> simp [hm]⟩

theorem configBusy_false {c : AxisConfig} (h : s.configBusy x c = false) :
    (s.axis x).state = .disarmed ∧ (c.pair = true → (s.axis (followerOf x)).state = .disarmed) := by
  simp only [State.configBusy, Bool.or_eq_false_iff, decide_eq_false_iff_not, not_not, Bool.and_eq_false_iff] at h
  obtain ⟨⟨⟨hx, hf⟩, -⟩, -⟩ := h
  refine ⟨hx, fun hp => ?_⟩
  rcases hf with hf | hf
  · rw [hp] at hf
    cases hf
  · exact hf

/-- The members of an axis's pair other than the axis: a follower under a leader, a leader over a follower. -/
theorem member_of_ne (h : leaderOf y = x) (hne : x ≠ y) : isLeader y = false ∧ followerOf x = y := by
  subst h
  have hy := (eq_leaderOf_or_followerOf y).resolve_left (Ne.symm hne)
  exact ⟨hy ▸ isLeader_followerOf y, (followerOf_leaderOf y).trans hy.symm⟩

theorem State.guardSafe.configureAxis {c : AxisConfig} (h : s.guardSafe) (hfit : s.configFits x c = true)
    (hbusy : s.configBusy x c = false) : (s.configureAxis x c).guardSafe := by
  obtain ⟨hx, hf⟩ := configBusy_false hbusy
  have hstate : ∀ y, ((s.configureAxis x c).axis y).state = (s.axis y).state := fun y => (configureAxis_axis y).2
  have hrun : ∀ y, (s.pair y).run = false → ((s.configureAxis x c).pair y).run = false := fun y hy => by
    rw [configureAxis_pair]
    split
    · rfl
    · exact hy
  have hne : ∀ y, (s.axis y).state ≠ .disarmed → x ≠ y := fun y hy e => hy (e ▸ hx)
  refine ⟨fun y g hs hg => ?_, fun w hw => ?_, fun y hy => ?_, fun y hy => ?_, fun y hp hl hs => ?_⟩
  · rw [hstate] at hs
    rw [(configureAxis_axis y).1, if_neg (hne y hs)] at hg
    rw [configureAxis_scanner]
    exact h.covered y g hs hg
  · rw [configureAxis_arbiter] at hw
    obtain ⟨hp, hl, hs⟩ := h.waiting w hw
    rw [hstate]
    refine ⟨?_, fun hpair => ⟨(hl hpair).1, hrun _ (hl hpair).2⟩, hs⟩
    rw [configureAxis_paired]
    split
    · rename_i hk
      obtain ⟨hfol, hw'⟩ := member_of_ne hk.symm (hne _ (by simp [hs]))
      cases hc : c.pair
      · cases hpair : w.pair
        · rfl
        · rw [(hl hpair).1] at hfol
          cases hfol
      · have := hf hc
        rw [hw', hs] at this
        cases this
    · exact hp
  · rw [configureAxis_paired] at hy
    split at hy
    · rename_i hk
      rw [configureAxis_pair]
      split
      · rfl
      · rename_i hd
        refine h.apart y ?_
        rw [State.paired, ← hk]
        exact Bool.eq_false_iff.mpr fun hp => hd ⟨⟨hp, hy⟩, by rw [hk, leaderOf_leaderOf]⟩
    · exact hrun y (h.apart y hy)
  · have hpair := hy
    rw [configureAxis_paired] at hy
    rw [State.mode, if_pos hpair, (configureAxis_axis _).1]
    split at hy
    · rename_i hk
      rw [if_pos hk]
      exact (configFits_pair hfit hy).2
    · rename_i hk
      rw [if_neg hk]
      have := h.modes y hy
      rwa [State.mode, if_pos hy] at this
  · rw [hstate] at hs
    have hxy : x ≠ y := hne y fun e => by
      rw [e] at hs
      cases hs
    rw [configureAxis_paired] at hp
    split at hp
    · rename_i hk
      have := hf hp
      rw [(member_of_ne hk.symm hxy).2] at this
      rw [this] at hs
      cases hs
    · rename_i hk
      have hother : leaderOf y ≠ leaderOf x := fun e => by
        rcases eq_leaderOf_or_followerOf x with hx' | hx'
        · exact hk (hx'.trans e.symm)
        · exact hxy (by rw [hx', ← followerOf_leaderOf, ← e, followerOf_leaderOf, eq_followerOf hl])
      rw [configureAxis_pair, if_neg fun hd => hother hd.2]
      exact h.follows y hp hl hs

theorem armMember_onlyAxis {start : CueId} {chain : List CueId} : OnlyAxis x s (s.armMember x start chain) where
  cfg := by
    rw [State.armMember, enter_axis_self, pinChain_axis]
    rfl
  other y hy := armMember_axis_ne hy
  run y := by
    rw [State.armMember, enter_pair, pinChain_only]
    rfl
  waiting := by rw [State.armMember, enter_arbiter, pinChain_only]
  covers c hc := (enter_core ..).covers c (by rw [State.putAxis_scanner, pinChain_only]; exact hc)

theorem notGuarded_false (h : s.notGuarded x = false) (c : ChannelId) (hc : (s.axis x).cfg.guard = some c) :
    s.scanner.covers c = true := by
  simpa [State.notGuarded, hc] using h

theorem State.guardSafe.armMember {start : CueId} {chain : List CueId} (h : s.guardSafe)
    (hs : (s.axis x).state = .disarmed) (hg : ∀ c, (s.axis x).cfg.guard = some c → s.scanner.covers c = true) :
    (s.armMember x start chain).guardSafe := by
  have hnew : ((s.armMember x start chain).axis x).state = .armed := by
    rw [State.armMember, enter_axis_self]
    rfl
  exact h.change armMember_onlyAxis (fun _ => hg) (.inr (h.notWaiting (by simp [hs]))) fun e => by
    rw [hnew] at e
    cases e

theorem State.guardSafe.armChecks {i : CueId} {b : Byte} {j : Option CueId} (h : s.guardSafe)
    (hbusy : s.armBusy x = false) (hsecond : s.secondStart x b = some j) : (s.armChecks x i j).1.guardSafe := by
  obtain ⟨hx, hpair⟩ := armBusy_false hbusy
  have follower_ne : isLeader x = true → x ≠ followerOf x := fun hl e => by
    rw [e, isLeader_followerOf] at hl
    cases hl
  refine armChecks_kept_by h (fun chain _ _ hg => ?_) (fun k chain chain2 hk _ _ hg hg2 => ?_)
  · have h1 := h.armMember (start := i) (chain := chain) hx (notGuarded_false hg)
    split
    · rename_i hp
      obtain ⟨hl, hf⟩ := hpair hp
      refine h1.putPair (fun e => Bool.noConfusion e) fun _ => ?_
      rw [armMember_axis_ne (follower_ne hl), hf]
      rfl
    · exact h1
  · obtain ⟨hp, hl⟩ := secondStart_some (hk ▸ hsecond)
    have h1 := h.armMember (start := i) (chain := chain) hx (notGuarded_false hg)
    have hf : ((s.armMember x i chain).axis (followerOf x)) = s.axis (followerOf x) := armMember_axis_ne (follower_ne hl)
    have h2 := h1.armMember (x := followerOf x) (start := k) (chain := chain2) (by rw [hf]; exact (hpair hp).2) fun c hc =>
      armMember_onlyAxis.covers c (notGuarded_false hg2 c (hf ▸ hc))
    refine ite_kept (h2.putPair (fun e => Bool.noConfusion e) fun _ => ?_) h2
    rw [State.armMember, enter_axis_self]
    rfl

/-! ### The scanner and the starts -/

theorem State.guardSafe.scanOff (h : s.guardSafe) (hg : s.guardHeld = false) :
    State.guardSafe { s with scanner := { s.scanner with state := .off, periodRemaining := none } } where
  covered y c hs hc := by
    have := List.any_eq_false.mp hg y (mem_allAxes y)
    rw [Bool.and_eq_true, decide_eq_true_eq, Option.isSome_iff_exists] at this
    exact absurd ⟨hs, c, hc⟩ this
  waiting := h.waiting
  apart := h.apart
  modes := h.modes
  follows := h.follows

/-- A part with fresh axes, pairs and pending list. -/
theorem guardSafe_of_reset (ha : ∀ y, s.axis y = Axis.reset) (hp : ∀ y, s.pair y = PairCtx.reset)
    (hw : s.arbiter.waiting = []) : s.guardSafe where
  covered y c hs := by
    rw [ha] at hs
    exact absurd rfl hs
  waiting w hm := by
    rw [hw] at hm
    cases hm
  apart y _ := by
    rw [hp]
    rfl
  modes y hy := by
    rw [State.paired, ha] at hy
    cases hy
  follows y _ _ hs := by
    rw [ha] at hs
    cases hs

theorem guardSafe_axesKept : AxesKept State.guardSafe where
  toCoreKept := guardSafe_coreKept
  halt h := h.halt
  trigger hr h := h.trigger hr
  demandChange h := h.demandChange
  rampTick h := h.rampTick
  dwellExpiry h := h.dwellExpiry
  endStopChange h := h.endStopChange
  compareJam h := h.stands .of_putAxis
  withSample h := h.stands (Steered.of_putAxis (withSample_sameRole ..)).runStands
  dwellCount h := h.stands .of_putAxis
  hostDemand h := h.stands .of_putAxis
  setPosition _ _ _ h := h.stands .of_putAxis
  count h := h.stands countBlocks_stands
  grant hw _ h := h.grant hw
  afterGrant h := h.afterGrant
  sortJoined h := h.stands sortJoined_stands
  markWaiting _ hf h := h.stands (markWaiting_stands fun w => ⟨(hf w).1, (hf w).2.1⟩)
  budget _ _ _ _ h := h.stands ⟨fun _ => rfl, fun _ => rfl, fun _ => rfl, waiting_subset (List.Subset.refl _), fun _ => id⟩
  configure hfit hbusy h := h.configureAxis hfit hbusy
  arm hb hs h := h.armChecks hb hs
  writeCue _ _ h := h.stands .of_eq
  scanOff hg h := h.scanOff hg
  cold pins waiting := guardSafe_of_reset (cold_axis pins waiting) (fun _ => vector_get_replicate _ _) rfl
  warm _ := guardSafe_of_reset warmRestart_axis (fun _ => vector_get_replicate _ _) rfl

theorem guardSafe_of_coherent (h : s.coherent) : s.guardSafe := by
  obtain ⟨-, -, hpairs, ⟨-, hlist, -⟩, hguards, -⟩ := h
  have formed := fun y => hpairs (leaderOf y) (isLeader_leaderOf y)
  refine ⟨hguards, fun w hw => ?_, fun y hy => ?_, fun y hy hm => ?_, fun y hp hl hs => ?_⟩
  · obtain ⟨hp, -, hs, hrun⟩ := hlist w hw
    exact ⟨hp, fun e => ⟨(hrun e).1, (hrun e).2.2⟩, hs⟩
  · exact s.pair_leaderOf (x := y) ▸ (formed y).1 hy
  · rw [State.mode, if_pos hy] at hm
    rcases ((formed y).2.2 hy).1 with hb | hr
    · rw [hm] at hb
      cases hb
    · rw [hm] at hr
      cases hr
  · obtain ⟨-, -, hmember⟩ := (formed y).2.2 hp
    obtain ⟨-, -, hrun⟩ := hmember y (.inr (by rw [followerOf_leaderOf, eq_followerOf hl]))
    exact s.pair_leaderOf (x := y) ▸ hrun (AxisState.inRun_iff.mp hs)

end

/-- Settles O10: an axis leaves DISARMED by an arming alone, which looks at the guard; a grant reaches PENDING axes alone. -/
theorem stepKeepsGuards : Obligations.StepKeepsGuards := fun _ _ h ht =>
  (guardSafe_axesKept.step (guardSafe_of_coherent h) ht).covered

end Sys2Proof.Machine
end

section
/-! PROOFS. A coherent state may hold a pair flag on a follower, which no SET_AXIS writes: R60 and R109 know the flag of a leader alone, and
`State.coherent` does not ask that a follower's be off. Taking that flag off clears the context of the pair that runs. -/

namespace Sys2Proof.Machine

/-- A paired member of station 0 in REHEARSE mode. -/
def pairMember : AxisConfig := { AxisConfig.reset with station := some 0, mode := .rehearse, pair := true }

/-- X0 leads its pair's run and dwells on entry 0; X1 is DISARMED, and its own pair flag is on. SET_AXIS takes that flag off. -/
def strayFlag : State :=
  let s : State := { State.reset with part := { State.reset.part with condition := .inService } }
  let leader : Axis :=
    { Axis.reset with
      cfg := pairMember, state := .dwelling, chain := [0], start := some 0, current := some (.entry 0), dwell := 5 }
  let follower : Axis := { Axis.reset with cfg := pairMember }
  let t := ((s.putCue 0 { body := .dwell 5, next := .chainStop, pins := 1 }).putAxis 0 leader).putAxis 1 follower
  { t.putPair 0 { PairCtx.reset with run := true } with
    pending := [.setAxis 1 1 0 3 0 4 1 (BitVec.ofInt 24 (-8388608)) (BitVec.ofInt 24 8388607) 0xFF 1023 3] }

theorem strayFlag_coherent : strayFlag.coherent := by
  have alone : ∀ x, (strayFlag.axis x).state ≠ .disarmed → x = 0 := by decide
  refine ⟨by unfold State.pinsCounted; decide, fun x hx => ?_, by unfold State.pairsFormed; dsimp only; decide,
    by unfold State.pendingListed; decide, by unfold State.guardsCovered; decide,
    by unfold State.withinLimits; dsimp only; decide⟩
  obtain rfl := alone x hx
  exact ⟨0, by decide, rfl, .inr ⟨0, by decide, by decide⟩⟩

/-- The state that SET_AXIS leaves: the leader dwells without its pair's run. -/
theorem strayFlag_step :
    ∃ t, step strayFlag = .next t ∧
      ((t.axis 0).cfg.pair, (t.axis 0).state, (t.pair 0).run) = (true, AxisState.dwelling, false) :=
  ⟨_, rfl, by decide⟩

/-- Refutes O8: a follower's own pair flag, on in a coherent state, clears its running pair's context when SET_AXIS takes it off (`configureAxis`
looks at the flag of the axis that it writes, leader or not). -/
theorem not_stepKeepsPairsAndChains : ¬ Obligations.StepKeepsPairsAndChains := by
  unfold Obligations.StepKeepsPairsAndChains
  intro h
  obtain ⟨t, ht, hleader⟩ := strayFlag_step
  obtain ⟨hpair, hstate, hrun⟩ : (t.axis 0).cfg.pair = true ∧ (t.axis 0).state = .dwelling ∧ (t.pair 0).run = false := by
    simpa using hleader
  obtain ⟨-, -, hformed⟩ := (h strayFlag t strayFlag_coherent ht).1 0 rfl
  obtain ⟨-, -, hmember⟩ := hformed hpair
  have hon : (t.pair 0).run = true := (hmember 0 (.inl rfl)).2.2 (.inr (.inl hstate))
  rw [hrun] at hon
  cases hon

end Sys2Proof.Machine
end

section
/-! PROOFS. The part after reset: every line clear, every axis DISARMED, no pair, nothing waiting. -/

namespace Sys2Proof.Machine

theorem reset_linesFormed : State.reset.linesFormed := fun l => by
  rw [reset_line]
  exact ⟨fun _ => ⟨rfl, rfl, rfl⟩, fun h => Bool.noConfusion h, Nat.two_pow_pos _⟩

theorem reset_channelsInBounds : State.reset.channelsInBounds := fun c => by
  rw [reset_channel]
  exact ⟨Nat.zero_le _, Nat.zero_le _⟩

theorem reset_alertsFormed : State.reset.alerts.formed := by
  refine ⟨Nat.zero_le _, List.nodup_nil, List.nodup_nil, ?_, Nat.le_refl 1, by decide, ?_⟩
  all_goals
    intro r hr
    cases hr

theorem reset_disarmed (x : AxisId) : (State.reset.axis x).state = .disarmed := by
  rw [reset_axis]
  rfl

theorem reset_pairsFormed : State.reset.pairsFormed := fun x _ => by
  rw [reset_pair, reset_axis]
  exact ⟨fun _ => rfl, fun h => Bool.noConfusion h, fun h => Bool.noConfusion h⟩

theorem reset_pendingListed : State.reset.pendingListed := by
  refine ⟨List.nodup_nil, fun e he => ?_, fun x hx => ?_⟩
  · cases he
  · rw [reset_disarmed] at hx
    cases hx

theorem reset_withinLimits : State.reset.withinLimits := fun x => by
  rw [reset_axis]
  refine ⟨by decide, by decide, fun _ h => ?_⟩
  rcases h with h | h | h | ⟨h, -⟩ <;> cases h

theorem reset_coherent : State.reset.coherent :=
  ⟨pinsCounted_of_reset reset_axis fun i => by rw [reset_cue]; rfl, fun x hx => absurd (reset_disarmed x) hx,
    reset_pairsFormed, reset_pendingListed, fun x _ hx => absurd (reset_disarmed x) hx, reset_withinLimits⟩

theorem reset_withinBudget : State.reset.withinBudget := by
  refine ⟨by rw [reset_totalAllocation]; exact Nat.zero_le _, fun x => ?_, fun x _ hrun => ?_⟩
  · rw [reset_axis]
    decide
  · rw [reset_pair] at hrun
    cases hrun

/-- Settles O13. -/
theorem resetMeetsInvariants : Obligations.ResetMeetsInvariants :=
  ⟨reset_linesFormed, reset_channelsInBounds, reset_alertsFormed, reset_coherent, reset_withinBudget⟩

end Sys2Proof.Machine
end

section
/-! PROOFS. End stops, homes, seek misses and immediate halts of an unpaired axis, and what each state does with a disposition. -/

namespace Sys2Proof.Machine

-- In turn, since the check limits memory, and every proof under way holds a stack of its own.
set_option Elab.async false

section
variable {s t u : State} {x y : AxisId} {side : StopSide} {level : Bool}

/-! ### A cause once posted (R170) -/

theorem Cause.bit_lt (c : Cause) : c.bit < 16 := by cases c <;> decide

theorem asSet_bit (c : Cause) : c.asSet.getLsbD c.bit = true := by
  have := c.bit_lt
  simp [Cause.asSet]
  omega

theorem arrive_bit (ln : Line) (c : Cause) (d : Details → Details) : (ln.arrive c d).causes.getLsbD c.bit = true := by
  simp [Line.arrive, asSet_bit]

theorem post_bit {l : LineId} {c : Cause} {d : Details → Details} (h : s.part.condition = .inService) :
    ((s.post l c d).line l).causes.getLsbD c.bit = true := by
  unfold State.post
  rw [if_pos (serving_of_inService h)]
  dsimp only
  split
  · exact (State.putLine_line_self s l _).symm ▸ arrive_bit ..
  · exact (State.putLine_line_self s l _).symm ▸ arrive_bit ..

/-- No operation between the blocks takes a cause off a line. -/
theorem causeBit_kept (l : LineId) (i : Nat) : Kept fun t : State => (t.line l).causes.getLsbD i = true where
  axes _ _ h := h
  stations _ _ h := h
  cues _ _ h := h
  pairs _ _ h := h
  arbiter _ _ h := h
  scanner _ _ h := h
  display _ _ h := h
  passDue _ _ h := h
  handed _ _ h := h
  arrive s m c d _ h := by
    by_cases hm : m = l
    · subst hm
      rw [State.putLine_line_self]
      simp only [Line.arrive, BitVec.getLsbD_or, h, Bool.true_or]
    · rw [State.putLine_line_ne _ hm]
      exact h
  remove _ _ h := h
  update _ _ _ _ _ _ h := h
  append _ _ _ _ h _ _ _ := h

/-! ### An unpaired axis has no run to end -/

theorem settlePair_solo (h : s.paired x = false) : s.settlePair x = s := by simp [State.settlePair, h]

theorem endRun_solo (h : s.paired x = false) : s.endRun x = s := by simp [State.endRun, h]

theorem disarm_paired {keep : Bool} (y : AxisId) : (s.disarm x keep).paired y = s.paired y :=
  paired_of_cfg disarm_pairMove.cfg y

theorem withdraw_waiting_solo (h : s.paired x = false) : ∀ e ∈ (s.withdraw x).arbiter.waiting, e.axis ≠ x := fun e he => by
  have := of_decide_eq_true (List.mem_filter.mp he).2
  simpa [State.waitKey, h] using this

/-! ### End stops (R78 to R80) -/

/-- The stop levels and samples of an axis change alone. -/
theorem withStopLevel_motion (a : Axis) :
    (a.withStopLevel side level).seek = a.seek ∧ (a.withSample side level).seek = a.seek ∧
      (a.withSample side level).stopLevel = a.stopLevel := by
  cases side <;> exact ⟨rfl, rfl, rfl⟩

theorem driveEndStop_axis : (s.driveEndStop x side level).axis x = (s.axis x).withSample side level :=
  State.putAxis_axis_self ..

theorem driveEndStop_steered : Steered x s (s.driveEndStop x side level) :=
  .trans (t := { s with pins := (s.driveEndStop x side level).pins }) (.of_core .same)
    (.of_putAxis (withSample_sameRole (s.axis x) side level))

theorem exec_endStopChange (h : s.part.condition ≠ .testing) :
    exec (.endStopChange x side level) s =
      .next (s.eventOutcome ((s.driveEndStop x side level).endStopChange x side level)) :=
  eventWhen_outcome (by simp [State.isTesting, h])

theorem endStopChange_same (h : (s.axis x).stopLevel side = some level) : s.endStopChange x side level = s := if_pos h

theorem endStopChange_level (h : (s.axis x).stopLevel side ≠ some level)
    (ht : ¬ (level = true ∧ (s.axis x).state.moving = true ∧ s.rehearses x = false)) :
    s.endStopChange x side level = s.putAxis x ((s.axis x).withStopLevel side level) := by
  unfold State.endStopChange
  dsimp only
  rw [if_neg h, if_neg (by simpa using ht)]

theorem endStopChange_trip (h : (s.axis x).stopLevel side ≠ some level)
    (ht : level = true ∧ (s.axis x).state.moving = true ∧ s.rehearses x = false) :
    s.endStopChange x side level = (s.putAxis x ((s.axis x).withStopLevel side level)).tripped x side := by
  unfold State.endStopChange
  dsimp only
  rw [if_neg h, if_pos (by simpa using ht)]

theorem tripped_fault (h : (s.axis x).seek ≠ some side) : s.tripped x side = s.halt x .endStop := if_neg h

theorem tripped_home {i : CueId} {steps : Int} {p : Profile} {named : StopSide} {home : Int}
    (h : (s.axis x).seek = some side) (hc : (s.axis x).current = some (.entry i))
    (hb : (s.cue i).body = .move steps p (some (named, home))) :
    s.tripped x side =
      if (s.axis x).state = .stopping then (s.takeHome x home).completeStopping x else (s.takeHome x home).completeAndGoOn x := by
  have hhome : ((s.currentEntry x).bind (·.body.home)).getD 0 = home := by
    simp [State.currentEntry, hc, hb, CueBody.home]
  unfold State.tripped
  dsimp only
  rw [if_pos h, hhome]

/-- Settles O34. -/
theorem endStopChangeHomeAndSeekMiss : Obligations.EndStopChangeHomeAndSeekMiss := by
  refine ⟨fun x side tripped s hpart => ?_, fun x home s => ⟨rfl, rfl⟩, fun x s solo hs => ?_⟩
  · intro u t trip
    have hu : Steered x s u := driveEndStop_steered
    have role := hu.axis_self
    obtain ⟨seekStop, seekSample, levels⟩ := withStopLevel_motion (side := side) (level := tripped) (s.axis x)
    have hlevel : (u.axis x).stopLevel side = (s.axis x).stopLevel side := by rw [driveEndStop_axis, levels]
    have htrip : trip ↔ tripped = true ∧ (u.axis x).state.moving = true ∧ u.rehearses x = false := by
      rw [role.state, moving_iff, rehearses_of_cfg hu.cfg]
    have hself : t.axis x = (u.axis x).withStopLevel side tripped := State.putAxis_axis_self ..
    have hrole : (t.axis x).SameRole (s.axis x) := hself ▸ (withStopLevel_sameRole _ side tripped).trans role
    have hseek : (t.axis x).seek = (s.axis x).seek := by
      rw [hself, (withStopLevel_motion _).1, driveEndStop_axis, seekSample]
    rw [exec_endStopChange hpart]
    refine ⟨fun h => ?_, fun h ht => ?_, fun h ht hk => ?_, fun i steps p named home h ht hk hc hb => ?_⟩
    · rw [endStopChange_same (hlevel.trans h)]
    · rw [endStopChange_level (hlevel ▸ h) fun e => ht (htrip.mpr e)]
    · rw [endStopChange_trip (hlevel ▸ h) (htrip.mp ht), tripped_fault fun e => hk (hseek.symm.trans e)]
    · have hhome : t.takeHome x home = (t.putAxis x
          { t.axis x with
            remN := 0, valid := true
            position := max (s.axis x).cfg.softLow (min (s.axis x).cfg.softHigh home) }).post (axisLine x) .homed := by
        rw [← hrole.cfg]
        rfl
      have hgo : u.endStopChange x side tripped =
          if (s.axis x).state = .stopping then (t.takeHome x home).completeStopping x
          else (t.takeHome x home).completeAndGoOn x := by
        rw [endStopChange_trip (hlevel ▸ h) (htrip.mp ht), ← hrole.state]
        exact tripped_home (hseek.trans hk) (hrole.current.trans hc) ((congrArg CueEntry.body (hu.cue i)).trans hb)
      rw [hgo, hhome]
  · intro t
    have hp : (s.post (axisLine x) .seekMiss).axis x = s.axis x := s.post_axis ..
    have hs' : ((s.post (axisLine x) .seekMiss).axis x).state ≠ .disarmed := by rwa [hp]
    have ht : t = (s.post (axisLine x) .seekMiss).disarm x true := by
      have hpaired : ((s.post (axisLine x) .seekMiss).disarm x true).paired x = false := by
        rw [disarm_paired, State.paired, State.post_axis]
        exact solo
      show ((((s.post (axisLine x) .seekMiss).disarm x true).endRun x).settlePair x) = _
      rw [endRun_solo hpaired, settlePair_solo hpaired]
    refine ⟨ht, ?_, fun y hy => ?_, ?_, fun hn i => ?_, fun hc => ?_⟩
    · rw [ht, disarm_axis_self hs', hp]
      rfl
    · rw [ht, disarm_axis_ne (Ne.symm hy), State.post_axis]
    · rw [ht, (disarm_sameBut _ x true hs').alerts, State.putAxis_alerts, unpinChain_only]
      exact s.post_alerts ..
    · rw [ht, disarm_pins hs' (by rwa [hp]), hp, State.post_cue]
    · rw [ht]
      exact disarm_kept (causeBit_kept _ _) (post_bit hc)

/-! ### Immediate halts (R76) -/

/-- What an immediate halt does of its own, with its cause: the axis leaves the pending list, loses its valid flag when it moves, and is disarmed. -/
def State.halted (s : State) (x : AxisId) (c : Cause) : State :=
  let s1 := s.withdraw x
  let s2 := if (s.axis x).state.moving ∧ !s.rehearses x then s1.putAxis x { s1.axis x with valid := false } else s1
  (s2.disarm x true).post (axisLine x) c

theorem halt_eq {why : HaltCause} (h : (s.axis x).state ≠ .disarmed) :
    s.halt x why =
      match why with
      | .halted => (s.halted x why.cause).settlePair x
      | .endStop => (((s.halted x why.cause).endRun x).raise .limitTrip .lockout x.val (s.axis x).cfg.station).1
      | .jam => (((s.halted x why.cause).endRun x).raise .jam .lockout x.val (s.axis x).cfg.station).1 := if_neg h

/-- The context of an axis after an immediate halt (R76). -/
def State.haltedAxis (s : State) (x : AxisId) : Axis :=
  { (s.axis x).disarmed true with
    valid := (s.axis x).valid &&
      !(((s.axis x).state = .running ∨ (s.axis x).state = .stopping) ∧ s.rehearses x = false : Bool) }

/-- The state of an immediate halt before its axis is disarmed. -/
theorem halted_before (c : Cause) :
    ∃ u : State, s.halted x c = (u.disarm x true).post (axisLine x) c ∧ u.part = s.part ∧ u.alerts = s.alerts ∧ u.cues = s.cues ∧
      u.arbiter = (s.withdraw x).arbiter ∧ (∀ y, x ≠ y → u.axis y = s.axis y) ∧
      u.axis x =
        { s.axis x with
          valid := (s.axis x).valid &&
            !(((s.axis x).state = .running ∨ (s.axis x).state = .stopping) ∧ s.rehearses x = false : Bool) } := by
  unfold State.halted
  dsimp only
  split
  · rename_i hm
    rw [moving_iff, Bool.not_eq_true'] at hm
    refine ⟨_, rfl, rfl, rfl, rfl, rfl, fun y hy => State.putAxis_axis_ne _ hy _, ?_⟩
    rw [State.putAxis_axis_self, decide_eq_true hm, Bool.not_true, Bool.and_false]
    rfl
  · rename_i hm
    rw [moving_iff, Bool.not_eq_true'] at hm
    refine ⟨_, rfl, rfl, rfl, rfl, rfl, fun _ _ => rfl, ?_⟩
    rw [decide_eq_false hm, Bool.not_false, Bool.and_true]
    rfl

theorem halted_solo (solo : s.paired x = false) (hs : (s.axis x).state ≠ .disarmed) (c : Cause) :
    (s.halted x c).axis x = s.haltedAxis x ∧ (∀ y, y ≠ x → (s.halted x c).axis y = s.axis y) ∧
      (s.halted x c).alerts = s.alerts ∧ (∀ e ∈ (s.halted x c).arbiter.waiting, e.axis ≠ x) ∧
      ((s.axis x).chain.Nodup →
        ∀ i, ((s.halted x c).cue i).pins = (s.cue i).pins - if i ∈ (s.axis x).chain then 1 else 0) ∧
      (s.part.condition = .inService → ((s.halted x c).line (axisLine x)).causes.getLsbD c.bit = true) := by
  obtain ⟨u, hu, hpart, halerts, hcues, harbiter, hother, hself⟩ := halted_before (s := s) (x := x) c
  have hs' : (u.axis x).state ≠ .disarmed := by rwa [hself]
  have same := disarm_sameBut u x true hs'
  rw [hu]
  refine ⟨?_, fun y hy => ?_, ?_, ?_, fun hn i => ?_, fun hc => post_bit ?_⟩
  · rw [State.post_axis, disarm_axis_self hs', hself]
    rfl
  · rw [State.post_axis, disarm_axis_ne (Ne.symm hy), hother y (Ne.symm hy)]
  · rw [State.post_alerts, same.alerts, State.putAxis_alerts, unpinChain_only]
    exact halerts
  · rw [State.post_arbiter, same.arbiter, State.putAxis_arbiter, unpinChain_only]
    exact harbiter ▸ withdraw_waiting_solo solo
  · rw [State.post_cue, disarm_pins hs' (by rwa [hself]), State.cue, hcues, hself]
    rfl
  · rw [same.part, State.putAxis_part, unpinChain_only]
    exact hpart ▸ hc

theorem halted_paired (c : Cause) : (s.halted x c).paired x = s.paired x := by
  obtain ⟨u, hu, -, -, -, -, hother, hself⟩ := halted_before (s := s) (x := x) c
  have hcfg : ∀ y, (u.axis y).cfg = (s.axis y).cfg := fun y => by
    by_cases hy : x = y
    · rw [← hy, hself]
    · rw [hother y hy]
  rw [hu, State.paired, State.post_axis]
  exact (disarm_paired x).trans (paired_of_cfg hcfg x)

/-- Raising an alert leaves a DISARMED axis as it is: the lock of its station hands it DISARM, which it ignores (R33, R74). -/
theorem raise_axis_disarmed {k : AlertKind} {v : Severity} {n : Nat} {st : Option StationId}
    (h : (s.axis x).state = .disarmed) : ((s.raise k v n st).1.axis x) = s.axis x := by
  have K : CoreKept fun t : State => t.axis x = s.axis x := by
    refine ⟨fun hc ht => (hc.axis x).trans ht, fun {t y d} _ ht => ?_⟩
    by_cases hy : x = y
    · subst hy
      have hd : (t.axis x).state = .disarmed := by rw [ht, h]
      simp only [State.handDisposition, hd]
      exact ht
    · exact ((handDisposition_axisMove d).axis x hy).trans ht
  exact K.raise rfl

/-! ### Dispositions (R74) -/

theorem handDisposition_disarmed {d : Disposition} (h : (s.axis x).state = .disarmed) : s.handDisposition x d = s := by
  simp [State.handDisposition, h]

theorem handDisposition_armed {d : Disposition} (h : (s.axis x).state = .armed) :
    s.handDisposition x d = if d = .disarm then s.disarm x false else s := by
  simp [State.handDisposition, h]

theorem handDisposition_pending {d : Disposition} (h : (s.axis x).state = .pending) :
    s.handDisposition x d = (s.withdraw x).settleBy x d := by
  simp [State.handDisposition, h]

theorem handDisposition_settles {d : Disposition} (h : (s.axis x).state = .dwelling ∨ (s.axis x).state = .paused) :
    s.handDisposition x d = s.settleBy x d := by
  rcases h with h | h <;> simp [State.handDisposition, h]

theorem handDisposition_running {d : Disposition} (h : (s.axis x).state = .running) :
    s.handDisposition x d = s.enter x .stopping fun a => { a with disposition := some d } := by
  simp [State.handDisposition, h]

theorem handDisposition_stopping {d : Disposition} (h : (s.axis x).state = .stopping) :
    s.handDisposition x d =
      s.putAxis x { s.axis x with disposition := some (Disposition.raiseTo (s.axis x).disposition d) } := by
  simp [State.handDisposition, h]

/-- ABANDON and DISARM raise a disposition and never lower it (R74). -/
theorem raiseTo_eq {old : Option Disposition} {d : Disposition} (h : d ≠ .pause) :
    Disposition.raiseTo old d = if old = some .disarm then .disarm else d := by
  cases d with
  | pause => exact absurd rfl h
  | abandon => cases old with
    | none => rfl
    | some o => cases o <;> rfl
  | disarm => cases old with
    | none => rfl
    | some o => cases o <;> rfl

end

/-- Settles O35. -/
theorem haltAndDisposition : Obligations.HaltAndDisposition := by
  refine ⟨fun x s solo => ?_, fun x s d hd => ⟨handDisposition_disarmed, fun h => ?_, fun h => ?_, fun h => ?_,
    handDisposition_settles, fun h => ?_, fun h => ?_⟩⟩
  · intro a after
    refine ⟨fun h why => if_pos h, fun hs => ?_⟩
    have ended : ∀ c, (s.halted x c).endRun x = s.halted x c := fun c => endRun_solo ((halted_paired c).trans solo)
    have still : ∀ c, (s.halted x c).axis x = after := fun c => (halted_solo solo hs c).1
    have dead : ∀ c, ((s.halted x c).axis x).state = .disarmed := fun c => congrArg Axis.state (still c)
    have halted : s.halt x .halted = s.halted x .halted :=
      (halt_eq hs).trans (settlePair_solo ((halted_paired _).trans solo))
    have endStop : s.halt x .endStop = ((s.halted x .endStop).raise .limitTrip .lockout x.val a.cfg.station).1 := by
      rw [halt_eq hs]
      exact congrArg (fun t : State => (t.raise .limitTrip .lockout x.val a.cfg.station).1) (ended .endStop)
    have jam : s.halt x .jam = ((s.halted x .jam).raise .jam .lockout x.val a.cfg.station).1 := by
      rw [halt_eq hs]
      exact congrArg (fun t : State => (t.raise .jam .lockout x.val a.cfg.station).1) (ended .jam)
    refine ⟨fun why => ?_, s.halted x, halted, endStop, jam, fun c _ => halted_solo solo hs c⟩
    cases why with
    | halted => exact halted ▸ still _
    | endStop => exact endStop ▸ (raise_axis_disarmed (dead _)).trans (still _)
    | jam => exact jam ▸ (raise_axis_disarmed (dead _)).trans (still _)
  · exact handDisposition_armed h
  · have hs : (s.axis x).state ≠ .disarmed := by simp [h]
    have heq : s.handDisposition x .disarm = s.disarm x false := handDisposition_armed h
    rw [heq]
    exact ⟨disarm_axis_self hs, fun hn i => disarm_pins hs hn i⟩
  · exact ⟨handDisposition_pending h, fun e he => of_decide_eq_true (List.mem_filter.mp he).2⟩
  · rw [handDisposition_stopping h, raiseTo_eq hd]
  · rw [handDisposition_running h, enter_axis_self]
    exact ⟨rfl, rfl, rfl, rfl⟩

end Sys2Proof.Machine
end

section
/-! PROOFS. ARM_AXIS, check by check: who may be armed, the chains of the members, and the three checks against them. -/

namespace Sys2Proof.Machine

section
variable {s : State} {x : AxisId} {tag kind : Byte}

/-- A check of a request, in the words of a statement: its own condition, what it answers, and what follows. -/
theorem requestOutcome_ite {c d : Prop} [Decidable c] [Decidable d] {a b : State × List Byte} {u v : State} (hcd : c ↔ d)
    (ha : s.requestOutcome a.1 tag kind a.2 = u) (hb : s.requestOutcome b.1 tag kind b.2 = v) :
    s.requestOutcome (if c then a else b).1 tag kind (if c then a else b).2 = if d then u else v := by
  by_cases h : c
  · rw [if_pos h, if_pos (hcd.mp h)]
    exact ha
  · rw [if_neg h, if_neg fun hd => h (hcd.mpr hd)]
    exact hb

/-- The checks of ARM_AXIS on the axis and its station (R61). -/
theorem reqArmAxis_read {axis start follower : Byte} {i : CueId} {st : StationId} {second : Option CueId}
    (hx : axis.toNat = x.val) (hi : start.toNat = i.val) (hj : s.secondStart x follower = some second)
    (hst : (s.axis x).cfg.station = some st) :
    reqArmAxis axis start follower s =
      if s.armBusy x then (s, replyBody .busy)
      else if (s.station st).state = .offline then (s, replyBody .offline)
      else if (s.station st).state = .locked then (s, replyBody .locked)
      else s.armChecks x i second := by
  unfold reqArmAxis
  rw [finOf_eq hx, finOf_eq hi]
  dsimp only
  rw [hj, hst]
  dsimp only
  cases (s.station st).state <;> rfl

theorem reqArmAxis_stationless {axis start follower : Byte} {i : CueId} (hx : axis.toNat = x.val) (hi : start.toNat = i.val)
    (hst : (s.axis x).cfg.station = none) : reqArmAxis axis start follower s = (s, replyBody .badValue) := by
  unfold reqArmAxis
  rw [finOf_eq hx, finOf_eq hi]
  dsimp only
  rw [hst]
  cases s.secondStart x follower <;> rfl

theorem secondStart_unpaired {b : Byte} (h : s.paired x = false) : s.secondStart x b = some none := by
  simp [State.secondStart, h]

theorem secondStart_follower {b : Byte} (h : isLeader x = false) : s.secondStart x b = some none := by
  simp [State.secondStart, h]

theorem secondStart_leader {b : Byte} {j : CueId} (hp : s.paired x = true) (hl : isLeader x = true) (hj : b.toNat = j.val) :
    s.secondStart x b = some (some j) := by
  simp [State.secondStart, hp, hl, finOf_eq hj]

/-! ### The checks against the chains (R50 to R52) -/

theorem notHomed_iff {chain : List CueId} :
    s.notHomed x chain = true ↔ (s.axis x).valid = false ∧ ∃ j ∈ chain, (s.cue j).body.isMoveTo = true := by
  simp [State.notHomed]

theorem notGuarded_iff :
    s.notGuarded x = true ↔ ∃ c, (s.axis x).cfg.guard = some c ∧ s.scanner.covers c = false := by
  cases h : (s.axis x).cfg.guard <;> simp [State.notGuarded, h]

theorem noBudget_iff {xs : List AxisId} :
    s.noBudget xs = true ↔
      s.arbiter.budget < s.totalAllocation + (xs.map fun y => (s.axis y).cfg.holdDraw).sum ∨
        s.arbiter.budget < (xs.map fun y => (s.axis y).cfg.runDraw).sum := by
  simp [State.noBudget]

/-- The context that an arming leaves (R61). -/
theorem armMember_axis_self {start : CueId} {chain : List CueId} :
    (s.armMember x start chain).axis x =
      Axis.settled
        { s.axis x with
          chain := chain, start := some start, current := some (.entry start), segN := 0, remN := 0, rate := 0, acc := 0,
          dwell := 0, jamCount := 0, elapsed := 0, phase := .accel, seek := none, disposition := none, asLeft := false }
        .armed := by
  rw [State.armMember, enter_axis_self, pinChain_axis]

end

/-- Settles O37. -/
theorem armAxisAndItsContext : Obligations.ArmAxisAndItsContext := by
  refine ⟨⟨?solo, fun tag axis start follower x s h ht hx hi hst _ => ?stationless⟩, ?pair, ?context⟩
  case stationless =>
    rw [exec_armAxis h ht, reqArmAxis_stationless (i := ⟨start.toNat, hi⟩) hx rfl hst]
    rfl
  case solo =>
    intro tag axis start follower x i st s h ht hx hi solo hst refused
    rw [exec_armAxis h ht, reqArmAxis_read hx hi (secondStart_unpaired solo) hst]
    refine congrArg _ (requestOutcome_ite (by simp [State.armBusy, solo]) rfl (requestOutcome_ite .rfl rfl
      (requestOutcome_ite .rfl rfl (requestOutcome_ite (by simp) rfl ?_))))
    cases s.walk i with
    | error e => rfl
    | ok chain =>
      refine requestOutcome_ite (by simp [notHomed_iff]) rfl (requestOutcome_ite (by simp [noBudget_iff]) rfl
        (requestOutcome_ite (by simp [notGuarded_iff]) rfl ?_))
      simp only [solo, Bool.false_eq_true, if_false]
      rfl
  case pair =>
    intro tag axis start follower x i j st s h ht hx hi hj paired hst refused y
    refine ⟨fun hl => ?_, fun hl => ?_⟩
    · rw [exec_armAxis h ht, reqArmAxis_read hx hi (secondStart_follower hl) hst, if_pos (by simp [State.armBusy, paired, hl])]
      rfl
    · rw [exec_armAxis h ht, reqArmAxis_read hx hi (secondStart_leader paired hl hj) hst]
      refine congrArg _ (requestOutcome_ite (by simp [State.armBusy, paired, hl, y]) rfl (requestOutcome_ite .rfl rfl
        (requestOutcome_ite .rfl rfl (requestOutcome_ite (by simp) rfl ?_))))
      cases s.walk i with
      | error e => rfl
      | ok chain =>
        dsimp only
        cases s.walk j with
        | error e => rfl
        | ok chain2 =>
          refine requestOutcome_ite (by simp [notHomed_iff, y]) rfl (requestOutcome_ite (by simp [noBudget_iff, y]) rfl
            (requestOutcome_ite (by simp [notGuarded_iff, y]) rfl ?_))
          simp only [paired, if_true]
          rfl
  case context =>
    intro x i chain s _ a
    have ha : a = _ := armMember_axis_self
    rw [ha]
    refine ⟨rfl, rfl, rfl, rfl, rfl, rfl, rfl, rfl, rfl, rfl, rfl, rfl, rfl, rfl, rfl, rfl, rfl, rfl, rfl, rfl,
      fun y hy => armMember_axis_ne (Ne.symm hy), fun j hn => ?_⟩
    rw [State.armMember, enter_cue, pinChain_pins _ _ hn]

end Sys2Proof.Machine
end

section
/-! PROOFS. The warm restart at the end of RESTART's reply, and the three requests that the link serves outside service too. -/

namespace Sys2Proof.Machine

section
variable {s : State} {tag : Byte}

/-! ### The reply that begins a warm restart (R194) -/

theorem isRestartReply_iff {f : Frame} : f.isRestartReply = true ↔ f.kind = 0x83#8 ∧ f.body = [0#8] := by
  rw [Frame.isRestartReply, Bool.and_eq_true, decide_eq_true_eq, decide_eq_true_eq]
  exact .rfl

theorem restartReplyUnderWay_iff :
    s.restartReplyUnderWay = true ↔ ∃ tag : Byte, s.link.tx = .sendingReply { tag := tag, kind := 0x83#8, body := [0#8] } := by
  unfold State.restartReplyUnderWay
  split
  · rename_i f htx
    rw [isRestartReply_iff]
    constructor
    · rintro ⟨hk, hb⟩
      exact ⟨f.tag, by rw [htx, ← hk, ← hb]⟩
    · rintro ⟨tag, h⟩
      rw [htx] at h
      cases h
      exact ⟨rfl, rfl⟩
  · rename_i hno
    exact ⟨fun h => Bool.noConfusion h, fun ⟨_, h⟩ => absurd h (hno _)⟩

theorem transmitEnd_restart (h : s.link.tx = .sendingReply { tag := tag, kind := 0x83#8, body := [0#8] }) :
    s.transmitEnd = s.warmRestart := by
  unfold State.transmitEnd
  rw [h]
  exact if_pos (isRestartReply_iff.mpr ⟨rfl, rfl⟩)

/-! ### Requests served in any part condition (R187) -/

theorem linkRefusal_always {f : Frame} (ht : f.tag ≠ 0#8) (hk : requestCodes.contains f.kind.toNat = true)
    (hl : lengthFits f.kind f.body.length = true) (ha : servedAlways f.kind = true) : s.linkRefusal f = none := by
  unfold State.linkRefusal
  rw [if_neg ht, hk, hl, ha]
  simp

theorem linkRefusal_restart {f : Frame} (ht : f.tag ≠ 0#8) (hf : f.kind = 3#8) (hl : lengthFits f.kind f.body.length = true)
    (hp : s.part.condition ≠ .testing) : s.linkRefusal f = none := by
  have hk : requestCodes.contains f.kind.toNat = true := by rw [hf]; rfl
  unfold State.linkRefusal
  rw [if_neg ht, hk, hl]
  simp [hp, hf]

/-- A request that keeps the axes and the pairs and hands nothing over is answered at once. -/
theorem request_quiet {kind : Byte} {body : List Byte} (h : s.unoccupied) (hh : s.handed = [])
    (hc : s.linkRefusal { tag := tag, kind := kind, body := body } = none) {t : State} {st : Status} {fields : List Byte}
    (hr : requestAction kind body s = (t, replyBody st fields)) (hp : t.passDue = s.passDue := by rfl)
    (hd : t.handed = s.handed := by rfl) (ha : t.axes = s.axes := by rfl) (hq : t.pairs = s.pairs := by rfl) :
    s.request tag kind body = t.reply tag (replyKind kind) st fields := by
  rw [request_taken h hc, hr]
  exact requestOutcome_quiet (hp.trans h.2.2) (hd.trans hh) ha hq

end

/-- Settles O15. -/
theorem warmRestartKeepsCuesScenesUptime : Obligations.WarmRestartKeepsCuesScenesUptime := by
  refine fun s => ⟨fun tag h => ?_, fun h => ?_⟩
  · intro taken
    have hw : exec .warmRestart s = .next s.warmRestart := congrArg _ (if_pos (restartReplyUnderWay_iff.mpr ⟨tag, h⟩))
    exact ⟨hw.trans (congrArg _ (transmitEnd_restart h)).symm, hw⟩
  · exact congrArg _ (if_neg fun hr => (restartReplyUnderWay_iff.mp hr).elim h)

/-- Settles O58. -/
theorem helloStatusAndRestart : Obligations.HelloStatusAndRestart := by
  refine ⟨fun tag s h hh ht => ⟨?hello, ?status⟩, fun tag s h hh ht hp => ?restart⟩
  case hello =>
    exact congrArg _ (request_quiet h hh (linkRefusal_always ht rfl rfl rfl) rfl)
  case status =>
    intro report
    exact ⟨congrArg _ (request_quiet h hh (linkRefusal_always ht rfl rfl rfl) rfl),
      congrArg _ (request_quiet h hh (linkRefusal_always ht rfl rfl rfl) rfl)⟩
  case restart =>
    exact congrArg _ (request_quiet h hh (linkRefusal_restart ht rfl rfl hp) rfl)

end Sys2Proof.Machine
end

section
/-! PROOFS. Fields out of their ranges: what the decoders refuse, and that every request with such a field is answered BAD_VALUE and changes
nothing. -/

namespace Sys2Proof.Machine

-- In turn, since the check limits memory, and every proof under way holds a stack of its own.
set_option Elab.async false

section
variable {s : State} {tag kind : Byte} {c : Instr}

/-- A request that is refused leaves its reply alone. -/
theorem refused_of (h : s.listening) {r : State × List Byte} {st : Status}
    (he : exec c s = .next (s.requestOutcome r.1 tag kind r.2)) (hr : r = (s, replyBody st)) :
    exec c s = .next (s.reply tag kind st) := by
  rw [he, hr, requestOutcome_self h]

/-! ### What the decoders refuse (R195, Table 12-2) -/

section
variable {b b' : Byte}

theorem byte_ne {n : Nat} {k : Byte} (h : n ≤ b.toNat) (hk : k.toNat < n) : b ≠ k := fun e => by
  subst e
  omega

theorem flagOf_none (h : 2 ≤ b.toNat) : flagOf b = none := by
  rw [flagOf, if_neg (byte_ne h (by decide)), if_neg (byte_ne h (by decide))]

theorem stationRefOf_none (h : 8 ≤ b.toNat ∧ b ≠ 0xFF#8) : stationRefOf b = none := by
  rw [stationRefOf, if_neg h.2, finOf_none h.1]
  rfl

theorem cueRefOf_none (h : 128 ≤ b.toNat ∧ b ≠ 0xFF#8) : cueRefOf b = none := by
  rw [cueRefOf, if_neg h.2, finOf_none h.1]
  rfl

theorem lampSourceOf_none (h : 4 ≤ b.toNat) (hb : b ≠ 0x80#8) : lampSourceOf b = none := by
  rw [lampSourceOf, if_neg hb, finOf_none h]
  rfl

theorem cellOf_none (h : ¬ (b = 0xFF#8 ∧ b' = 0xFF#8) ∧ (8 ≤ b.toNat ∨ 32 ≤ b'.toNat)) : cellOf b b' = none := by
  obtain ⟨hn, hr | hc⟩ := h
  · rw [cellOf, if_neg hn, finOf_none hr]
  · rw [cellOf, if_neg hn, finOf_none hc]
    cases finOf 8 b <;> rfl

theorem polarityOf_none (h : 2 ≤ b.toNat) : polarityOf b = none := by
  unfold polarityOf
  split <;> first | rfl | omega

theorem roleOf_none (h : 5 ≤ b.toNat) : roleOf b = none := by
  unfold roleOf
  split <;> first | rfl | omega

theorem policyOf_none (h : 2 ≤ b.toNat) : policyOf b = none := by
  unfold policyOf
  split <;> first | rfl | omega

theorem scanModeOf_none (h : 2 ≤ b.toNat) : scanModeOf b = none := by
  unfold scanModeOf
  split <;> first | rfl | omega

theorem scanSourceOf_none (h : 4 ≤ b.toNat) : scanSourceOf b = none := by
  unfold scanSourceOf
  split <;> first | rfl | omega

theorem severityOf_none (h : 3 ≤ b.toNat) : severityOf b = none := by
  unfold severityOf
  split <;> first | rfl | omega

theorem sampleTimeOf_none (h : b ≠ 8#8 ∧ b ≠ 16#8 ∧ b ≠ 32#8 ∧ b ≠ 64#8) : sampleTimeOf b = none := by
  refine if_neg ?_
  rintro (e | e | e | e)
  · exact h.1 (BitVec.eq_of_toNat_eq e)
  · exact h.2.1 (BitVec.eq_of_toNat_eq e)
  · exact h.2.2.1 (BitVec.eq_of_toNat_eq e)
  · exact h.2.2.2 (BitVec.eq_of_toNat_eq e)

/-- The parameters of a route action that R172 does not list. -/
theorem routeOf_none {p1 p2 : Byte}
    (h : 4 ≤ b.toNat ∨ ((b = 0#8 ∨ b = 2#8) ∧ ¬ (p1 = 0#8 ∧ p2 = 0#8)) ∨ (b = 1#8 ∧ (8 ≤ p1.toNat ∨ p2 ≠ 0#8)) ∨
      (b = 3#8 ∧ (3 ≤ p1.toNat ∨ (8 ≤ p2.toNat ∧ p2 ≠ 0xFF#8)))) : routeOf b p1 p2 = none := by
  rcases h with h | ⟨rfl | rfl, hp⟩ | ⟨rfl, h | h⟩ | ⟨rfl, h | h⟩
  · unfold routeOf
    split <;> first | rfl | omega
  · exact if_neg hp
  · exact if_neg hp
  · show (if p2 = 0#8 then (finOf 8 p1).map RouteAction.startStation else none) = none
    rw [finOf_none h]
    split <;> rfl
  · exact if_neg h
  · simp [routeOf, severityOf_none h]
  · simp [routeOf, stationRefOf_none h]

end

theorem inRange_some {low high n m : Nat} (h : inRange low high n = some m) : m = n ∧ low ≤ n ∧ n ≤ high := by
  unfold inRange at h
  split at h
  · rename_i hr
    cases h
    exact ⟨rfl, hr⟩
  · cases h

/-! ### The lengths and fields of WRITE_CUE (R53, Table 12-4) -/

/-- The length that the fields of a cue entry have, by its kind; a kind that is not listed takes any. -/
def cueLength (kind : Byte) (fields : List Byte) : Nat :=
  match kind.toNat with
  | 0 => 0
  | 1 => if fields[10]? = some 1#8 ∨ fields[10]? = some 2#8 then 14 else 11
  | 2 => 9
  | 3 => 2
  | 4 => 1
  | 5 => 1
  | _ => fields.length

theorem cueLengthFits_iff {fields : List Byte} : cueLengthFits kind fields = true ↔ fields.length = cueLength kind fields := by
  unfold cueLengthFits cueLength
  generalize kind.toNat = k
  match k with
  | 0 | 2 | 3 | 4 | 5 => exact decide_eq_true_iff
  | 1 =>
    have hseek : (fields[10]?).getD 0#8 = 1#8 ∨ (fields[10]?).getD 0#8 = 2#8 ↔
        fields[10]? = some 1#8 ∨ fields[10]? = some 2#8 := by
      cases fields[10]? <;> simp
    by_cases h : fields[10]? = some 1#8 ∨ fields[10]? = some 2#8
    · rw [if_pos h, if_pos (hseek.mpr h)]
      exact decide_eq_true_iff
    · rw [if_neg h, if_neg fun e => h (hseek.mp e)]
      exact decide_eq_true_iff
  | k + 6 => simp

theorem cueBodyOf_unlisted {fields : List Byte} (h : 6 ≤ kind.toNat) : cueBodyOf kind fields = none := by
  unfold cueBodyOf
  split <;> first | rfl | omega

/-- A seek code other than 0, 1 and 2 (Table 12-4). -/
theorem cueBodyOf_seek {fields : List Byte} {seek : Byte} (hf : fields[10]? = some seek) (hs : 3 ≤ seek.toNat) :
    cueBodyOf 1#8 fields = none := by
  have h0 := byte_ne (k := 0#8) hs (by decide)
  have h1 := byte_ne (k := 1#8) hs (by decide)
  have h2 := byte_ne (k := 2#8) hs (by decide)
  unfold cueBodyOf
  split
  case h_2 =>
    cases hf
    exact if_neg h0
  case h_3 =>
    cases hf
    exact (if_neg h1).trans (if_neg h2)
  case h_8 => rfl
  all_goals
    rename_i heq
    exact absurd heq (by decide)

theorem cueBodyOf_dwell {d0 d1 : Byte} (h : d0.toNat + 256 * d1.toNat = 0 ∨ 60000 < d0.toNat + 256 * d1.toNat) :
    cueBodyOf 3#8 [d0, d1] = none := by
  show (inRange 1 60000 (u16 d0 d1)).map CueBody.dwell = none
  rw [inRange_not_mem]
  · rfl
  · rw [u16]
    omega

theorem cueBodyOf_scene {n : Byte} (h : 4 ≤ n.toNat) : cueBodyOf 4#8 [n] = none := by
  show (finOf 4 n).map CueBody.scene = none
  rw [finOf_none h]
  rfl

theorem reqWriteCue_badLength {index next : Byte} {fields : List Byte} (h : fields.length ≠ cueLength kind fields) :
    reqWriteCue index kind next fields s = (s, replyBody .badLength) := by
  have hfit : cueLengthFits kind fields = false := Bool.eq_false_iff.mpr fun e => h (cueLengthFits_iff.mp e)
  rw [reqWriteCue, hfit]
  rfl

theorem reqWriteCue_badValue {index next : Byte} {fields : List Byte} (hfit : cueLengthFits kind fields = true)
    (h : finOf 128 index = none ∨ cueRefOf next = none ∨ cueBodyOf kind fields = none ∨ (kind = 0#8 ∧ next ≠ 0xFF#8)) :
    reqWriteCue index kind next fields s = (s, replyBody .badValue) := by
  rw [reqWriteCue, hfit, if_neg (by decide)]
  split
  · rename_i i n body hi hn hb
    rcases h with h | h | h | ⟨rfl, h⟩
    · rw [hi] at h; cases h
    · rw [hn] at h; cases h
    · rw [hb] at h; cases h
    · have hbody : body = .empty := by
        obtain rfl : fields = [] := List.length_eq_zero_iff.mp (cueLengthFits_iff.mp hfit)
        cases hb
        rfl
      have hnext : n ≠ .chainStop := fun e => by
        subst e
        rw [cueRefOf, if_neg h] at hn
        cases hf : finOf 128 next <;> rw [hf] at hn <;> cases hn
      exact if_pos ⟨hbody, hnext⟩
  · rfl

/-! ### The requests, with a field that their decoders refuse -/

theorem reqReadStation_badValue {st clear : Byte} (h : finOf 8 st = none ∨ flagOf clear = none) :
    reqReadStation st clear s = (s, replyBody .badValue) := by
  unfold reqReadStation
  split
  · simp_all
  · rfl

theorem reqSetStation_badValue {st row column : Byte} {rest idle : Nat}
    (h : finOf 8 st = none ∨ inRange 0 6000 rest = none ∨ inRange 0 600 idle = none ∨ cellOf row column = none) :
    reqSetStation st rest idle row column s = (s, replyBody .badValue) := by
  unfold reqSetStation
  split
  · simp_all
  · rfl

theorem reqSetAxis_axis {axis station mode flags run hold guard times : Byte} {low high : Int} {jam : Nat}
    (h : finOf 8 axis = none) :
    reqSetAxis axis station mode flags run hold low high guard jam times s = (s, replyBody .badValue) := by
  unfold reqSetAxis
  split
  · simp_all
  · rfl

theorem reqArmAxis_badValue {axis start follower : Byte}
    (h : finOf 8 axis = none ∨ finOf 128 start = none ∨ ∃ x, finOf 8 axis = some x ∧ s.secondStart x follower = none) :
    reqArmAxis axis start follower s = (s, replyBody .badValue) := by
  unfold reqArmAxis
  split
  · split
    · simp_all
    · rfl
  · rfl

theorem reqDemandAxis_badValue {axis flag : Byte} (h : finOf 8 axis = none) :
    reqDemandAxis axis flag s = (s, replyBody .badValue) := by
  unfold reqDemandAxis
  split
  · simp_all
  · rfl

theorem reqSetChannel_badValue {channel shift persistence : Byte} {low high : Nat}
    (h : finOf 8 channel = none ∨ inRange 0 3 shift.toNat = none ∨ inRange 0 1023 low = none ∨ inRange 0 1023 high = none ∨
      inRange 1 15 persistence.toNat = none ∨ high < low) :
    reqSetChannel channel shift low high persistence s = (s, replyBody .badValue) := by
  unfold reqSetChannel
  split
  · rename_i hlow hhigh _
    obtain ⟨rfl, -⟩ := inRange_some hlow
    obtain ⟨rfl, -⟩ := inRange_some hhigh
    simp_all
  · rfl

theorem reqSetScan_badValue {first last mode source sample : Byte} {period : Nat}
    (h : finOf 8 first = none ∨ finOf 8 last = none ∨ scanModeOf mode = none ∨ scanSourceOf source = none ∨
      inRange 1 1000 period = none ∨ sampleTimeOf sample = none) :
    reqSetScan first last mode source period sample s = (s, replyBody .badValue) := by
  unfold reqSetScan
  split
  · simp_all
  · rfl

theorem reqSetButton_badValue {button polarity role station row column : Byte} {hold : Nat}
    (h : finOf 16 button = none ∨ polarityOf polarity = none ∨ roleOf role = none ∨ stationRefOf station = none ∨
      inRange 100 10000 hold = none ∨ cellOf row column = none ∨ (station = 0xFF#8 ∧ (role = 1#8 ∨ role = 2#8))) :
    reqSetButton button polarity role station hold row column s = (s, replyBody .badValue) := by
  have lone : station = 0xFF#8 ∧ (role = 1#8 ∨ role = 2#8) →
      stationRefOf station = some none ∧ (roleOf role = some .roleShow ∨ roleOf role = some .roleHold) := by
    rintro ⟨rfl, rfl | rfl⟩
    · exact ⟨rfl, .inl rfl⟩
    · exact ⟨rfl, .inr rfl⟩
  unfold reqSetButton
  split
  · rcases h with h | h | h | h | h | h | h
    case inr.inr.inr.inr.inr.inr =>
      have := lone h
      simp_all
    all_goals simp_all
  · rfl

theorem reqReadAlerts_badValue {first count : Byte} (h : inRange 0 15 first.toNat = none ∨ inRange 1 8 count.toNat = none) :
    reqReadAlerts first count s = (s, replyBody .badValue) := by
  unfold reqReadAlerts
  split
  · simp_all
  · rfl

theorem reqReadCue_badValue {first count : Byte} (h : finOf 128 first = none ∨ inRange 1 8 count.toNat = none) :
    reqReadCue first count s = (s, replyBody .badValue) := by
  unfold reqReadCue
  split
  · simp_all
  · rfl

theorem reqEraseCue_badValue {first count : Byte}
    (h : finOf 128 first = none ∨ inRange 1 128 count.toNat = none ∨ 128 < first.toNat + count.toNat) :
    reqEraseCue first count s = (s, replyBody .badValue) := by
  unfold reqEraseCue
  split
  · rename_i i n hi hn
    obtain ⟨rfl, -⟩ := inRange_some hn
    rcases h with h | h | h
    · rw [hi] at h; cases h
    · rw [hn] at h; cases h
    · unfold finOf at hi
      split at hi
      · cases hi
        exact if_pos h
      · cases hi
  · rfl

theorem reqEraseCue_fault {first count : Byte} (hc : count ≠ 0#8) (hr : first.toNat + count.toNat ≤ 128)
    (hf : s.part.failure.getLsbD 0 = true) : reqEraseCue first count s = (s, replyBody .fault) := by
  have hpos : 1 ≤ count.toNat := Nat.one_le_iff_ne_zero.mpr fun e => hc (BitVec.eq_of_toNat_eq e)
  have hi : finOf 128 first = some ⟨first.toNat, by omega⟩ := finOf_eq rfl
  unfold reqEraseCue
  rw [hi, inRange_mem hpos (by omega)]
  dsimp only
  rw [if_neg (by omega), cueTableSound_eq hf]
  rfl

theorem reqSetEvent_badValue {line enable level action p1 p2 : Byte} {mask : BitVec 16}
    (h : finOf 43 line = none ∨ flagOf enable = none ∨ inRange 0 7 level.toNat = none ∨ routeOf action p1 p2 = none) :
    reqSetEvent line enable level action p1 p2 mask s = (s, replyBody .badValue) := by
  unfold reqSetEvent
  split
  · simp_all
  · rfl

theorem reqWriteLamps_badValue {n c : Byte} {columns : List Byte} (h : finOf 4 n = none ∨ finOf 32 c = none) :
    reqWriteLamps n c columns s = (s, replyBody .badValue) := by
  unfold reqWriteLamps
  split
  · simp_all
  · rfl

theorem reqReadLamps_badValue {source start count : Byte}
    (h : lampSourceOf source = none ∨ finOf 32 start = none ∨ inRange 1 32 count.toNat = none) :
    reqReadLamps source start count s = (s, replyBody .badValue) := by
  unfold reqReadLamps
  split
  · simp_all
  · rfl

theorem reqSetBudget_badValue {budget policy : Byte} {wait : Nat}
    (h : inRange 1 63 budget.toNat = none ∨ policyOf policy = none ∨ 10000 < wait) :
    reqSetBudget budget policy wait s = (s, replyBody .badValue) := by
  unfold reqSetBudget
  split
  · simp_all
  · rfl

theorem reqRaiseAlert_badValue {severity station code : Byte} (h : severityOf severity = none ∨ stationRefOf station = none) :
    reqRaiseAlert severity station code s = (s, replyBody .badValue) := by
  unfold reqRaiseAlert
  split
  · simp_all
  · rfl

/-- A count of 0 or beyond its maximum. -/
theorem count_none {b : Byte} {high : Nat} (h : b = 0#8 ∨ high < b.toNat) : inRange 1 high b.toNat = none := by
  refine inRange_not_mem ?_
  rcases h with rfl | h
  · simp
  · omega

end

/-! ### All of them -/

section
variable {s : State} {tag : Byte}

/-- An axis or station, a channel or a bound of the scan range beyond 7. -/
theorem eightBeyond_badValue {n a b c d e g h : Byte} {p q : BitVec 24} {v w : BitVec 16} (hs : s.listening) (ht : tag ≠ 0#8)
    (hn : 8 ≤ n.toNat) :
    ∀ k ∈
      [(Instr.stationCommandOnline tag n, 0xA9#8), (.stationCommandOffline tag n, 0xA9#8),
        (.stationCommandStart tag n, 0xA9#8), (.stationCommandStop tag n, 0xA9#8),
        (.stationCommandUnlock tag n, 0xA9#8), (.readStation tag n a, 0xAA#8),
        (.setStation tag n v w a b, 0xA8#8), (.setAxis tag n a b c d e p q g v h, 0xC0#8), (.armAxis tag n a b, 0xC1#8),
        (.disarmAxis tag n, 0xC2#8), (.triggerAxis tag n, 0xC3#8), (.demandAxis tag n a, 0xC4#8),
        (.stopAxis tag n, 0xC5#8), (.haltAxis tag n, 0xC6#8), (.setPosition tag n p, 0xC7#8), (.readAxis tag n, 0xC8#8),
        (.setChannel tag n a v w b, 0xE3#8), (.setScan tag n a b c v d, 0xE0#8), (.setScan tag a n b c v d, 0xE0#8)],
      exec k.1 s = .next (s.reply tag k.2 .badValue) := by
  have none8 : finOf 8 n = none := finOf_none hn
  simp only [List.forall_mem_cons, List.not_mem_nil, false_imp_iff, implies_true, and_true]
  exact ⟨refused_of hs (exec_stationCommandOnline hs.1 ht n) (by rw [reqStationOnline, none8]),
    refused_of hs (exec_stationCommandOffline hs.1 ht n) (by rw [reqStationOffline, none8]),
    refused_of hs (exec_stationCommandStart hs.1 ht n) (by rw [reqStationStart, none8]),
    refused_of hs (exec_stationCommandStop hs.1 ht n) (by rw [reqStationStop, none8]),
    refused_of hs (exec_stationCommandUnlock hs.1 ht n) (by rw [reqStationUnlock, none8]),
    refused_of hs (exec_readStation hs.1 ht n a) (reqReadStation_badValue (.inl none8)),
    refused_of hs (exec_setStation hs.1 ht n v w a b) (reqSetStation_badValue (.inl none8)),
    refused_of hs (exec_setAxis hs.1 ht n a b c d e p q g v h) (reqSetAxis_axis none8),
    refused_of hs (exec_armAxis hs.1 ht n a b) (reqArmAxis_badValue (.inl none8)),
    refused_of hs (exec_disarmAxis hs.1 ht n) (by rw [reqDisarmAxis, none8]),
    refused_of hs (exec_triggerAxis hs.1 ht n) (by rw [reqTriggerAxis, none8]),
    refused_of hs (exec_demandAxis hs.1 ht n a) (reqDemandAxis_badValue none8),
    refused_of hs (exec_stopAxis hs.1 ht n) (by rw [reqStopAxis, none8]),
    refused_of hs (exec_haltAxis hs.1 ht n) (by rw [reqHaltAxis, none8]),
    refused_of hs (exec_setPosition hs.1 ht n p) (by rw [reqSetPosition, none8]),
    refused_of hs (exec_readAxis hs.1 ht n) (by rw [reqReadAxis, none8]),
    refused_of hs (exec_setChannel hs.1 ht n a v w b) (reqSetChannel_badValue (.inl none8)),
    refused_of hs (exec_setScan hs.1 ht n a b c v d) (reqSetScan_badValue (.inl none8)),
    refused_of hs (exec_setScan hs.1 ht a n b c v d) (reqSetScan_badValue (.inr (.inl none8)))⟩

/-- A cue entry beyond 127. -/
theorem cueBeyond_badValue {n a b : Byte} (hs : s.listening) (ht : tag ≠ 0#8) (hn : 128 ≤ n.toNat) :
    ∀ k ∈
      [(Instr.readCue tag n a, 0xB1#8), (.validateChain tag n, 0xB2#8), (.eraseCue tag n a, 0xB3#8),
        (.armAxis tag a n b, 0xC1#8)],
      exec k.1 s = .next (s.reply tag k.2 .badValue) := by
  have none128 : finOf 128 n = none := finOf_none hn
  simp only [List.forall_mem_cons, List.not_mem_nil, false_imp_iff, implies_true, and_true]
  exact ⟨refused_of hs (exec_readCue hs.1 ht n a) (reqReadCue_badValue (.inl none128)),
    refused_of hs (exec_validateChain hs.1 ht n) (by rw [reqValidateChain, none128]),
    refused_of hs (exec_eraseCue hs.1 ht n a) (reqEraseCue_badValue (.inl none128)),
    refused_of hs (exec_armAxis hs.1 ht a n b) (reqArmAxis_badValue (.inr (.inl none128)))⟩

/-- The fields of WRITE_CUE that BAD_VALUE refuses (R53). -/
theorem writeCue_fields {kind next : Byte} {fields : List Byte} (hlen : fields.length = cueLength kind fields)
    (h : 6 ≤ kind.toNat ∨ (128 ≤ next.toNat ∧ next ≠ 0xFF#8) ∨ (kind = 0#8 ∧ next ≠ 0xFF#8) ∨
      (kind = 1#8 ∧ ∃ seek, fields[10]? = some seek ∧ 3 ≤ seek.toNat) ∨
      (kind = 3#8 ∧ (fields = [0#8, 0#8] ∨ ∃ d0 d1, fields = [d0, d1] ∧ 60000 < d0.toNat + 256 * d1.toNat)) ∨
      (kind = 4#8 ∧ ∃ n, fields = [n] ∧ 4 ≤ n.toNat)) (index : Byte) :
    reqWriteCue index kind next fields s = (s, replyBody .badValue) := by
  refine reqWriteCue_badValue (cueLengthFits_iff.mpr hlen) (.inr ?_)
  rcases h with h | h | h | ⟨rfl, seek, hf, hs⟩ | ⟨rfl, rfl | ⟨d0, d1, rfl, hd⟩⟩ | ⟨rfl, n, rfl, hn⟩
  · exact .inr (.inl (cueBodyOf_unlisted h))
  · exact .inl (cueRefOf_none h)
  · exact .inr (.inr h)
  · exact .inr (.inl (cueBodyOf_seek hf hs))
  · exact .inr (.inl (cueBodyOf_dwell (.inl rfl)))
  · exact .inr (.inl (cueBodyOf_dwell (.inr hd)))
  · exact .inr (.inl (cueBodyOf_scene hn))

end

/-- Settles O60. -/
theorem outOfRangeIsBadValue : Obligations.OutOfRangeIsBadValue := by
  constructor
  · intro tag n a b c d e g h i j p q v w fields s hs ht
    refine ⟨eightBeyond_badValue hs ht, fun hn => ⟨?_, ?_⟩, cueBeyond_badValue hs ht, fun hn hl hfit => ?_, fun hn => ?_,
      fun h1 h2 => ⟨fun hn => ?_, fun hn => ?_⟩, fun hn hb => ?_, fun hn => ?_, fun hn => ?_⟩
    · exact refused_of hs (exec_setButton hs.1 ht n a b c v d e) (reqSetButton_badValue (.inl (finOf_none hn)))
    · exact refused_of hs (exec_readAlerts hs.1 ht n a) (reqReadAlerts_badValue (.inl (inRange_not_mem (by omega))))
    · exact refused_of hs (exec_writeCue hs.1 ht n a b fields (Nat.add_comm 3 _ ▸ hl))
        (reqWriteCue_badValue hfit (.inl (finOf_none hn)))
    · exact refused_of hs (exec_setEvent hs.1 ht n a b c d e v) (reqSetEvent_badValue (.inl (finOf_none hn)))
    · exact refused_of hs (exec_writeLamps hs.1 ht n i fields h1 h2) (reqWriteLamps_badValue (.inl (finOf_none hn)))
    · exact refused_of hs (exec_writeLamps hs.1 ht i n fields h1 h2) (reqWriteLamps_badValue (.inr (finOf_none hn)))
    · exact refused_of hs (exec_readLamps hs.1 ht n i j) (reqReadLamps_badValue (.inl (lampSourceOf_none hn hb)))
    · exact refused_of hs (exec_readLamps hs.1 ht i n j) (reqReadLamps_badValue (.inr (.inl (finOf_none hn))))
    · exact refused_of hs (exec_showScene hs.1 ht n) (by rw [reqShowScene, finOf_none hn])
  · intro tag s hs ht bad noStation noCell
    refine ⟨?button, ?station, ?flag, ?cue, ?counts, ?budget, ?scan, ?channel, ?alert, ?lamps, ?event, ?follower⟩
    case button =>
      intro button polarity role station row column hold h
      refine refused_of hs (exec_setButton hs.1 ht ..) (reqSetButton_badValue (.inr ?_))
      rcases h with h | h | h | h | h | h | h
      · exact .inl (polarityOf_none h)
      · exact .inr (.inl (roleOf_none h))
      · exact .inr (.inr (.inl (stationRefOf_none h)))
      · exact .inr (.inr (.inr (.inr (.inr h))))
      · exact .inr (.inr (.inr (.inl (inRange_not_mem (by omega)))))
      · exact .inr (.inr (.inr (.inl (inRange_not_mem (by omega)))))
      · exact .inr (.inr (.inr (.inr (.inl (cellOf_none h)))))
    case station =>
      intro station row column rest idle h
      refine refused_of hs (exec_setStation hs.1 ht ..) (reqSetStation_badValue (.inr ?_))
      rcases h with h | h | h
      · exact .inl (inRange_not_mem (by omega))
      · exact .inr (.inl (inRange_not_mem (by omega)))
      · exact .inr (.inr (cellOf_none h))
    case flag =>
      intro station clear h
      exact ⟨refused_of hs (exec_readStation hs.1 ht ..) (reqReadStation_badValue (.inr (flagOf_none h))),
        refused_of hs (exec_status hs.1 ht ..) (by rw [reqStatus, flagOf_none h])⟩
    case cue =>
      intro index kind next fields hl expected
      have he := exec_writeCue hs.1 ht index kind next fields (Nat.add_comm 3 _ ▸ hl)
      exact ⟨fun h => refused_of hs he (reqWriteCue_badLength h), fun hlen h => refused_of hs he (writeCue_fields hlen h index)⟩
    case counts =>
      intro first count
      refine ⟨fun h => ?_, fun h => ?_, fun hc hr hf => ?_, fun h => ?_⟩
      · exact refused_of hs (exec_readCue hs.1 ht ..) (reqReadCue_badValue (.inr (count_none h)))
      · refine refused_of hs (exec_eraseCue hs.1 ht ..) (reqEraseCue_badValue (.inr ?_))
        rcases h with h | h | h
        · exact .inl (count_none (.inl h))
        · exact .inl (count_none (.inr h))
        · exact .inr h
      · exact refused_of hs (exec_eraseCue hs.1 ht ..) (reqEraseCue_fault hc hr hf)
      · exact refused_of hs (exec_readAlerts hs.1 ht ..) (reqReadAlerts_badValue (.inr (count_none h)))
    case budget =>
      intro budget policy wait h
      refine refused_of hs (exec_setBudget hs.1 ht ..) (reqSetBudget_badValue ?_)
      rcases h with h | h | h | h
      · exact .inl (count_none (.inl h))
      · exact .inl (count_none (.inr h))
      · exact .inr (.inl (policyOf_none h))
      · exact .inr (.inr h)
    case scan =>
      intro first last mode source sample period h
      refine refused_of hs (exec_setScan hs.1 ht ..) (reqSetScan_badValue (.inr (.inr ?_)))
      rcases h with h | h | h | h | h
      · exact .inl (scanModeOf_none h)
      · exact .inr (.inl (scanSourceOf_none h))
      · exact .inr (.inr (.inl (inRange_not_mem (by simp [h]))))
      · exact .inr (.inr (.inl (inRange_not_mem (by omega))))
      · exact .inr (.inr (.inr (sampleTimeOf_none h)))
    case channel =>
      intro channel shift persistence low high h
      refine refused_of hs (exec_setChannel hs.1 ht ..) (reqSetChannel_badValue (.inr ?_))
      rcases h with h | h | h | h | h | h
      · exact .inl (inRange_not_mem (by omega))
      · exact .inr (.inl (inRange_not_mem (by omega)))
      · exact .inr (.inr (.inl (inRange_not_mem (by omega))))
      · exact .inr (.inr (.inr (.inr h)))
      · exact .inr (.inr (.inr (.inl (count_none (.inl h)))))
      · exact .inr (.inr (.inr (.inl (count_none (.inr h)))))
    case alert =>
      intro severity station code h
      exact refused_of hs (exec_raiseAlert hs.1 ht ..) (reqRaiseAlert_badValue (h.imp severityOf_none stationRefOf_none))
    case lamps =>
      intro source start count h
      exact refused_of hs (exec_readLamps hs.1 ht ..) (reqReadLamps_badValue (.inr (.inr (count_none h))))
    case event =>
      intro line enable level action p1 p2 mask h
      refine refused_of hs (exec_setEvent hs.1 ht ..) (reqSetEvent_badValue (.inr ?_))
      rcases h with h | h | h
      · exact .inl (flagOf_none h)
      · exact .inr (.inl (inRange_not_mem (by omega)))
      · exact .inr (.inr (routeOf_none h))
    case follower =>
      intro axis start follower x hx hl hp hf
      refine refused_of hs (exec_armAxis hs.1 ht ..) (reqArmAxis_badValue (.inr (.inr ⟨x, finOf_eq hx, ?_⟩)))
      simp [State.secondStart, hp, hl, finOf_none hf]

end Sys2Proof.Machine
end

section
/-! PROOFS. A pass counts both members' hold draws as the pair's (R106). A coherent state may hold a pair flag on a follower, which no SET_AXIS
writes; taking it off ends the run of a leader whose follower is DISARMED, and the leader's next load waits for a grant in which the DISARMED
follower's hold draw is counted as held. -/

namespace Sys2Proof.Machine

/-- A paired member of station 0 with run draw 15 and hold draw 3. -/
def heavyMember : AxisConfig := { AxisConfig.reset with station := some 0, pair := true, runDraw := 15, holdDraw := 3 }

/-- X0 leads its pair's run and is in the last millisecond of a DWELL, with a MOVE behind it; X1 is DISARMED, and its own pair flag is on. The
holder has the SET_AXIS that takes that flag off. The budget holds X0's hold draw and the increase of a pair, 24, and no more. -/
def overdrawn : State :=
  let s : State := { State.reset with part := { State.reset.part with condition := .inService } }
  let leader : Axis :=
    { Axis.reset with
      cfg := heavyMember, state := .dwelling, chain := [0, 1], start := some 0, current := some (.entry 0), dwell := 1 }
  let move : CueBody := .move 100 { f := 50, v := 50, a := 1 } none
  let chained := (s.putCue 0 { body := .dwell 1, next := .entry 1, pins := 1 }).putCue 1
    { body := move, next := .chainStop, pins := 1 }
  let t := ((chained.putAxis 0 leader).putAxis 1 { Axis.reset with cfg := heavyMember }).putPair 0
    { PairCtx.reset with run := true, runSum := 6 }
  let flagOff : Frame :=
    { tag := 1, kind := 0x40, body := [1, 0, 1, 0, 15, 3, 0, 0, 0x80, 0xFF, 0xFF, 0x7F, 0xFF, 0xFF, 3, 3] }
  { t with arbiter := { t.arbiter with budget := 27 }, link := { t.link with holder := some flagOff } }

theorem overdrawn_coherent : overdrawn.coherent := by
  have alone : ∀ x, (overdrawn.axis x).state ≠ .disarmed → x = 0 := by decide
  refine ⟨by unfold State.pinsCounted; decide, fun x hx => ?_, by unfold State.pairsFormed; dsimp only; decide,
    by unfold State.pendingListed; decide, by unfold State.guardsCovered; decide,
    by unfold State.withinLimits; dsimp only; decide⟩
  obtain rfl := alone x hx
  exact ⟨0, by decide, rfl, .inr ⟨0, by decide, by decide⟩⟩

theorem overdrawn_withinBudget : overdrawn.withinBudget := ⟨by decide, by decide, by decide⟩

/-- One millisecond: the request is served, the dwell ends, and the grant of the pair's entry takes the run sum of 30. -/
theorem overdrawn_step : ∃ t, step overdrawn = .next t ∧ (t.arbiter.budget, t.totalAllocation) = (27, 30) :=
  ⟨_, rfl, by decide +kernel⟩

/-- Refutes O12: a pair whose run ends under a DISARMED follower waits again, and its grant counts a hold draw that it does not hold. -/
theorem not_stepKeepsBudget : ¬ Obligations.StepKeepsBudget := by
  unfold Obligations.StepKeepsBudget
  intro h
  obtain ⟨t, ht, hout⟩ := overdrawn_step
  obtain ⟨hbudget, htotal⟩ := Prod.mk.inj hout
  have hle : t.totalAllocation ≤ t.arbiter.budget := (h overdrawn t overdrawn_coherent overdrawn_withinBudget ht).1
  omega

end Sys2Proof.Machine
end

section
/-! PROOFS. The ramp tick: the rate update, the steps of a tick, and the bounds that they keep. -/

namespace Sys2Proof.Machine

section
variable (p : Profile) (a : Axis)

/-- An axis brakes at the start of a tick (R89). -/
def Axis.braking : Prop := a.phase = .decel ∨ a.state = .stopping ∨ a.remN ≤ brakeDistance p a.rate

variable {p a}

theorem rateUpdate_brakes (h : a.braking p) : rateUpdate p a = (max p.f (a.rate - p.a), .decel) := if_pos h

theorem rateUpdate_climbs (h : ¬ a.braking p) (hr : a.rate < p.v) :
    rateUpdate p a = (min p.v (a.rate + p.a), if min p.v (a.rate + p.a) = p.v then .cruise else .accel) :=
  (if_neg h).trans (if_pos hr)

theorem rateUpdate_cruises (h : ¬ a.braking p) (hr : p.v ≤ a.rate) : rateUpdate p a = (a.rate, .cruise) :=
  (if_neg h).trans (if_neg (Nat.not_lt.mpr hr))

theorem rateUpdate_bounds (hp : p.f ≤ p.v) (hlow : p.f ≤ a.rate) (hhigh : a.rate ≤ p.v) :
    p.f ≤ (rateUpdate p a).1 ∧ (rateUpdate p a).1 ≤ p.v := by
  by_cases hb : a.braking p
  · rw [rateUpdate_brakes hb]
    dsimp only
    omega
  · by_cases hr : a.rate < p.v
    · rw [rateUpdate_climbs hb hr]
      dsimp only
      omega
    · rw [rateUpdate_cruises hb (Nat.not_lt.mp hr)]
      exact ⟨hlow, hhigh⟩

theorem tickSteps_le_remN (r : Nat) : a.tickSteps r ≤ a.remN := Nat.min_le_left ..

theorem tickSteps_le_twenty {r : Nat} (hacc : a.acc ≤ 999) (hr : r ≤ 20000) : a.tickSteps r ≤ 20 := by
  have hle : a.tickSteps r ≤ (a.acc + r) / 1000 := Nat.min_le_right ..
  omega

theorem rampStep_position : (a.rampStep p false).position = a.dir.advance a.position (a.tickSteps (rateUpdate p a).1) := rfl

theorem rampStep_virtual : (a.rampStep p true).virtual = a.dir.advance a.virtual (a.tickSteps (rateUpdate p a).1) := rfl

theorem rampStep_acc (rehearses : Bool) : (a.rampStep p rehearses).acc ≤ 999 :=
  Nat.le_of_lt_succ (Nat.mod_lt _ (by decide))

/-- The position lies within the soft limits. -/
def Axis.inside (a : Axis) : Prop := a.cfg.softLow ≤ a.position ∧ a.position ≤ a.cfg.softHigh

/-- What is left of the segment leads to no place outside the soft limits. -/
def Axis.fits (a : Axis) : Prop := a.remN ≤ a.cfg.room a.position a.dir

/-- Steps that are left take the position towards the limit and no further (R82). -/
theorem advance_inside {c : AxisConfig} {z : Int} {d : Dir} {n k : Nat} (hlow : c.softLow ≤ z) (hhigh : z ≤ c.softHigh)
    (hfit : n ≤ c.room z d) (hk : k ≤ n) :
    (c.softLow ≤ d.advance z k ∧ d.advance z k ≤ c.softHigh) ∧ n - k ≤ c.room (d.advance z k) d := by
  cases d <;> simp only [AxisConfig.room, Dir.advance] at hfit ⊢ <;> omega

theorem rampStep_inside (hin : a.inside) (hfit : a.fits) : (a.rampStep p false).inside ∧ (a.rampStep p false).fits :=
  advance_inside hin.1 hin.2 hfit (tickSteps_le_remN _)

end

/-- Settles O29. -/
theorem tickUpdatesRateStepsAndLimits : Obligations.TickUpdatesRateStepsAndLimits := by
  refine ⟨fun p a => ?update, fun p a rehearses => ?stepping, fun p a rehearses hp hlow hhigh hn => ?bounds⟩
  case update =>
    refine ⟨rateUpdate_brakes, fun hb hr hv => ?_, fun hb hr hv => ?_, rateUpdate_cruises⟩
    · rw [rateUpdate_climbs hb hr, Nat.min_eq_left hv, if_pos rfl]
    · rw [rateUpdate_climbs hb hr, Nat.min_eq_right (Nat.le_of_lt hv), if_neg (Nat.ne_of_lt hv)]
  case stepping =>
    refine ⟨rfl, rfl, Nat.sub_add_cancel (tickSteps_le_remN _), ?_, ?_, tickSteps_le_twenty⟩
    · rintro rfl
      exact ⟨rampStep_position, rfl, rfl⟩
    · rintro rfl
      exact ⟨rampStep_virtual, rfl, rfl⟩
  case bounds =>
    obtain ⟨hf, hv⟩ := rateUpdate_bounds hp hlow hhigh
    refine ⟨hf, hv, (Nat.sub_le ..).trans hn, rampStep_acc rehearses, ?_⟩
    rintro rfl hl hh hfit
    obtain ⟨⟨hl', hh'⟩, hfit'⟩ := rampStep_inside (p := p) ⟨hl, hh⟩ hfit
    exact ⟨hl', hh', hfit'⟩

end Sys2Proof.Machine
end

section
/-! PROOFS. What the load of a motion sets up, and each of its outcomes as an equation (R64 to R66, R79 to R83). -/

namespace Sys2Proof.Machine

/-- The direction that signed steps travel in; 0 steps keep the direction that they find (R64). -/
def headingOf (travel : Int) (d : Dir) : Dir := if 0 < travel then .up else if travel < 0 then .down else d

/-- An axis with a new segment of `n` steps (R64, R65). -/
def Axis.withSegment (a : Axis) (d : Dir) (named : Option StopSide) (n : Nat) : Axis :=
  { a with dir := d, seek := named, segN := n, remN := n }

/-- The steps of a segment, cut at the room before the soft limit (R64). -/
def State.clampedSteps (s : State) (x : AxisId) (travel : Int) : Nat :=
  min travel.natAbs ((s.axis x).cfg.room (s.countedPosition x) (headingOf travel (s.axis x).dir))

/-- The part once the segment of a load is set up. -/
def State.setSegment (s : State) (x : AxisId) (travel : Int) (named : Option StopSide) : State :=
  s.putAxis x ((s.axis x).withSegment (headingOf travel (s.axis x).dir) named (s.clampedSteps x travel))

section
variable {s t : State} {x y : AxisId} {travel : Int} {p : Profile} {side : StopSide} {home : Int} {named : Option StopSide}

/-! ### Setting up a segment -/

@[simp] theorem setSegment_axis_self : (s.setSegment x travel named).axis x =
    (s.axis x).withSegment (headingOf travel (s.axis x).dir) named (s.clampedSteps x travel) := State.putAxis_axis_self ..

theorem setSegment_axis_ne (h : x ≠ y) : (s.setSegment x travel named).axis y = s.axis y := State.putAxis_axis_ne _ h _

theorem setSegment_steered : Steered x s (s.setSegment x travel named) := .of_putAxis .same

theorem countedPosition_real (h : s.rehearses x = false) : s.countedPosition x = (s.axis x).position := by
  simp [State.countedPosition, h]

/-- A MOVE without a seek: SOFT_LIMIT is posted when the limit cuts it (R64). -/
theorem loadMotion_free : s.loadMotion x travel p none =
    (if s.clampedSteps x travel < travel.natAbs then (s.setSegment x travel none).post (axisLine x) .softLimit
      else s.setSegment x travel none).motionOutcome x p none := by
  unfold State.loadMotion State.setSegment
  dsimp only
  rw [State.putAxis_putAxis]
  rfl

/-- A seek whose stop is not TRIPPED, or that looks at no stop (R64, R83). -/
theorem loadMotion_seek (h : s.rehearses x = true ∨ (s.axis x).stopLevel side ≠ some true) :
    s.loadMotion x travel p (some (side, home)) = (s.setSegment x travel (some side)).motionOutcome x p (some home) := by
  unfold State.loadMotion State.setSegment
  dsimp only
  rw [if_neg (by rcases h with h | h <;> simp [h]), State.putAxis_putAxis]
  rfl

/-- A seek whose stop is TRIPPED is at home at once (R64, R79). -/
theorem loadMotion_home (hr : s.rehearses x = false) (h : (s.axis x).stopLevel side = some true) :
    s.loadMotion x travel p (some (side, home)) =
      ((s.putAxis x { s.axis x with dir := headingOf travel (s.axis x).dir, seek := some side }).takeHome x home, true) := by
  unfold State.loadMotion
  dsimp only
  rw [if_pos (by simp [hr, h])]
  rfl

/-! ### Demand and run current -/

/-- The demand flag rests on the host demand, the station and the buttons (R72). -/
theorem demandFlag_of_eq (hh : (t.axis x).hostDemand = (s.axis x).hostDemand) (hc : (t.axis x).cfg = (s.axis x).cfg)
    (hb : t.buttons = s.buttons) : t.demandFlag x = s.demandFlag x := by
  have hbutton : ∀ b, t.button b = s.button b := fun b => by rw [State.button, hb, State.button]
  have hdemand : ∀ st, t.buttonDemand st = s.buttonDemand st := fun st => by simp only [State.buttonDemand, hbutton]
  unfold State.demandFlag
  rw [hh, hc]
  cases (s.axis x).cfg.station with
  | none => rfl
  | some st => exact congrArg _ (hdemand st)

theorem holdsRunCurrent_solo (h : s.paired x = false) : s.holdsRunCurrent x = decide ((s.axis x).state = .running) := by
  simp [State.holdsRunCurrent, h]

theorem holdsRunCurrent_paired (h : s.paired x = true) : s.holdsRunCurrent x = (s.pair x).run := by
  simp [State.holdsRunCurrent, h]

theorem mode_solo (h : s.paired x = false) : s.mode x = (s.axis x).cfg.mode := by simp [State.mode, h]

theorem mode_ne_demand_of_rehearses (h : s.rehearses x = true) : s.mode x ≠ .demand := by
  have : s.mode x = .rehearse := by simpa [State.rehearses] using h
  simp [this]

/-- A load waits for no demand: the mode is another, or the flag is asserted (R66). -/
def State.demanded (s : State) (x : AxisId) : Prop := s.mode x = .demand → s.demandFlag x = true

theorem demanded_of_rehearses (h : s.rehearses x = true) : s.demanded x := fun hm => absurd hm (mode_ne_demand_of_rehearses h)

theorem not_demanded (h : ¬ s.demanded x) : s.mode x = .demand ∧ s.demandFlag x = false := by
  simpa [State.demanded] using h

/-! ### The outcomes of a segment (R66) -/

theorem motionOutcome_done (h : (s.axis x).segN = 0) : s.motionOutcome x p none = (s, true) := if_pos h

theorem motionOutcome_virtualHome (h : (s.axis x).segN = 0) (hr : s.rehearses x = true) :
    s.motionOutcome x p (some home) = (s.takeVirtualHome x home, true) := (if_pos h).trans (if_pos hr)

theorem motionOutcome_miss (h : (s.axis x).segN = 0) (hr : s.rehearses x = false) :
    s.motionOutcome x p (some home) = (s.seekMiss x, false) := (if_pos h).trans (if_neg (by simp [hr]))

theorem motionOutcome_pauses {goal : Option Int} (h : (s.axis x).segN ≠ 0) (hm : s.mode x = .demand)
    (hd : s.demandFlag x = false) : s.motionOutcome x p goal = ((s.setDir x).enter x .paused, false) :=
  (if_neg h).trans (if_pos (by simp [hm, hd]))

theorem motionOutcome_runs {goal : Option Int} (h : (s.axis x).segN ≠ 0) (hd : s.demanded x)
    (hc : s.holdsRunCurrent x = true)
    (ht : s.rehearses x = true ∨ (s.axis x).seek ≠ none ∨ (s.axis x).trippedAhead = false) :
    s.motionOutcome x p goal = ((s.setDir x).enter x .running fun b => b.startRamp p, false) := by
  refine (if_neg h).trans ((if_neg fun e => by simp [hd e.1] at e).trans ((if_pos hc).trans (if_neg ?_)))
  rcases ht with ht | ht | ht <;> simp [ht]

theorem motionOutcome_trips {goal : Option Int} (h : (s.axis x).segN ≠ 0) (hd : s.demanded x)
    (hc : s.holdsRunCurrent x = true) (hr : s.rehearses x = false) (hs : (s.axis x).seek = none)
    (ht : (s.axis x).trippedAhead = true) :
    s.motionOutcome x p goal = (((s.setDir x).enter x .running fun b => b.startRamp p).halt x .endStop, false) :=
  (if_neg h).trans ((if_neg fun e => by simp [hd e.1] at e).trans ((if_pos hc).trans (if_pos ⟨hs, ht, by simp [hr]⟩)))

theorem motionOutcome_rehearses {goal : Option Int} (h : (s.axis x).segN ≠ 0) (hr : s.rehearses x = true) :
    s.motionOutcome x p goal = ((s.setDir x).enter x .running fun b => b.startRamp p, false) := by
  cases hc : s.holdsRunCurrent x with
  | true => exact motionOutcome_runs h (demanded_of_rehearses hr) hc (.inl hr)
  | false =>
    exact (if_neg h).trans ((if_neg fun e => mode_ne_demand_of_rehearses hr e.1).trans
      ((if_neg (by simp [hc])).trans (if_pos hr)))

theorem motionOutcome_waits {goal : Option Int} (h : (s.axis x).segN ≠ 0) (hd : s.demanded x)
    (hc : s.holdsRunCurrent x = false) (hr : s.rehearses x = false) :
    s.motionOutcome x p goal = (((s.setDir x).enter x .pending fun b => b.startRamp p).joinPending x, false) :=
  (if_neg h).trans ((if_neg fun e => by simp [hd e.1] at e).trans ((if_neg (by simp [hc])).trans (if_neg (by simp [hr]))))

end

end Sys2Proof.Machine
end

section
/-! PROOFS. The soft limits: a load clamps what it sets up, a tick moves by what is left, and a grant takes to RUNNING only an axis that waits on
its own. That entries of the list are of PENDING axes is `State.guardSafe`. -/

namespace Sys2Proof.Machine

-- In turn, since the check limits memory, and every proof under way holds a stack of its own.
set_option Elab.async false

/-- In this state the rest of an axis's segment must fit: the axis moves, or may move again without a new load. -/
def State.carries (s : State) (x : AxisId) (st : AxisState) : Prop :=
  s.rehearses x = false ∧ (st = .running ∨ st = .stopping ∨ st = .paused ∨ (st = .pending ∧ s.paired x = false))

section
variable {s t u : State} {x y : AxisId}

theorem withinLimits_iff :
    s.withinLimits ↔ ∀ x, (s.axis x).inside ∧ (s.carries x (s.axis x).state → (s.axis x).fits) :=
  forall_congr' fun _ => ⟨fun h => ⟨⟨h.1, h.2.1⟩, fun hc => h.2.2 hc.1 hc.2⟩,
    fun h => ⟨h.1.1, h.1.2, fun hr hs => h.2 ⟨hr, hs⟩⟩⟩

theorem State.withinLimits.inside (h : s.withinLimits) (x : AxisId) : (s.axis x).inside := (withinLimits_iff.mp h x).1

theorem State.withinLimits.fits (h : s.withinLimits) (hc : s.carries x (s.axis x).state) : (s.axis x).fits :=
  (withinLimits_iff.mp h x).2 hc

theorem State.carries.real {st : AxisState} (h : s.carries x st) : s.rehearses x = false := h.1

theorem not_carries_armed : ¬ s.carries x .armed := by simp [State.carries]
theorem not_carries_disarmed : ¬ s.carries x .disarmed := by simp [State.carries]
theorem not_carries_dwelling : ¬ s.carries x .dwelling := by simp [State.carries]

theorem carries_moving {st new : AxisState} (hm : st.moving = true) (h : s.carries x new) : s.carries x st :=
  ⟨h.real, by rcases moving_iff.mp hm with rfl | rfl <;> simp⟩

/-! ### What decides the limits -/

/-- Two contexts of an axis that agree in what its soft limits rest on, but for its state. -/
structure Axis.SameTravel (a b : Axis) : Prop where
  cfg : a.cfg = b.cfg
  position : a.position = b.position
  remN : a.remN = b.remN
  dir : a.dir = b.dir

theorem Axis.SameTravel.same {a b : Axis} (hcfg : a.cfg = b.cfg := by rfl) (hpos : a.position = b.position := by rfl)
    (hrem : a.remN = b.remN := by rfl) (hdir : a.dir = b.dir := by rfl) : a.SameTravel b := ⟨hcfg, hpos, hrem, hdir⟩

theorem Axis.SameTravel.inside {a b : Axis} (h : a.SameTravel b) (hb : b.inside) : a.inside := by
  rw [Axis.inside, h.cfg, h.position]
  exact hb

theorem Axis.SameTravel.fits {a b : Axis} (h : a.SameTravel b) (hb : b.fits) : a.fits := by
  rw [Axis.fits, h.cfg, h.position, h.remN, h.dir]
  exact hb

/-- One axis takes a context within its limits, and no other axis changes. -/
theorem State.withinLimits.change (h : s.withinLimits) (hc : (t.axis x).cfg = (s.axis x).cfg)
    (other : ∀ y, x ≠ y → t.axis y = s.axis y) (hin : (t.axis x).inside)
    (hfit : s.carries x (t.axis x).state → (t.axis x).fits) : t.withinLimits := by
  have hcfg : ∀ y, (t.axis y).cfg = (s.axis y).cfg := fun y => by
    by_cases hy : x = y
    · exact hy ▸ hc
    · rw [other y hy]
  refine withinLimits_iff.mpr fun y => ?_
  have hcar : ∀ st, t.carries y st ↔ s.carries y st := fun st => by
    rw [State.carries, rehearses_of_cfg hcfg, paired_of_cfg hcfg, State.carries]
  rw [hcar]
  by_cases hy : x = y
  · subst hy
    exact ⟨hin, hfit⟩
  · rw [other y hy]
    exact withinLimits_iff.mp h y

theorem State.withinLimits.of_axes (h : s.withinLimits) (ha : ∀ y, t.axis y = s.axis y) : t.withinLimits :=
  h.change (x := 0) (by rw [ha]) (fun y _ => ha y) (ha 0 ▸ h.inside 0) fun hc => ha 0 ▸ h.fits (ha 0 ▸ hc)

/-- Other records than the axes change. -/
theorem State.withinLimits.of_eq (h : s.withinLimits) (ha : t.axes = s.axes := by rfl) : t.withinLimits :=
  h.of_axes fun y => by rw [State.axis, ha, State.axis]

theorem State.withinLimits.core (h : s.withinLimits) (hc : CoreStands s t) : t.withinLimits := h.of_axes hc.axis

theorem post_rehearses {l : LineId} {c : Cause} {d : Details → Details} : (s.post l c d).rehearses x = s.rehearses x :=
  rehearses_of_cfg (fun _ => by rw [State.post_axis]) x

theorem State.withinLimits.post {l : LineId} {c : Cause} {d : Details → Details} (h : s.withinLimits) :
    (s.post l c d).withinLimits := h.core (post_core ..)

theorem State.withinLimits.putAxis {a : Axis} (h : s.withinLimits) (hin : a.inside)
    (hfit : s.carries x a.state → a.fits) (hc : a.cfg = (s.axis x).cfg := by rfl) : (s.putAxis x a).withinLimits :=
  h.change (by rw [State.putAxis_axis_self, hc]) (fun _ hy => State.putAxis_axis_ne _ hy _)
    (by rwa [State.putAxis_axis_self]) (by rwa [State.putAxis_axis_self])

/-- An axis is rewritten in values on which its limits do not rest. -/
theorem State.withinLimits.rewrite {a : Axis} (h : s.withinLimits) (ha : a.SameTravel (s.axis x) := by exact .same)
    (hs : a.state = (s.axis x).state := by rfl) : (s.putAxis x a).withinLimits :=
  h.putAxis (ha.inside (h.inside x)) (fun hc => ha.fits (h.fits (hs ▸ hc))) ha.cfg

/-- An axis enters a state in which its segment still fits. -/
theorem State.withinLimits.enter {new : AxisState} {f : Axis → Axis} (h : s.withinLimits)
    (hfit : s.carries x new → (s.axis x).fits) (hf : ∀ a, (f a).SameTravel a := by exact fun _ => .same) :
    (s.enter x new f).withinLimits := by
  have hself : ((s.enter x new f).axis x).SameTravel (s.axis x) := by
    obtain ⟨hc, hp, hr, hd⟩ := hf (s.axis x)
    rw [enter_axis_self]
    exact ⟨hc, hp, hr, hd⟩
  refine h.change hself.cfg (fun _ hy => enter_axis_ne s hy new f) (hself.inside (h.inside x)) fun hc => hself.fits (hfit ?_)
  rwa [enter_axis_self] at hc

theorem State.withinLimits.enterArmed {f : Axis → Axis} (h : s.withinLimits)
    (hf : ∀ a, (f a).SameTravel a := by exact fun _ => .same) : (s.enter x .armed f).withinLimits :=
  h.enter (fun hc => absurd hc not_carries_armed) hf

theorem State.withinLimits.disarm {keep : Bool} (h : s.withinLimits) : (s.disarm x keep).withinLimits :=
  ite_kept h (State.withinLimits.enter (h.of_axes fun _ => unpinChain_axis ..) (fun hc => absurd hc not_carries_disarmed))

/-! ### Dispositions and halts -/

theorem State.withinLimits.joinPending (h : s.withinLimits) : (s.joinPending x).withinLimits := h.of_eq

theorem State.withinLimits.settlePair (h : s.withinLimits) : (s.settlePair x).withinLimits := ite_kept h.of_eq h

theorem State.withinLimits.settleBy {d : Disposition} (h : s.withinLimits)
    (hfit : d = .pause → s.rehearses x = false → (s.axis x).fits) : (s.settleBy x d).withinLimits := by
  unfold State.settleBy
  extract_lets a p ending s1 s2
  have h1 : s1.withinLimits := by
    show State.withinLimits (match (generalizing := false) d with
      | .pause => s.enter x .paused
      | .abandon =>
        if ending && !a.cfg.repeats then s.disarm x false
        else s.enter x .armed fun a => { a with current := a.start.map .entry }
      | .disarm => s.disarm x false)
    cases d with
    | pause => exact h.enter fun hc => hfit rfl hc.real
    | abandon => exact ite_kept h.disarm h.enterArmed
    | disarm => exact h.disarm
  exact (ite_kept (P := State.withinLimits) (State.withinLimits.post h1.of_eq) h1).settlePair

theorem State.withinLimits.handDisposition {d : Disposition} (hd : d ≠ .pause) (h : s.withinLimits) :
    (s.handDisposition x d).withinLimits := by
  have settled : ∀ {v : State}, v.withinLimits → (v.settleBy x d).withinLimits := fun hv => hv.settleBy fun e => absurd e hd
  unfold State.handDisposition
  split
  case h_1 hs => exact h.enter fun hc => h.fits (hs ▸ carries_moving rfl hc)
  case h_2 => exact h.rewrite
  case h_3 => exact settled h.of_eq
  case h_4 => exact settled h
  case h_5 => exact settled h
  case h_6 => exact ite_kept h.disarm h
  case h_7 => exact h

theorem withinLimits_coreKept : CoreKept State.withinLimits :=
  ⟨fun hc h => h.core hc, fun hd h => h.handDisposition hd⟩

theorem State.withinLimits.endRun (h : s.withinLimits) : (s.endRun x).withinLimits :=
  ite_kept (h.handDisposition (by simp)).settlePair h

theorem State.withinLimits.halt {why : HaltCause} (h : s.withinLimits) : (s.halt x why).withinLimits := by
  unfold State.halt
  extract_lets a s1 src s2 s3
  have h1 : s1.withinLimits := h.of_eq
  have h3 : s3.withinLimits := (ite_kept (P := State.withinLimits) h1.rewrite h1).disarm.post
  refine ite_kept h ?_
  cases why
  · exact h3.settlePair
  · exact withinLimits_coreKept.raise h3.endRun
  · exact withinLimits_coreKept.raise h3.endRun

theorem State.withinLimits.seekMiss (h : s.withinLimits) : (s.seekMiss x).withinLimits := h.post.disarm.endRun.settlePair

/-! ### Completions -/

theorem State.withinLimits.stepCue (h : s.withinLimits) : (s.stepCue x).withinLimits := by
  unfold State.stepCue
  split
  · exact h
  · exact h.rewrite

theorem stepCue_travel : ((s.stepCue x).axis x).SameTravel (s.axis x) := by
  unfold State.stepCue
  split
  · exact .same
  · rw [State.putAxis_axis_self]
    exact .same

theorem State.withinLimits.completeEntry (h : s.withinLimits) : (s.completeEntry x).1.withinLimits := by
  unfold State.completeEntry
  dsimp only
  split
  · exact h.stepCue.post.enterArmed
  · exact h.stepCue

theorem State.withinLimits.completeStopping (h : s.withinLimits) (hfit : s.rehearses x = false → (s.axis x).fits) :
    (s.completeStopping x).withinLimits := by
  have hr : (s.stepCue x).rehearses x = s.rehearses x := rehearses_of_cfg stepCue_pairMove.cfg x
  unfold State.completeStopping
  extract_lets s1 s2
  have h2 : s2.withinLimits ∧ (s2.rehearses x = false → (s2.axis x).fits) :=
    ite_kept (P := fun v : State => v.withinLimits ∧ (v.rehearses x = false → (v.axis x).fits))
      ⟨h.stepCue.post, fun hv => by
        rw [post_rehearses, hr] at hv
        rw [State.post_axis]
        exact stepCue_travel.fits (hfit hv)⟩
      ⟨h.stepCue, fun hv => stepCue_travel.fits (hfit (hr ▸ hv))⟩
  exact h2.1.settleBy fun _ => h2.2

theorem State.withinLimits.settleChainEnd (h : s.withinLimits) : (s.settleChainEnd x).withinLimits :=
  ite_kept h.post.enterArmed h.post.disarm

theorem State.withinLimits.chainEnd (h : s.withinLimits) : (s.chainEnd x).withinLimits := by
  have hrestart : (s.restartLeader x).withinLimits :=
    State.withinLimits.enter h.of_eq (fun hc => absurd hc not_carries_dwelling) fun _ => .same
  exact ite_kept (ite_kept hrestart (State.withinLimits.handDisposition (by simp) h.settleChainEnd.of_eq).settlePair)
    h.settleChainEnd

/-! ### Loads -/

theorem State.withinLimits.takeVirtualHome {home : Int} (h : s.withinLimits) : (s.takeVirtualHome x home).withinLimits :=
  h.rewrite

theorem clamp_inside {c : AxisConfig} (h : c.softLow ≤ c.softHigh) (z : Int) : c.softLow ≤ c.clamp z ∧ c.clamp z ≤ c.softHigh := by
  unfold AxisConfig.clamp
  omega

theorem takeHome_axis_self {home : Int} : (s.takeHome x home).axis x =
    { s.axis x with remN := 0, position := (s.axis x).cfg.clamp home, valid := true } := by
  rw [State.takeHome, State.post_axis, State.putAxis_axis_self]

/-- A home lies within the limits, and leaves no steps (R79). -/
theorem State.withinLimits.takeHome {home : Int} (h : s.withinLimits) (hu : Steered x s u) :
    (u.takeHome x home).withinLimits ∧ ((u.takeHome x home).axis x).fits := by
  have ht : Steered x s (u.takeHome x home) := hu.trans (takeHome_steered x home)
  have hfit : ((u.takeHome x home).axis x).fits := by
    rw [takeHome_axis_self]
    exact Nat.zero_le _
  refine ⟨h.change (ht.cfg x) (fun _ hy => ht.axis_ne hy) ?_ fun _ => hfit, hfit⟩
  rw [takeHome_axis_self]
  exact clamp_inside (by rw [hu.cfg]; exact (h.inside x).1.trans (h.inside x).2) home

theorem setDir_travel : ((s.setDir x).axis x).SameTravel (s.axis x) := by
  unfold State.setDir
  dsimp only
  split
  · exact .same
  · rw [State.putAxis_axis_self]
    exact .same

theorem State.withinLimits.setDir (h : s.withinLimits) : (s.setDir x).withinLimits := ite_kept h h.rewrite

theorem State.withinLimits.enterRamp {new : AxisState} {p : Profile} (h : s.withinLimits)
    (hfit : s.carries x new → (s.axis x).fits) : (s.enter x new fun b => b.startRamp p).withinLimits :=
  h.enter hfit fun _ => .same

theorem State.withinLimits.enterTrip {p : Profile} (h : s.withinLimits) (hfit : s.carries x .running → (s.axis x).fits) :
    ((s.enter x .running fun b => b.startRamp p).halt x .endStop).withinLimits :=
  State.withinLimits.halt (h.enterRamp hfit)

/-- What follows once a segment is set up that fits. -/
theorem State.withinLimits.motionOutcome {p : Profile} {home : Option Int} (h : s.withinLimits)
    (hfit : s.rehearses x = false → (s.axis x).fits) : (s.motionOutcome x p home).1.withinLimits := by
  have hd : (s.setDir x).withinLimits := h.setDir
  have hr : (s.setDir x).rehearses x = s.rehearses x := rehearses_of_cfg (setDir_steered x).cfg x
  have hdfit : ∀ {st : AxisState}, (s.setDir x).carries x st → ((s.setDir x).axis x).fits := fun hc =>
    setDir_travel.fits (hfit (hr ▸ hc.real))
  have hrun : ((s.setDir x).enter x .running fun b => b.startRamp p).withinLimits := hd.enterRamp hdfit
  by_cases hn : (s.axis x).segN = 0
  · cases home with
    | none => exact motionOutcome_done hn ▸ h
    | some v =>
      cases hv : s.rehearses x with
      | true => exact motionOutcome_virtualHome hn hv ▸ h.takeVirtualHome
      | false => exact motionOutcome_miss hn hv ▸ h.seekMiss
  · by_cases hm : s.demanded x
    · cases hv : s.rehearses x with
      | true => exact motionOutcome_rehearses hn hv ▸ hrun
      | false =>
        cases hc : s.holdsRunCurrent x with
        | false =>
          rw [motionOutcome_waits hn hm hc hv]
          exact (hd.enterRamp hdfit).joinPending
        | true =>
          by_cases ht : (s.axis x).seek ≠ none ∨ (s.axis x).trippedAhead = false
          · exact motionOutcome_runs hn hm hc (.inr ht) ▸ hrun
          · obtain ⟨hs, hahead⟩ := not_or.mp ht
            rw [motionOutcome_trips hn hm hc hv (not_not.mp hs) (by simpa using hahead)]
            exact hd.enterTrip hdfit
    · rw [motionOutcome_pauses hn (not_demanded hm).1 (not_demanded hm).2]
      exact hd.enter hdfit

theorem setSegment_fits {travel : Int} {named : Option StopSide} (hr : s.rehearses x = false) :
    ((s.setSegment x travel named).axis x).fits := by
  have hn : s.clampedSteps x travel ≤ (s.axis x).cfg.room (s.axis x).position (headingOf travel (s.axis x).dir) :=
    countedPosition_real hr ▸ Nat.min_le_right ..
  rw [setSegment_axis_self]
  exact hn

theorem State.withinLimits.setSegment {travel : Int} {named : Option StopSide} (h : s.withinLimits) :
    (s.setSegment x travel named).withinLimits :=
  State.withinLimits.change h (x := x) (setSegment_steered.cfg x) (fun _ => setSegment_axis_ne)
    (by rw [setSegment_axis_self]; exact h.inside x) fun hc => setSegment_fits hc.real

/-- The clamped segment of a load fits (R64). -/
theorem State.withinLimits.loadMotion {travel : Int} {p : Profile} {seek : Option (StopSide × Int)} (h : s.withinLimits) :
    (s.loadMotion x travel p seek).1.withinLimits := by
  have hr : ∀ named, (s.setSegment x travel named).rehearses x = s.rehearses x := fun named =>
    rehearses_of_cfg setSegment_steered.cfg x
  cases seek with
  | none =>
    rw [loadMotion_free]
    split
    · refine h.setSegment.post.motionOutcome fun hv => ?_
      rw [post_rehearses, hr] at hv
      rw [State.post_axis]
      exact setSegment_fits hv
    · exact h.setSegment.motionOutcome fun hv => setSegment_fits (hr none ▸ hv)
  | some named =>
    obtain ⟨side, home⟩ := named
    by_cases hs : s.rehearses x = true ∨ (s.axis x).stopLevel side ≠ some true
    · rw [loadMotion_seek hs]
      exact h.setSegment.motionOutcome fun hv => setSegment_fits (hr _ ▸ hv)
    · obtain ⟨hv, hl⟩ := not_or.mp hs
      rw [loadMotion_home (by simpa using hv) (not_not.mp hl)]
      exact (h.takeHome (.of_putAxis .same)).1

theorem State.withinLimits.enterDwell {ms : Nat} (h : s.withinLimits) :
    (s.enter x .dwelling fun a => { a with dwell := ms, restartWait := false }).withinLimits :=
  h.enter fun hc => absurd hc not_carries_dwelling

theorem State.withinLimits.loadOne (h : s.withinLimits) : (s.loadOne x).1.withinLimits := by
  unfold State.loadOne
  split
  · exact h
  · exact h.chainEnd
  · split
    · exact h
    · exact h.loadMotion
    · exact h.loadMotion
    · exact h.enterDwell
    · exact ite_kept (P := State.withinLimits) h h.of_eq
    · exact h.post

theorem State.withinLimits.loadEntries :
    ∀ (fuel : Nat) {s : State}, s.withinLimits → (State.loadEntries x fuel s).withinLimits
  | 0, _, h => h
  | fuel + 1, s, h => by
    unfold State.loadEntries
    dsimp only
    exact ite_kept (ite_kept (State.withinLimits.loadEntries fuel h.loadOne.completeEntry) h.loadOne.completeEntry) h.loadOne

theorem State.withinLimits.load (h : s.withinLimits) : (s.load x).withinLimits := h.loadEntries _

theorem State.withinLimits.completeAndGoOn (h : s.withinLimits) : (s.completeAndGoOn x).withinLimits :=
  ite_kept h.completeEntry.load h.completeEntry

theorem State.withinLimits.goOn {c : Prop} [Decidable c] (h : s.withinLimits)
    (hfit : s.rehearses x = false → (s.axis x).fits) :
    (if c then s.completeStopping x else s.completeAndGoOn x).withinLimits :=
  ite_kept (h.completeStopping hfit) h.completeAndGoOn

/-! ### The events of an axis -/

theorem State.withinLimits.countReached (h : s.withinLimits) (hfit : s.rehearses x = false → (s.axis x).fits) :
    (s.countReached x).withinLimits := by
  have hvirtual : ∀ v, (s.takeVirtualHome x v).rehearses x = false → ((s.takeVirtualHome x v).axis x).fits := fun v hr => by
    rw [rehearses_of_cfg (takeVirtualHome_steered x v).cfg] at hr
    rw [State.takeVirtualHome, State.putAxis_axis_self]
    exact hfit hr
  exact ite_kept (h.goOn hfit) (ite_kept (h.takeVirtualHome.goOn (hvirtual _)) h.seekMiss)

theorem rampStep_keeps (a : Axis) (p : Profile) (rehearses : Bool) :
    (a.rampStep p rehearses).cfg = a.cfg ∧ (a.rampStep p rehearses).state = a.state := ⟨rfl, rfl⟩

/-- A tick moves a real axis by steps of a segment that fits, and a REHEARSE axis's position not at all (R83, R90). -/
theorem State.withinLimits.rampTick (h : s.withinLimits) : (s.rampTick x).withinLimits := by
  unfold State.rampTick
  split
  · rename_i hm
    split
    · exact h
    · rename_i p _
      extract_lets a s1
      obtain ⟨hcfg, hstate⟩ := rampStep_keeps (s.axis x) p (s.rehearses x)
      have real : s.rehearses x = false → a.inside ∧ a.fits := fun hr => by
        have hfit : (s.axis x).fits := h.fits ⟨hr, by rcases moving_iff.mp hm with e | e <;> simp [e]⟩
        show ((s.axis x).rampStep p (s.rehearses x)).inside ∧ ((s.axis x).rampStep p (s.rehearses x)).fits
        rw [hr]
        exact rampStep_inside (h.inside x) hfit
      have hin : a.inside := by
        cases hr : s.rehearses x with
        | false => exact (real hr).1
        | true =>
          show ((s.axis x).rampStep p (s.rehearses x)).inside
          rw [hr]
          exact h.inside x
      have h1 : s1.withinLimits := h.putAxis hin (fun hc => (real hc.real).2) hcfg
      have hfit1 : s1.rehearses x = false → (s1.axis x).fits := fun hr => by
        rw [State.putAxis_axis_self]
        refine (real ?_).2
        rwa [rehearses_of_cfg fun y => ?_] at hr
        by_cases hy : x = y
        · rw [← hy, State.putAxis_axis_self, hcfg]
        · rw [State.putAxis_axis_ne _ hy]
      exact ite_kept (h1.countReached hfit1) (ite_kept (h1.settleBy fun _ => hfit1) h1)
  · exact h

theorem State.withinLimits.dwellExpiry (h : s.withinLimits) : (s.dwellExpiry x).withinLimits := by
  unfold State.dwellExpiry
  extract_lets a s1
  have h1 : s1.withinLimits := h.rewrite
  exact ite_kept (ite_kept h1.load h1.completeAndGoOn) h

theorem State.withinLimits.tripped {side : StopSide} (h : s.withinLimits) : (s.tripped x side).withinLimits :=
  ite_kept ((h.takeHome (.of_core .same)).1.goOn fun _ => (h.takeHome (.of_core .same)).2) h.halt

theorem withStopLevel_travel (a : Axis) (side : StopSide) (level : Bool) : (a.withStopLevel side level).SameTravel a := by
  cases side <;> exact .same

theorem withSample_travel (a : Axis) (side : StopSide) (level : Bool) : (a.withSample side level).SameTravel a := by
  cases side <;> exact .same

theorem State.withinLimits.endStopChange {side : StopSide} {level : Bool} (h : s.withinLimits) :
    (s.endStopChange x side level).withinLimits := by
  unfold State.endStopChange
  extract_lets a s1
  have h1 : s1.withinLimits := h.rewrite (withStopLevel_travel ..) (withStopLevel_sameRole ..).state
  exact ite_kept h (ite_kept h1.tripped h1)

/-- A demand drop takes a PENDING axis to PAUSED: a DEMAND axis is unpaired, so its segment was set up. -/
theorem State.withinLimits.demandChange {asserted : Bool} (h : s.withinLimits)
    (hmode : s.paired x = true → s.mode x ≠ .demand) : (s.demandChange x asserted).withinLimits := by
  have hdrop : s.mode x = .demand → (s.demandDrop x).withinLimits := fun hm => by
    unfold State.demandDrop
    split
    · rename_i hs
      exact h.enter fun hc => h.fits (hs ▸ carries_moving rfl hc)
    · rename_i hs
      have hp : s.paired x = false := Bool.eq_false_iff.mpr fun hp => hmode hp hm
      exact State.withinLimits.enter (s := s.withdraw x) h.of_eq fun hc =>
        h.fits (hs ▸ ⟨hc.real, .inr (.inr (.inr ⟨rfl, hp⟩))⟩)
    · exact h
  have hreturn : (s.demandReturn x).withinLimits := by
    unfold State.demandReturn
    dsimp only
    split
    · rename_i hs
      refine ite_kept h.load ?_
      split
      · exact h
      · exact (h.enterRamp fun hc => h.fits ⟨hc.real, .inr (.inr (.inl hs))⟩).joinPending
    · rename_i hs
      exact ite_kept (h.enter fun hc => h.fits (hs ▸ carries_moving rfl hc)) h
    · exact h
  unfold State.demandChange
  split
  · rename_i hm
    exact ite_kept hreturn (hdrop hm)
  · exact h

/-! ### Triggers and grants -/

theorem State.withinLimits.loadMember {st : AxisState} (h : s.withinLimits) : (s.loadMember x st).withinLimits :=
  ite_kept h.load h

theorem State.withinLimits.startRehearsal (h : s.withinLimits) : (s.startRehearsal x).withinLimits := h.rewrite

/-- The members of a pair wait with no segment of their own. -/
theorem State.withinLimits.enterPairPending (h : s.withinLimits) (hp : s.paired x = true) : (s.enter x .pending).withinLimits :=
  h.enter fun hc => by simp [State.carries, hp] at hc

theorem State.withinLimits.triggerPair (h : s.withinLimits) (hp : s.paired x = true) : (s.triggerPair x).withinLimits := by
  unfold State.triggerPair
  extract_lets l f s0
  have h0 : s0.withinLimits := h.of_eq
  have hl : s0.paired l = true := (paired_of_leaderOf_eq (s := s) (leaderOf_leaderOf x)).trans hp
  have hf : (s0.enter l .pending).paired f = true :=
    (paired_of_cfg (enter_pairMove (x := l)).cfg f).trans ((paired_of_leaderOf_eq (s := s) (leaderOf_followerOf x)).trans hp)
  exact ite_kept h0.startRehearsal.startRehearsal.loadMember.loadMember
    ((h0.enterPairPending hl).enterPairPending hf).joinPending

theorem State.withinLimits.trigger (h : s.withinLimits) : (s.trigger x).withinLimits := by
  unfold State.trigger
  refine ite_kept ?_ h
  split
  · rename_i hp
    exact h.triggerPair hp
  · exact ite_kept h.startRehearsal.load h.load

/-- A grant takes to RUNNING an unpaired PENDING axis, whose segment fits. -/
theorem State.withinLimits.grant {e : PendingEntry} (h : s.withinLimits)
    (he : e.pair = s.paired e.axis ∧ (s.axis e.axis).state = .pending) : (s.grant e).withinLimits := by
  obtain ⟨hp, hs⟩ := he
  unfold State.grant
  extract_lets arbiter s1
  have h1 : s1.withinLimits := h.of_eq
  split
  · exact h1.of_eq
  · rename_i hpair
    have hp : s.paired e.axis = false := by rw [← hp]; simpa using hpair
    exact h1.enter (fun hc => h.fits (hs ▸ ⟨hc.real, .inr (.inr (.inr ⟨rfl, hp⟩))⟩)) fun _ => .same

theorem State.withinLimits.afterGrant {e : PendingEntry} (h : s.withinLimits) : (s.afterGrant e).withinLimits :=
  ite_kept h.loadMember.loadMember.settlePair (ite_kept h.tripped h)

/-! ### The requests and the starts -/

/-- An armed axis has no segment. -/
theorem State.withinLimits.armMember {start : CueId} {chain : List CueId} (h : s.withinLimits) :
    (s.armMember x start chain).withinLimits := by
  refine h.change (x := x) armMember_onlyAxis.cfg armMember_onlyAxis.other ?_ fun hc => ?_
  · rw [State.armMember, enter_axis_self, pinChain_axis]
    exact h.inside x
  · rw [State.armMember, enter_axis_self] at hc
    exact absurd hc not_carries_armed

theorem State.withinLimits.armChecks {i : CueId} {j : Option CueId} (h : s.withinLimits) : (s.armChecks x i j).1.withinLimits :=
  armChecks_kept_by h (fun _ _ _ _ => ite_kept (State.withinLimits.of_eq h.armMember) h.armMember)
    fun _ _ _ _ _ _ _ _ => ite_kept (State.withinLimits.of_eq h.armMember.armMember) h.armMember.armMember

theorem reconfigure_travel (a : Axis) (c : AxisConfig) :
    (a.reconfigure c).position = a.position ∧ (a.reconfigure c).remN = a.remN ∧ (a.reconfigure c).dir = a.dir := by
  unfold Axis.reconfigure
  dsimp only
  split <;> exact ⟨rfl, rfl, rfl⟩

/-- SET_AXIS moves no axis, and leaves every configuration but the one that it writes. -/
theorem configureAxis_travel {c : AxisConfig} (hne : x ≠ y) : ((s.configureAxis x c).axis y).SameTravel (s.axis y) := by
  unfold State.configureAxis
  dsimp only
  split
  · unfold State.dissolve
    by_cases hy : followerOf x = y
    · subst hy
      simp only [State.putAxis_axis_self, State.putAxis_axis_ne _ hne]
      exact .same
    · dsimp only
      rw [State.putAxis_axis_ne _ hy, State.putPair_axis, State.putAxis_axis_ne _ hne]
      exact .same
  · rw [State.putAxis_axis_ne _ hne]
    exact .same

theorem configureAxis_position {c : AxisConfig} : ((s.configureAxis x c).axis x).position = (s.axis x).position := by
  obtain ⟨hpos, -⟩ := reconfigure_travel (s.axis x) c
  unfold State.configureAxis
  dsimp only
  split
  · unfold State.dissolve
    by_cases hx : followerOf x = x
    · simp only [hx, State.putAxis_axis_self, hpos]
    · dsimp only
      rw [State.putAxis_axis_ne _ hx, State.putPair_axis, State.putAxis_axis_self, hpos]
  · rw [State.putAxis_axis_self, hpos]

theorem configFits_inside {c : AxisConfig} (h : s.configFits x c = true) :
    c.softLow ≤ (s.axis x).position ∧ (s.axis x).position ≤ c.softHigh := by
  simp only [State.configFits, Bool.and_eq_true, decide_eq_true_eq] at h
  exact h.1

theorem configBusy_follower {c : AxisConfig} (h : s.configBusy x c = false) (hl : isLeader x = true) (hp : s.paired x = true)
    (hc : c.pair = false) : s.isActive (followerOf x) = false := by
  simpa [State.configBusy, hp, hl, hc] using ((Bool.or_eq_false_iff.mp h).2 : _)

/-- SET_AXIS changes the mode of no axis that carries a segment: a leader takes an active follower into its pair nowhere, nor out of it. -/
theorem configureAxis_carries {c : AxisConfig} (hbusy : s.configBusy x c = false) (hne : x ≠ y)
    (h : (s.configureAxis x c).carries y (s.axis y).state) : s.carries y (s.axis y).state := by
  have hmode : ∀ z, ((s.configureAxis x c).axis z).cfg = (if x = z then c else (s.axis z).cfg) := fun z => (configureAxis_axis z).1
  by_cases hx : x = leaderOf y
  · obtain ⟨hfol, hy⟩ := member_of_ne hx.symm hne
    have hl : isLeader x = true := hx ▸ isLeader_leaderOf y
    cases hc : c.pair with
    | true =>
      have hd := (configBusy_false hbusy).2 hc
      rw [hy] at hd
      rw [hd] at h
      exact absurd h not_carries_disarmed
    | false =>
      have hpaired' : (s.configureAxis x c).paired y = false := by rw [configureAxis_paired, if_pos hx, hc]
      cases hp : s.paired y with
      | true =>
        have ha := configBusy_follower hbusy hl (paired_of_leaderOf_eq (by rw [hx, leaderOf_leaderOf]) |>.trans hp) hc
        rw [hy] at ha
        obtain ⟨-, hs | hs | hs | ⟨hs, -⟩⟩ := h <;> rw [State.isActive, hs] at ha <;> cases ha
      | false =>
        simp only [State.carries, State.rehearses, mode_solo hpaired', mode_solo hp, hpaired', hp, hmode, if_neg hne] at h ⊢
        exact h
  · have hpaired' : (s.configureAxis x c).paired y = s.paired y := by rw [configureAxis_paired, if_neg hx]
    simp only [State.carries, State.rehearses, State.mode, hpaired', hmode, if_neg hne, if_neg hx] at h
    exact h

theorem State.withinLimits.configureAxis {c : AxisConfig} (h : s.withinLimits) (hfit : s.configFits x c = true)
    (hbusy : s.configBusy x c = false) : (s.configureAxis x c).withinLimits := by
  refine withinLimits_iff.mpr fun y => ?_
  rw [(configureAxis_axis y).2]
  by_cases hy : x = y
  · subst hy
    refine ⟨?_, fun hc => ?_⟩
    · rw [Axis.inside, (configureAxis_axis _).1, if_pos rfl, configureAxis_position]
      exact configFits_inside hfit
    · rw [(configBusy_false hbusy).1] at hc
      exact absurd hc not_carries_disarmed
  · exact ⟨(configureAxis_travel hy).inside (h.inside y), fun hc =>
      (configureAxis_travel hy).fits (h.fits (configureAxis_carries hbusy hy hc))⟩

theorem Axis.count_travel (a : Axis) (rehearses : Bool) : (a.count rehearses).SameTravel a := .same

theorem State.withinLimits.countBlocks (h : s.withinLimits) : s.countBlocks.withinLimits := by
  have hcfg : ∀ y, (s.countBlocks.axis y).cfg = (s.axis y).cfg := countBlocks_stands.cfg
  refine withinLimits_iff.mpr fun y => ?_
  rw [countBlocks_axis]
  refine ⟨(Axis.count_travel ..).inside (h.inside y), fun hc => (Axis.count_travel ..).fits (h.fits ?_)⟩
  rwa [State.carries, rehearses_of_cfg hcfg, paired_of_cfg hcfg, (Axis.count_sameRole ..).state] at hc

/-- A part with fresh axes. -/
theorem withinLimits_of_reset (ha : ∀ y, s.axis y = Axis.reset) : s.withinLimits := fun y => by
  rw [ha]
  refine ⟨by decide, by decide, fun _ h => ?_⟩
  rcases h with h | h | h | ⟨h, -⟩ <;> cases h

/-- The soft limits, with what keeps a grant from reaching an axis that has no segment. -/
def State.limitSafe (s : State) : Prop := s.guardSafe ∧ s.withinLimits

theorem limitSafe_axesKept : AxesKept State.limitSafe where
  core hc h := ⟨guardSafe_axesKept.core hc h.1, h.2.core hc⟩
  hand hd h := ⟨guardSafe_axesKept.hand hd h.1, h.2.handDisposition hd⟩
  halt h := ⟨guardSafe_axesKept.halt h.1, h.2.halt⟩
  trigger hr h := ⟨guardSafe_axesKept.trigger hr h.1, h.2.trigger⟩
  demandChange h := ⟨guardSafe_axesKept.demandChange h.1, h.2.demandChange (h.1.modes _)⟩
  rampTick h := ⟨guardSafe_axesKept.rampTick h.1, h.2.rampTick⟩
  dwellExpiry h := ⟨guardSafe_axesKept.dwellExpiry h.1, h.2.dwellExpiry⟩
  endStopChange h := ⟨guardSafe_axesKept.endStopChange h.1, h.2.endStopChange⟩
  compareJam h := ⟨guardSafe_axesKept.compareJam h.1, h.2.rewrite⟩
  withSample h := ⟨guardSafe_axesKept.withSample h.1, h.2.rewrite (withSample_travel ..) (withSample_sameRole ..).state⟩
  dwellCount h := ⟨guardSafe_axesKept.dwellCount h.1, h.2.rewrite⟩
  hostDemand h := ⟨guardSafe_axesKept.hostDemand h.1, h.2.rewrite⟩
  setPosition hl hh hs h :=
    ⟨guardSafe_axesKept.setPosition hl hh hs h.1, h.2.putAxis ⟨hl, hh⟩ fun hc => by
      rcases hs with hs | hs
      · exact absurd (hs ▸ hc) not_carries_disarmed
      · exact absurd (hs ▸ hc) not_carries_armed⟩
  count h := ⟨guardSafe_axesKept.count h.1, h.2.countBlocks⟩
  grant hw hf h := ⟨guardSafe_axesKept.grant hw hf h.1, h.2.grant ⟨(h.1.waiting _ hw).1, (h.1.waiting _ hw).2.2⟩⟩
  afterGrant h := ⟨guardSafe_axesKept.afterGrant h.1, h.2.afterGrant⟩
  sortJoined h := ⟨guardSafe_axesKept.sortJoined h.1, h.2.of_eq⟩
  markWaiting f hf h := ⟨guardSafe_axesKept.markWaiting f hf h.1, h.2.of_eq⟩
  budget b p w hb h := ⟨guardSafe_axesKept.budget b p w hb h.1, h.2.of_eq⟩
  configure hfit hbusy h := ⟨guardSafe_axesKept.configure hfit hbusy h.1, h.2.configureAxis hfit hbusy⟩
  arm hb hs h := ⟨guardSafe_axesKept.arm hb hs h.1, h.2.armChecks⟩
  writeCue hs he h := ⟨guardSafe_axesKept.writeCue hs he h.1, h.2.of_eq⟩
  scanOff hg h := ⟨guardSafe_axesKept.scanOff hg h.1, h.2.of_eq⟩
  cold pins waiting := ⟨guardSafe_axesKept.cold pins waiting, withinLimits_of_reset (cold_axis pins waiting)⟩
  warm h := ⟨guardSafe_axesKept.warm h.1, withinLimits_of_reset warmRestart_axis⟩

end

/-- Settles O11: a segment is set up within the limits and used up by what moves, and an axis moves on no other. -/
theorem stepKeepsSoftLimits : Obligations.StepKeepsSoftLimits := fun _ _ h ht =>
  (limitSafe_axesKept.step ⟨guardSafe_of_coherent h, h.2.2.2.2.2⟩ ht).2

end Sys2Proof.Machine
end

section
/-! PROOFS. The event lines of the axes under a change of state, which reports to a station and to the scanner alone (R59); and the load of a MOVE
that waits for its grant. -/

namespace Sys2Proof.Machine

section
variable {s t u : State} {x y : AxisId} {st : StationId}

/-! ### The lines of the axes (Table 10-1) -/

theorem axisLine_ne_stationLine : stationLine st ≠ axisLine x := by
  simp only [axisLine, stationLine, ne_eq, Fin.mk.injEq]
  omega

theorem axisLine_ne_scannerLine : scannerLine ≠ axisLine x := by
  revert x
  decide

theorem axisLine_injective (h : axisLine x = axisLine y) : x = y := by
  simp only [axisLine, Fin.mk.injEq] at h
  exact Fin.ext (by omega)

/-- A cause arrives on its own line (R170). -/
theorem post_line_ne {l m : LineId} {c : Cause} {d : Details → Details} (h : l ≠ m) : (s.post l c d).line m = s.line m := by
  have arrived : ∀ r, (s.putLine l r).line m = s.line m := fun r => State.putLine_line_ne s h r
  unfold State.post
  dsimp only
  split
  · split
    · exact arrived _
    · exact arrived _
  · rfl

theorem restStation_axisLine : (s.restStation st).line (axisLine x) = s.line (axisLine x) := by
  unfold State.restStation
  dsimp only
  split <;> exact post_line_ne axisLine_ne_stationLine

theorem testActivity_axisLine : (s.testActivity st).line (axisLine x) = s.line (axisLine x) := by
  unfold State.testActivity
  split
  · exact restStation_axisLine
  · rfl

theorem scanTrigger_axisLine {src : ScanSource} : (s.scanTrigger src).line (axisLine x) = s.line (axisLine x) := by
  unfold State.scanTrigger
  split
  · split
    · rfl
    · rfl
    · split
      · exact post_line_ne axisLine_ne_scannerLine
      · rfl
  · rfl

theorem reportState_axisLine {old new : AxisState} : (s.reportState y old new).line (axisLine x) = s.line (axisLine x) := by
  unfold State.reportState
  split
  · rfl
  · dsimp only
    split
    · rw [testActivity_axisLine]
      split <;> rfl
    · split <;> rfl

@[simp] theorem enter_axisLine {new : AxisState} {f : Axis → Axis} :
    (s.enter y new f).line (axisLine x) = s.line (axisLine x) := by
  unfold State.enter
  dsimp only
  split
  · rw [scanTrigger_axisLine, reportState_axisLine, State.putAxis_line]
  · rw [reportState_axisLine, State.putAxis_line]

@[simp] theorem disarm_axisLine {keep : Bool} : (s.disarm y keep).line (axisLine x) = s.line (axisLine x) := by
  unfold State.disarm
  split
  · rfl
  · rw [enter_axisLine, unpinChain_only]
    rfl

/-- An axis that stays or becomes active ends no show, so it posts nothing, but for the motion that it reports to the scanner. -/
theorem enter_lines {new : AxisState} {f : Axis → Axis} (hn : new.active = true)
    (hm : (s.axis x).state = .pending → new = .running → s.rehearses x = true) : (s.enter x new f).lines = s.lines := by
  have report : ∀ old, (s.reportState x old new).lines = s.lines ∧
      ∀ v, ((s.putAxis x v).reportState x old new).lines = s.lines := by
    have any : ∀ (v : State) old, (v.reportState x old new).lines = v.lines := fun v old => by
      unfold State.reportState
      split
      · rfl
      · simp only [hn, Bool.not_true, Bool.and_false, Bool.false_eq_true, if_false]
        split <;> rfl
    exact fun old => ⟨any s old, fun v => any (s.putAxis x v) old⟩
  unfold State.enter
  dsimp only
  rw [if_neg fun ⟨hp, hr, hv⟩ => by simp [hm hp hr] at hv]
  exact (report _).2 _

/-! ### DIR at a load (R58) -/

/-- An axis with the DIR level of its loaded segment; a REHEARSE axis keeps its level. -/
def Axis.directed (a : Axis) (rehearses : Bool) : Axis :=
  { a with dirLevel := if rehearses then a.dirLevel else (a.dir = .up : Bool) != a.cfg.invert }

theorem setDir_eq : s.setDir x = s.putAxis x ((s.axis x).directed (s.rehearses x)) := by
  unfold State.setDir Axis.directed
  dsimp only
  split
  · exact (State.putAxis_self ..).symm
  · rfl

theorem setDir_axis_self : (s.setDir x).axis x = (s.axis x).directed (s.rehearses x) := by
  rw [setDir_eq, State.putAxis_axis_self]

/-! ### The part before the outcome of a load -/

/-- The part with its segment set up, and SOFT_LIMIT posted where the limit cuts a segment without a seek (R64). -/
def State.segmentReady (s : State) (x : AxisId) (travel : Int) (named : Option StopSide) : State :=
  if named = none ∧ s.clampedSteps x travel < travel.natAbs then (s.setSegment x travel named).post (axisLine x) .softLimit
  else s.setSegment x travel named

/-- The load looks at no TRIPPED stop. -/
def State.noHome (s : State) (x : AxisId) (seek : Option (StopSide × Int)) : Prop :=
  ∀ side home, seek = some (side, home) → s.rehearses x = true ∨ (s.axis x).stopLevel side ≠ some true

section
variable {travel : Int} {p : Profile} {seek : Option (StopSide × Int)} {named : Option StopSide}

/-- Every load of a motion that is not at home at once is the outcome of its segment. -/
theorem loadMotion_eq (h : s.noHome x seek) : s.loadMotion x travel p seek =
    (s.segmentReady x travel (seek.map (·.1))).motionOutcome x p (seek.map (·.2)) := by
  cases seek with
  | none =>
    rw [loadMotion_free]
    simp only [State.segmentReady, Option.map_none, true_and]
  | some sh =>
    obtain ⟨side, home⟩ := sh
    rw [loadMotion_seek (h side home rfl)]
    simp only [State.segmentReady, Option.map_some, reduceCtorEq, false_and, if_false]

theorem segmentReady_sameBut : SameBut (s.setSegment x travel named) (s.segmentReady x travel named) := by
  unfold State.segmentReady
  split
  · exact post_sameBut ..
  · exact .rfl

theorem segmentReady_steered : Steered x s (s.segmentReady x travel named) := by
  unfold State.segmentReady
  split
  · exact setSegment_steered.post
  · exact setSegment_steered

theorem segmentReady_axis_self : (s.segmentReady x travel named).axis x =
    (s.axis x).withSegment (headingOf travel (s.axis x).dir) named (s.clampedSteps x travel) := by
  rw [segmentReady_sameBut.axis, setSegment_axis_self]

theorem segmentReady_segN : ((s.segmentReady x travel named).axis x).segN = s.clampedSteps x travel := by
  rw [segmentReady_axis_self]
  rfl

theorem segmentReady_seek : ((s.segmentReady x travel named).axis x).seek = named := by
  rw [segmentReady_axis_self]
  rfl

theorem segmentReady_tripped : ((s.segmentReady x travel named).axis x).trippedAhead =
    decide ((s.axis x).stopLevel (headingOf travel (s.axis x).dir).stop = some true) := by
  rw [segmentReady_axis_self]
  cases hd : (headingOf travel (s.axis x).dir).stop <;> simp only [Axis.trippedAhead, Axis.withSegment, hd] <;> rfl

theorem segmentReady_arbiter : (s.segmentReady x travel named).arbiter = s.arbiter := segmentReady_sameBut.arbiter

theorem segmentReady_rehearses : (s.segmentReady x travel named).rehearses x = s.rehearses x :=
  rehearses_of_cfg segmentReady_steered.cfg x

theorem segmentReady_paired : (s.segmentReady x travel named).paired x = s.paired x :=
  paired_of_cfg segmentReady_steered.cfg x

theorem segmentReady_mode : (s.segmentReady x travel named).mode x = s.mode x := mode_of_cfg segmentReady_steered.cfg x

theorem segmentReady_demandFlag : (s.segmentReady x travel named).demandFlag x = s.demandFlag x :=
  demandFlag_of_eq (by rw [segmentReady_axis_self]; rfl) (segmentReady_steered.cfg x) segmentReady_sameBut.buttons

theorem segmentReady_demanded (h : s.demanded x) : (s.segmentReady x travel named).demanded x := fun hm => by
  rw [segmentReady_demandFlag]
  exact h (segmentReady_mode ▸ hm)

/-- A segment that is not cut posts nothing, nor does that of a seek. -/
theorem segmentReady_lines (h : named ≠ none ∨ travel.natAbs ≤ s.clampedSteps x travel) :
    (s.segmentReady x travel named).lines = s.lines := by
  unfold State.segmentReady
  rw [if_neg fun ⟨hn, hc⟩ => by rcases h with h | h; exacts [h hn, Nat.not_lt.mpr h hc]]
  rfl

/-- What an axis takes when it runs on a new segment, or waits for it. -/
theorem enterRamp_axis_self {new : AxisState} : ((s.setDir x).enter x new fun b => b.startRamp p).axis x =
    (((s.axis x).directed (s.rehearses x)).startRamp p).settled new := by
  rw [enter_axis_self, setDir_axis_self]

theorem enterRamp_axisLine {new : AxisState} :
    ((s.setDir x).enter x new fun b => b.startRamp p).line (axisLine y) = s.line (axisLine y) := by
  rw [enter_axisLine, setDir_eq, State.putAxis_line]

theorem enterRamp_paired {new : AxisState} : ((s.setDir x).enter x new fun b => b.startRamp p).paired x = s.paired x := by
  have hf : ∀ a : Axis, (a.startRamp p).cfg = a.cfg := fun _ => rfl
  rw [enter_paired hf, paired_of_cfg (setDir_steered x).cfg]

theorem enterRamp_arbiter {new : AxisState} : ((s.setDir x).enter x new fun b => b.startRamp p).arbiter = s.arbiter := by
  rw [enter_arbiter, setDir_eq]
  rfl

end

/-! ### A seek miss of an unpaired axis (R81) -/

theorem seekMiss_solo (h : s.paired x = false) : s.seekMiss x = (s.post (axisLine x) .seekMiss).disarm x true := by
  have hp : ((s.post (axisLine x) .seekMiss).disarm x true).paired x = false := by
    rw [disarm_paired, State.paired, State.post_axis]
    exact h
  unfold State.seekMiss
  rw [endRun_solo hp, settlePair_solo hp]

/-- A disarming rewrites nothing of an axis's motion but its rate. -/
theorem disarm_segment {keep : Bool} :
    ((s.disarm x keep).axis x).segN = (s.axis x).segN ∧ ((s.disarm x keep).axis x).remN = (s.axis x).remN ∧
      ((s.disarm x keep).axis x).dir = (s.axis x).dir ∧ ((s.disarm x keep).axis x).seek = (s.axis x).seek ∧
      ((s.disarm x keep).axis x).position = (s.axis x).position := by
  by_cases h : (s.axis x).state = .disarmed
  · rw [disarm_of_disarmed h]
    exact ⟨rfl, rfl, rfl, rfl, rfl⟩
  · rw [disarm_axis_self h]
    exact ⟨rfl, rfl, rfl, rfl, rfl⟩

end

/-- Settles O31: the outcome of a segment on an axis that holds no run current. -/
theorem loadedMoveWaitsForItsGrant : Obligations.LoadedMoveWaitsForItsGrant := by
  intro x steps p seek s solo hr hd hs hstop a dir n r b
  have noHome : s.noHome x seek := fun side home e => .inr (hstop side home e)
  have hsteps : n = s.clampedSteps x steps := by
    simp only [State.clampedSteps, countedPosition_real hr]
    rfl
  generalize hu : s.segmentReady x steps (seek.map (·.1)) = u
  have hreq : r = u.motionOutcome x p (seek.map (·.2)) := (loadMotion_eq noHome).trans (by rw [hu])
  clear_value r
  have hseg : u.axis x = a.withSegment dir (seek.map (·.1)) n := by
    rw [← hu, segmentReady_axis_self, hsteps]
    rfl
  have hn : (u.axis x).segN = n := congrArg Axis.segN hseg
  have harb : u.arbiter = s.arbiter := hu ▸ segmentReady_arbiter
  have usolo : u.paired x = false := hu ▸ segmentReady_paired.trans solo
  have ur : u.rehearses x = false := hu ▸ segmentReady_rehearses.trans hr
  have ud : u.demanded x := hu ▸ segmentReady_demanded hd
  have uidle : u.holdsRunCurrent x = false := by
    rw [holdsRunCurrent_solo usolo, hseg]
    exact decide_eq_false hs
  by_cases h0 : n = 0
  · have stands : ∀ c : Axis, c.segN = (u.axis x).segN ∧ c.remN = (u.axis x).remN ∧ c.dir = (u.axis x).dir ∧
        c.seek = (u.axis x).seek ∧ c.position = (u.axis x).position →
        c.segN = n ∧ c.remN = n ∧ c.dir = dir ∧ c.seek = seek.map (·.1) ∧ c.position = a.position := fun c hc => by
      rw [hseg] at hc
      exact hc
    cases seek with
    | none =>
      rw [Option.map_none, motionOutcome_done (hn.trans h0)] at hreq
      have hb : b = u.axis x := congrArg (fun q : State × Bool => q.1.axis x) hreq
      have hlast : r.2 = true ∧ b.state = a.state ∧ r.1.arbiter = s.arbiter :=
        ⟨by rw [hreq], by rw [hb, hseg]; rfl, by rw [hreq]; exact harb⟩
      obtain ⟨e1, e2, e3, e4, e5⟩ := stands b (by rw [hb]; exact ⟨rfl, rfl, rfl, rfl, rfl⟩)
      exact ⟨e1, e2, e3, e4, e5, fun _ _ => hlast, fun hne => absurd h0 hne⟩
    | some sh =>
      rw [Option.map_some, motionOutcome_miss (hn.trans h0) ur, seekMiss_solo usolo] at hreq
      have hb : b = ((u.post (axisLine x) .seekMiss).disarm x true).axis x :=
        congrArg (fun q : State × Bool => q.1.axis x) hreq
      obtain ⟨e1, e2, e3, e4, e5⟩ := stands b (by rw [hb, ← State.post_axis u (axisLine x) .seekMiss id]; exact disarm_segment)
      exact ⟨e1, e2, e3, e4, e5, fun _ e => absurd e (by simp), fun hne => absurd h0 hne⟩
  · rw [motionOutcome_waits (hn ▸ h0) ud uidle ur] at hreq
    rw [joinPending_solo (enterRamp_paired.trans usolo)] at hreq
    have hb : b = ((((u.axis x).directed (u.rehearses x)).startRamp p).settled .pending) :=
      (congrArg (fun q : State × Bool => q.1.axis x) hreq).trans enterRamp_axis_self
    rw [hseg, ur] at hb
    refine ⟨by rw [hb]; rfl, by rw [hb]; rfl, by rw [hb]; rfl, by rw [hb]; rfl, by rw [hb]; rfl, fun e => absurd e h0,
      fun _ => ⟨by rw [hreq], by rw [hb]; rfl, by rw [hb]; rfl, by rw [hb]; rfl, by rw [hb]; rfl, by rw [hb]; rfl, by rw [hreq],
        ?_, fun hne => ?_⟩⟩
    · rw [hreq]
      dsimp only
      rw [enterRamp_arbiter, enterRamp_axis_self, harb, hseg]
      rfl
    · have hlines : u.lines = s.lines := hu ▸ segmentReady_lines (.inl (by simpa using hne))
      have hline : r.1.line (axisLine x) = u.line (axisLine x) :=
        (congrArg (fun q : State × Bool => q.1.line (axisLine x)) hreq).trans enterRamp_axisLine
      rw [hline, State.line, hlines, State.line]

end Sys2Proof.Machine
end

section
/-! PROOFS. Settling, the chain end and completed entries of an unpaired axis. -/

namespace Sys2Proof.Machine

section
variable {s : State} {x : AxisId} {i : CueId}

/-! ### Settling (R75) -/

theorem settleBy_pause (h : s.paired x = false) : s.settleBy x .pause = s.enter x .paused := by
  have hp : (s.enter x .paused).paired x = false := (enter_paired (fun _ => rfl) x).trans h
  simp only [State.settleBy, h, Bool.false_and, Bool.false_eq_true, if_false, settlePair_solo hp]

theorem settleBy_abandon (h : s.paired x = false) :
    s.settleBy x .abandon = s.enter x .armed fun a => { a with current := a.start.map .entry } := by
  have hf : ∀ a : Axis, ({ a with current := a.start.map .entry } : Axis).cfg = a.cfg := fun _ => rfl
  have hp := (enter_paired (s := s) (x := x) (new := .armed) hf x).trans h
  simp only [State.settleBy, h, Bool.false_and, Bool.false_eq_true, if_false, settlePair_solo hp]

theorem settleBy_disarm (h : s.paired x = false) : s.settleBy x .disarm = s.disarm x false := by
  simp only [State.settleBy, h, Bool.false_and, Bool.false_eq_true, if_false, settlePair_solo ((disarm_paired x).trans h)]

/-- The context of an axis that has settled in a state, but for the state (R75, R96). -/
def Axis.atRest (a : Axis) : Axis :=
  { a with rate := 0, acc := 0, jamCount := 0, dwell := 0, disposition := none, restartWait := false }

theorem settleBy_pause_axis (h : s.paired x = false) :
    (s.settleBy x .pause).axis x = { (s.axis x).atRest with state := .paused } := by
  rw [settleBy_pause h, enter_axis_self]
  rfl

theorem settleBy_abandon_axis (h : s.paired x = false) : (s.settleBy x .abandon).axis x =
    { (s.axis x).atRest with state := .armed, current := (s.axis x).start.map .entry } := by
  rw [settleBy_abandon h, enter_axis_self]
  rfl

theorem settleBy_disarm_axis (h : s.paired x = false) (hs : (s.axis x).state ≠ .disarmed) :
    (s.settleBy x .disarm).axis x =
      { (s.axis x).atRest with state := .disarmed, chain := [], start := none, current := none } := by
  rw [settleBy_disarm h, disarm_axis_self hs]
  rfl

/-! ### The chain end (R71) -/

theorem chainEnd_solo (h : s.paired x = false) : s.chainEnd x = s.settleChainEnd x := by simp [State.chainEnd, h]

/-- The part with CHAIN_END posted (R71, R171). -/
def State.chainEnded (s : State) (x : AxisId) : State :=
  s.post (axisLine x) .chainEnd fun d => { d with chainEnd := some (s.chainEndValue x) }

theorem settleChainEnd_repeats (h : (s.axis x).cfg.repeats = true) :
    s.settleChainEnd x = (s.chainEnded x).enter x .armed fun a => { a with current := a.start.map .entry } := if_pos h

theorem settleChainEnd_ends (h : (s.axis x).cfg.repeats = false) : s.settleChainEnd x = (s.chainEnded x).disarm x false :=
  if_neg (by simp [h])

theorem chainEnded_axis (y : AxisId) : (s.chainEnded x).axis y = s.axis y := s.post_axis ..

/-! ### Completed entries (R70, R75) -/

/-- The current cue becomes the next index of the entry that it names. -/
theorem stepCue_entry (h : (s.axis x).current = some (.entry i)) :
    s.stepCue x = s.putAxis x { s.axis x with current := some (s.cue i).next } := by
  simp [State.stepCue, State.currentEntry, h]

theorem completeEntry_single (h : (s.axis x).current = some (.entry i)) (hm : s.mode x = .single) :
    s.completeEntry x =
      (((s.putAxis x { s.axis x with current := some (s.cue i).next }).post (axisLine x) .segmentDone).enter x .armed, false) := by
  rw [State.completeEntry, stepCue_entry h, if_pos hm]

theorem completeEntry_more (h : (s.axis x).current = some (.entry i)) (hm : s.mode x ≠ .single) :
    s.completeEntry x = (s.putAxis x { s.axis x with current := some (s.cue i).next }, true) := by
  rw [State.completeEntry, stepCue_entry h, if_neg hm]

theorem completeAndGoOn_eq : s.completeAndGoOn x = if (s.completeEntry x).2 then (s.completeEntry x).1.load x
    else (s.completeEntry x).1 := rfl

/-- The part as an entry leaves it that completes while its axis is STOPPING, before the axis settles. -/
def State.steppedOn (s : State) (x : AxisId) (i : CueId) : State :=
  let stepped := s.putAxis x { s.axis x with current := some (s.cue i).next }
  if s.mode x = .single then stepped.post (axisLine x) .segmentDone else stepped

theorem steppedOn_axis_self : (s.steppedOn x i).axis x = { s.axis x with current := some (s.cue i).next } := by
  unfold State.steppedOn
  dsimp only
  split
  · rw [State.post_axis, State.putAxis_axis_self]
  · rw [State.putAxis_axis_self]

theorem steppedOn_paired : (s.steppedOn x i).paired x = s.paired x := by
  refine paired_of_cfg (fun y => ?_) x
  by_cases hy : x = y
  · rw [← hy, steppedOn_axis_self]
  · unfold State.steppedOn
    dsimp only
    split
    · rw [State.post_axis, State.putAxis_axis_ne _ hy]
    · rw [State.putAxis_axis_ne _ hy]

theorem completeStopping_eq {d : Disposition} (h : (s.axis x).current = some (.entry i))
    (hd : (s.axis x).disposition = some d) : s.completeStopping x = (s.steppedOn x i).settleBy x d := by
  rw [State.completeStopping, stepCue_entry h, hd]
  rfl

end

/-- Settles O33. -/
theorem settlingAndChainEnd : Obligations.SettlingAndChainEnd := by
  intro x s solo a rest
  have ended : ∀ y, (s.chainEnded x).axis y = s.axis y := chainEnded_axis
  refine ⟨settleBy_pause_axis solo, settleBy_abandon_axis solo, settleBy_disarm_axis solo,
    fun d y hy => (settleBy_axisMove d).axis y hy, ⟨fun hr => ?_, fun hr hs => ?_⟩, fun i hc hm => ?_, fun i hc => ⟨fun hm => ?_,
      fun d hd => ⟨completeStopping_eq hc hd, fun e => ?_, fun e => ?_, fun e hs => ?_⟩⟩, rfl, fun n => rfl⟩
  · have heq : s.chainEnd x = _ := (chainEnd_solo solo).trans (settleChainEnd_repeats hr)
    refine ⟨heq, ?_⟩
    rw [heq, enter_axis_self, ended]
    rfl
  · have heq : s.chainEnd x = _ := (chainEnd_solo solo).trans (settleChainEnd_ends hr)
    refine ⟨heq, ?_⟩
    rw [heq, disarm_axis_self (by rwa [ended]), ended]
    rfl
  · rw [completeAndGoOn_eq, completeEntry_single hc hm]
    refine ⟨rfl, rfl, ?_, rfl⟩
    rw [enter_axis_self, State.post_axis, State.putAxis_axis_self]
    rfl
  · rw [completeAndGoOn_eq, completeEntry_more hc hm]
    exact ⟨rfl, rfl⟩
  · subst e
    rw [completeStopping_eq hc hd, settleBy_pause_axis (steppedOn_paired.trans solo), steppedOn_axis_self]
    rfl
  · subst e
    rw [completeStopping_eq hc hd, settleBy_abandon_axis (steppedOn_paired.trans solo), steppedOn_axis_self]
    rfl
  · subst e
    rw [completeStopping_eq hc hd,
      settleBy_disarm_axis (steppedOn_paired.trans solo) (by rwa [steppedOn_axis_self]), steppedOn_axis_self]
    rfl

end Sys2Proof.Machine
end

section
/-! PROOFS. The loads of every kind and mode, and the trigger of an unpaired axis. -/

namespace Sys2Proof.Machine

-- In turn, since the check limits memory, and every proof under way holds a stack of its own.
set_option Elab.async false

section
variable {s t u : State} {x y : AxisId} {st : StationId} {d : Disposition}

/-! ### What leaves the alert table as it stands -/

@[simp] theorem enter_alerts {new : AxisState} {f : Axis → Axis} : (s.enter x new f).alerts = s.alerts :=
  (enter_sameBut s x new f).alerts

@[simp] theorem disarm_alerts {keep : Bool} : (s.disarm x keep).alerts = s.alerts := by
  unfold State.disarm
  split
  · rfl
  · rw [enter_alerts, unpinChain_only]

@[simp] theorem settlePair_alerts : (s.settlePair x).alerts = s.alerts := by
  unfold State.settlePair
  dsimp only
  split <;> rfl

theorem settleBy_alerts : (s.settleBy x d).alerts = s.alerts := by
  unfold State.settleBy
  extract_lets a p ending s1 s2
  have h1 : s1.alerts = s.alerts := by
    show (match d with
      | .pause => s.enter x .paused
      | .abandon =>
        if ending && !a.cfg.repeats then s.disarm x false
        else s.enter x .armed fun a => { a with current := a.start.map .entry }
      | .disarm => s.disarm x false).alerts = s.alerts
    cases d with
    | pause => exact enter_alerts
    | abandon => exact ite_kept (P := fun v : State => v.alerts = s.alerts) disarm_alerts enter_alerts
    | disarm => exact disarm_alerts
  have h2 : s2.alerts = s.alerts :=
    ite_kept (P := fun v : State => v.alerts = s.alerts) ((State.post_alerts ..).trans h1) h1
  exact settlePair_alerts.trans h2

theorem handDisposition_alerts : (s.handDisposition x d).alerts = s.alerts := by
  unfold State.handDisposition
  split
  · exact enter_alerts
  · rfl
  · exact settleBy_alerts
  · exact settleBy_alerts
  · exact settleBy_alerts
  · exact ite_kept (P := fun v : State => v.alerts = s.alerts) disarm_alerts rfl
  · rfl

/-- The lock tests of stations touch no record (R33, R34). -/
theorem testLocks_alerts {target : Option StationId} : (s.testLocks target).alerts = s.alerts := by
  have rested : ∀ (t : State) (st : StationId), (t.restStation st).alerts = t.alerts := fun t st =>
    (restStation_sameBut t st).alerts
  have locked : ∀ (t : State) (st : StationId), (t.lockStation st).alerts = t.alerts := fun t st => by
    rw [lockStation_eq]
    exact foldl_kept (P := fun v : State => v.alerts = t.alerts) (fun _ _ hv => handDisposition_alerts.trans hv) _ _
      (State.post_alerts ..)
  refine foldl_kept (P := fun v : State => v.alerts = s.alerts) (fun t st ht => ?_) (stationsOf target) s rfl
  unfold State.testLock
  split
  · exact ht
  · exact ite_kept (P := fun v : State => v.alerts = s.alerts) ht ((rested t st).trans ht)
  · exact ite_kept (P := fun v : State => v.alerts = s.alerts) ((locked t st).trans ht) ht

/-- A raise that finds room leaves a record of its identity (R140, R141). -/
theorem raise_stores {kind : AlertKind} {sev : Severity} {source : Nat} {station : Option StationId}
    (h : s.alerts.records.length < 16) :
    ∃ q ∈ (s.raise kind sev source station).1.alerts.records, q.kind = kind ∧ q.source = source ∧ q.station = station := by
  unfold State.raise
  split
  · rename_i r hr
    have hid : r.hasIdentity kind source station = true := by simpa using List.find?_some hr
    obtain ⟨hk, hsrc, hst⟩ := hasIdentity_iff.mp hid
    have hm : r ∈ s.alerts.records := List.mem_of_find?_eq_some hr
    dsimp only
    rw [mergeAlert_eq]
    extract_lets rises opens q t
    have ht : t.alerts = (s.updateRecord r.id fun _ => q).alerts :=
      ite_kept (P := fun v : State => v.alerts = (s.updateRecord r.id fun _ => q).alerts) (State.post_alerts ..) rfl
    have hq : q ∈ t.alerts.records := by
      rw [ht]
      exact List.mem_map.mpr ⟨r, hm, if_pos rfl⟩
    refine ⟨q, ?_, hk, hsrc, hst⟩
    split
    · rw [testLocks_alerts]
      exact hq
    · exact hq
  · rw [if_pos (show s.alerts.records.length < Config.alertCapacity from h)]
    dsimp only
    rw [appendAlert_eq]
    extract_lets q rs src t
    have hq : q ∈ t.alerts.records := by
      rw [show t.alerts = _ from State.post_alerts ..]
      exact List.mem_append_right _ (List.mem_singleton.mpr rfl)
    refine ⟨q, ?_, rfl, rfl, rfl⟩
    split
    · rw [testLocks_alerts]
      exact hq
    · exact hq

/-! ### A trip at the load (R80) -/

theorem halt_endStop_solo (solo : s.paired x = false) (hs : (s.axis x).state ≠ .disarmed) :
    s.halt x .endStop = ((s.halted x .endStop).raise .limitTrip .lockout x.val (s.axis x).cfg.station).1 := by
  rw [halt_eq hs]
  dsimp only [HaltCause.cause]
  rw [endRun_solo ((halted_paired _).trans solo)]

/-- An immediate halt with END_STOP of an unpaired moving axis that does not rehearse. -/
theorem halt_endStop_outcome (solo : s.paired x = false) (hs : (s.axis x).state = .running) (hr : s.rehearses x = false) :
    (s.halt x .endStop).axis x = { (s.axis x).disarmed true with valid := false } ∧
      (s.part.condition = .inService → ((s.halt x .endStop).line (axisLine x)).causes.getLsbD Cause.endStop.bit = true) ∧
      (s.alerts.records.length < 16 → ∃ q ∈ (s.halt x .endStop).alerts.records,
        q.kind = .limitTrip ∧ q.source = x.val ∧ q.station = (s.axis x).cfg.station) := by
  have hd : (s.axis x).state ≠ .disarmed := by simp [hs]
  obtain ⟨hself, -, halerts, -, -, hline⟩ := halted_solo solo hd .endStop
  have hvalid : s.haltedAxis x = { (s.axis x).disarmed true with valid := false } := by
    simp [State.haltedAxis, hs, hr]
  rw [halt_endStop_solo solo hd]
  refine ⟨?_, fun hc => raise_kept (causeBit_kept _ _) (hline hc), fun hroom => raise_stores (halerts ▸ hroom)⟩
  rw [raise_axis_disarmed (by rw [hself]; rfl), hself, hvalid]

/-! ### Loads that run on -/

section
variable {travel : Int} {p : Profile} {seek : Option (StopSide × Int)} {named : Option StopSide} {home : Int} {i : CueId}

theorem noHome_none : s.noHome x none := fun _ _ e => absurd e (by simp)

theorem noHome_clear {side : StopSide} (h : (s.axis x).stopLevel side ≠ some true) : s.noHome x (some (side, home)) :=
  fun _ _ e => .inr (by cases e; exact h)

theorem loadOne_chainStop (h : (s.axis x).current = some .chainStop) : s.loadOne x = (s.chainEnd x, false) := by
  simp only [State.loadOne, h]

theorem loadOne_move (h : (s.axis x).current = some (.entry i)) (hb : (s.cue i).body = .move travel p seek) :
    s.loadOne x = s.loadMotion x travel p seek := by
  simp only [State.loadOne, h, hb]

theorem loadOne_moveTo {target : Int} (h : (s.axis x).current = some (.entry i)) (hb : (s.cue i).body = .moveTo target p) :
    s.loadOne x = s.loadMotion x (target - s.countedPosition x) p none := by
  simp only [State.loadOne, h, hb]

theorem loadOne_dwell {ms : Nat} (h : (s.axis x).current = some (.entry i)) (hb : (s.cue i).body = .dwell ms) :
    s.loadOne x = (s.enter x .dwelling fun a => { a with dwell := ms, restartWait := false }, false) := by
  simp only [State.loadOne, h, hb]

theorem loadOne_scene {n : SceneId} (h : (s.axis x).current = some (.entry i)) (hb : (s.cue i).body = .scene n) :
    s.loadOne x = (if s.rehearses x then s else { s with lamps := { s.lamps with display := n } }, true) := by
  simp only [State.loadOne, h, hb]

theorem loadOne_mark {code : Nat} (h : (s.axis x).current = some (.entry i)) (hb : (s.cue i).body = .mark code) :
    s.loadOne x = (s.post (axisLine x) .mark fun d => { d with mark := some code }, true) := by
  simp only [State.loadOne, h, hb]

theorem segmentReady_solo (h : s.paired x = false) : (s.segmentReady x travel named).paired x = false :=
  segmentReady_paired.trans h

theorem segmentReady_running (h : s.paired x = false) (hs : (s.axis x).state = .running) :
    (s.segmentReady x travel named).holdsRunCurrent x = true := by
  rw [holdsRunCurrent_solo (segmentReady_solo h), segmentReady_axis_self]
  exact decide_eq_true hs

theorem segmentReady_idle (h : s.paired x = false) (hs : (s.axis x).state ≠ .running) :
    (s.segmentReady x travel named).holdsRunCurrent x = false := by
  rw [holdsRunCurrent_solo (segmentReady_solo h), segmentReady_axis_self]
  exact decide_eq_false hs

theorem enterRamp_part {new : AxisState} : ((s.setDir x).enter x new fun b => b.startRamp p).part = s.part := by
  rw [(enter_sameBut ..).part, State.putAxis_part, setDir_eq, State.putAxis_part]

theorem enterRamp_lines (hr : s.rehearses x = true) :
    ((s.setDir x).enter x .running fun b => b.startRamp p).lines = s.lines := by
  rw [enter_lines rfl fun _ _ => (rehearses_of_cfg (setDir_steered x).cfg x).trans hr, setDir_eq, State.putAxis_lines]

/-- The axis as a load leaves it in a state of motion or of waiting. -/
theorem segment_enterRamp {new : AxisState} :
    (((s.segmentReady x travel named).setDir x).enter x new fun b => b.startRamp p).axis x =
      ((((s.axis x).withSegment (headingOf travel (s.axis x).dir) named (s.clampedSteps x travel)).directed
        (s.rehearses x)).startRamp p).settled new := by
  rw [enterRamp_axis_self, segmentReady_axis_self, segmentReady_rehearses]

theorem segment_enterRamp_arbiter {new : AxisState} :
    (((s.segmentReady x travel named).setDir x).enter x new fun b => b.startRamp p).arbiter = s.arbiter :=
  enterRamp_arbiter.trans segmentReady_arbiter

theorem loadMotion_pauses (hn : s.clampedSteps x travel ≠ 0) (h : s.noHome x seek) (hm : s.mode x = .demand)
    (hd : s.demandFlag x = false) : s.loadMotion x travel p seek =
      (((s.segmentReady x travel (seek.map (·.1))).setDir x).enter x .paused, false) := by
  rw [loadMotion_eq h, motionOutcome_pauses (segmentReady_segN ▸ hn) (segmentReady_mode.trans hm)
    (segmentReady_demandFlag.trans hd)]

theorem loadMotion_rehearses (hn : s.clampedSteps x travel ≠ 0) (hr : s.rehearses x = true) :
    s.loadMotion x travel p seek =
      (((s.segmentReady x travel (seek.map (·.1))).setDir x).enter x .running fun b => b.startRamp p, false) := by
  rw [loadMotion_eq fun _ _ _ => .inl hr, motionOutcome_rehearses (segmentReady_segN ▸ hn) (segmentReady_rehearses.trans hr)]

theorem loadMotion_runs (hn : s.clampedSteps x travel ≠ 0) (h : s.noHome x seek) (hd : s.demanded x)
    (hc : (s.segmentReady x travel (seek.map (·.1))).holdsRunCurrent x = true)
    (ht : s.rehearses x = true ∨ seek ≠ none ∨ (s.axis x).stopLevel (headingOf travel (s.axis x).dir).stop ≠ some true) :
    s.loadMotion x travel p seek =
      (((s.segmentReady x travel (seek.map (·.1))).setDir x).enter x .running fun b => b.startRamp p, false) := by
  rw [loadMotion_eq h, motionOutcome_runs (segmentReady_segN ▸ hn) (segmentReady_demanded hd) hc]
  rw [segmentReady_rehearses, segmentReady_seek, segmentReady_tripped, decide_eq_false_iff_not]
  exact ht.imp_right (.imp_left fun hs => by simpa using hs)

theorem loadMotion_trips (hn : s.clampedSteps x travel ≠ 0) (hd : s.demanded x) (hr : s.rehearses x = false)
    (hc : (s.segmentReady x travel none).holdsRunCurrent x = true)
    (ht : (s.axis x).stopLevel (headingOf travel (s.axis x).dir).stop = some true) :
    s.loadMotion x travel p none =
      ((((s.segmentReady x travel none).setDir x).enter x .running fun b => b.startRamp p).halt x .endStop, false) := by
  rw [loadMotion_eq noHome_none, Option.map_none, motionOutcome_trips (segmentReady_segN ▸ hn)
    (segmentReady_demanded hd) hc (segmentReady_rehearses.trans hr) segmentReady_seek
    (by rw [segmentReady_tripped, ht]; rfl)]

theorem loadMotion_waits (hn : s.clampedSteps x travel ≠ 0) (h : s.noHome x seek) (hd : s.demanded x)
    (hr : s.rehearses x = false) (hc : (s.segmentReady x travel (seek.map (·.1))).holdsRunCurrent x = false) :
    s.loadMotion x travel p seek =
      ((((s.segmentReady x travel (seek.map (·.1))).setDir x).enter x .pending fun b => b.startRamp p).joinPending x, false) := by
  rw [loadMotion_eq h, motionOutcome_waits (segmentReady_segN ▸ hn) (segmentReady_demanded hd) hc
    (segmentReady_rehearses.trans hr)]

theorem loadMotion_done (hn : s.clampedSteps x travel = 0) :
    s.loadMotion x travel p none = (s.segmentReady x travel none, true) := by
  rw [loadMotion_eq noHome_none, Option.map_none, Option.map_none, motionOutcome_done (segmentReady_segN.trans hn)]

/-- The load of an unpaired axis that is not tripped posts nothing on the axes' lines but SOFT_LIMIT. -/
theorem loadMotion_axisLine (solo : s.paired x = false) (h : s.noHome x seek)
    (hn : seek = none ∨ s.clampedSteps x travel ≠ 0) (hs : seek ≠ none ∨ (s.axis x).state ≠ .running) :
    (s.loadMotion x travel p seek).1.line (axisLine y) =
      (s.segmentReady x travel (seek.map (·.1))).line (axisLine y) := by
  have directed : ((s.segmentReady x travel (seek.map (·.1))).setDir x).line (axisLine y) =
      (s.segmentReady x travel (seek.map (·.1))).line (axisLine y) := by rw [setDir_eq, State.putAxis_line]
  by_cases h0 : s.clampedSteps x travel = 0
  · obtain rfl := hn.resolve_right (not_not.mpr h0)
    rw [loadMotion_done h0]
    rfl
  · by_cases hd : s.demanded x
    · cases hr : s.rehearses x with
      | true =>
        rw [loadMotion_rehearses h0 hr]
        exact enterRamp_axisLine
      | false =>
        by_cases hrun : (s.axis x).state = .running
        · rw [loadMotion_runs h0 h hd (segmentReady_running solo hrun)
            (.inr (.inl (hs.resolve_right (not_not.mpr hrun))))]
          exact enterRamp_axisLine
        · rw [loadMotion_waits h0 h hd hr (segmentReady_idle solo hrun)]
          exact enterRamp_axisLine
    · obtain ⟨hm, hf⟩ := not_demanded hd
      rw [loadMotion_pauses h0 h hm hf]
      exact enter_axisLine.trans directed

end

/-! ### The trigger of an unpaired axis (R63) -/

theorem trigger_elsewhere (h : (s.axis x).state ≠ .armed) : s.trigger x = s := if_neg h

theorem trigger_solo (h : s.paired x = false) (hs : (s.axis x).state = .armed) :
    s.trigger x = if s.rehearses x then (s.startRehearsal x).load x else s.load x := by
  simp [State.trigger, hs, h]

end

/-! ### The clauses of AxisLoads -/

section
variable {s : State} {x : AxisId} {steps : Int} {p : Profile} {side : StopSide} {home : Int} {seek : Option (StopSide × Int)}

theorem seek_home_outcome (hr : s.rehearses x = false) (h : (s.axis x).stopLevel side = some true) :
    (s.loadMotion x steps p (some (side, home))).2 = true ∧
      (s.loadMotion x steps p (some (side, home))).1.axis x =
        { s.axis x with
          dir := headingOf steps (s.axis x).dir, seek := some side, remN := 0, valid := true
          position := (s.axis x).cfg.clamp home } ∧
      (s.loadMotion x steps p (some (side, home))).1.arbiter = s.arbiter ∧
      (s.part.condition = .inService →
        ((s.loadMotion x steps p (some (side, home))).1.line (axisLine x)).causes.getLsbD Cause.homed.bit = true) := by
  rw [loadMotion_home hr h]
  refine ⟨rfl, ?_, State.post_arbiter .., fun hc => post_bit hc⟩
  dsimp only
  rw [takeHome_axis_self, State.putAxis_axis_self]

theorem seek_miss_outcome (hr : s.rehearses x = false) (solo : s.paired x = false) (hs : (s.axis x).state ≠ .disarmed)
    (h : (s.axis x).stopLevel side ≠ some true) (hn : s.clampedSteps x steps = 0) :
    (s.loadMotion x steps p (some (side, home))).2 = false ∧
      ((s.loadMotion x steps p (some (side, home))).1.axis x).state = .disarmed ∧
      ((s.loadMotion x steps p (some (side, home))).1.axis x).chain = [] ∧
      ((s.loadMotion x steps p (some (side, home))).1.axis x).position = (s.axis x).position ∧
      (s.part.condition = .inService →
        ((s.loadMotion x steps p (some (side, home))).1.line (axisLine x)).causes.getLsbD Cause.seekMiss.bit = true) := by
  have heq : s.loadMotion x steps p (some (side, home)) =
      (((s.segmentReady x steps (some side)).post (axisLine x) .seekMiss).disarm x true, false) := by
    rw [loadMotion_eq (noHome_clear h), Option.map_some, Option.map_some, motionOutcome_miss (segmentReady_segN.trans hn)
      (segmentReady_rehearses.trans hr), seekMiss_solo (segmentReady_solo solo)]
  have hpost : ((s.segmentReady x steps (some side)).post (axisLine x) .seekMiss).axis x =
      (s.axis x).withSegment (headingOf steps (s.axis x).dir) (some side) (s.clampedSteps x steps) := by
    rw [State.post_axis, segmentReady_axis_self]
  have haxis : (s.loadMotion x steps p (some (side, home))).1.axis x =
      ((s.axis x).withSegment (headingOf steps (s.axis x).dir) (some side) (s.clampedSteps x steps)).disarmed true := by
    rw [heq]
    dsimp only
    rw [disarm_axis_self (by rw [hpost]; exact hs), hpost]
  refine ⟨by rw [heq], by rw [haxis]; rfl, by rw [haxis]; rfl, by rw [haxis]; rfl, fun hc => ?_⟩
  rw [heq]
  exact disarm_kept (causeBit_kept _ _) (post_bit (segmentReady_sameBut.part ▸ hc))

/-- A REHEARSE seek looks at no stop: it runs virtually, or takes its home virtually (R83). -/
theorem virtual_seek_outcome (hr : s.rehearses x = true) :
    (s.loadMotion x steps p (some (side, home))).1.arbiter = s.arbiter ∧
      (s.loadMotion x steps p (some (side, home))).1.lines = s.lines ∧
      (s.clampedSteps x steps = 0 →
        (s.loadMotion x steps p (some (side, home))).2 = true ∧
        (s.loadMotion x steps p (some (side, home))).1.axis x =
          { s.axis x with
            dir := headingOf steps (s.axis x).dir, seek := some side, segN := 0, remN := 0
            virtual := (s.axis x).cfg.clamp home }) ∧
      (s.clampedSteps x steps ≠ 0 →
        (s.loadMotion x steps p (some (side, home))).2 = false ∧
        (s.loadMotion x steps p (some (side, home))).1.axis x =
          { s.axis x with
            dir := headingOf steps (s.axis x).dir, seek := some side, segN := s.clampedSteps x steps
            remN := s.clampedSteps x steps, state := .running, rate := p.f, acc := 0, phase := .accel
            disposition := none, dwell := 0, restartWait := false }) := by
  have hur : (s.segmentReady x steps (some side)).rehearses x = true := segmentReady_rehearses.trans hr
  have hlines : (s.segmentReady x steps (some side)).lines = s.lines := segmentReady_lines (.inl (by simp))
  by_cases hn : s.clampedSteps x steps = 0
  · have heq : s.loadMotion x steps p (some (side, home)) =
        ((s.segmentReady x steps (some side)).takeVirtualHome x home, true) := by
      rw [loadMotion_eq fun _ _ _ => .inl hr, Option.map_some, Option.map_some,
        motionOutcome_virtualHome (segmentReady_segN.trans hn) hur]
    rw [heq]
    refine ⟨segmentReady_arbiter, hlines, fun _ => ⟨rfl, ?_⟩, fun h => absurd hn h⟩
    dsimp only
    rw [State.takeVirtualHome, State.putAxis_axis_self, segmentReady_axis_self, hn]
    rfl
  · rw [loadMotion_rehearses hn hr, Option.map_some]
    refine ⟨segment_enterRamp_arbiter, ?_, fun h => absurd h hn, fun _ => ⟨rfl, ?_⟩⟩
    · exact (enterRamp_lines hur).trans hlines
    · rw [segment_enterRamp, hr]
      rfl

/-- The room and the line: a segment that is cut posts SOFT_LIMIT, and no other does (R64). -/
theorem softLimit_outcome (hc : s.part.condition = .inService) (solo : s.paired x = false)
    (hs : (s.axis x).state ≠ .running) :
    (s.clampedSteps x steps < steps.natAbs →
      ((s.loadMotion x steps p none).1.line (axisLine x)).causes.getLsbD Cause.softLimit.bit = true) ∧
    (steps.natAbs ≤ s.clampedSteps x steps → (s.loadMotion x steps p none).1.line (axisLine x) = s.line (axisLine x)) := by
  have hline : (s.loadMotion x steps p none).1.line (axisLine x) = (s.segmentReady x steps none).line (axisLine x) :=
    loadMotion_axisLine solo noHome_none (.inl rfl) (.inr hs)
  refine ⟨fun hcut => ?_, fun hfit => ?_⟩
  · rw [hline, State.segmentReady, if_pos ⟨rfl, hcut⟩]
    exact post_bit hc
  · rw [hline, State.line, segmentReady_lines (.inr hfit), State.line]

end

/-- Settles O32: one equation for each kind of entry and for each outcome of a segment. -/
theorem axisLoads : Obligations.AxisLoads := by
  refine ⟨fun x s => ⟨loadOne_chainStop, fun i hi => ⟨fun _ _ _ hb => loadOne_move hi hb, fun _ _ hb => loadOne_moveTo hi hb,
      fun ms hb => ?dwell, fun _ hb => loadOne_scene hi hb, fun _ hb => loadOne_mark hi hb⟩⟩,
    fun x steps p side home s hr => ⟨seek_home_outcome hr, fun h hn solo hs => ?miss⟩,
    fun x steps p seek s solo hstop => ?motion, fun x steps p side home s hr => ?virtual,
    fun x s solo => ⟨trigger_elsewhere, fun hs hr => ?trigger, fun hs hr => ?rehearsal⟩,
    fun x steps p side home s solo hr h hn => ?quiet, fun x steps p s hc solo hs => ?limit⟩
  case dwell =>
    rw [loadOne_dwell hi hb]
    exact ⟨rfl, enter_axis_self ..⟩
  case miss =>
    exact seek_miss_outcome hr solo hs h (by rw [State.clampedSteps, countedPosition_real hr]; exact hn)
  case virtual =>
    have hout := virtual_seek_outcome (steps := steps) (p := p) (side := side) (home := home) hr
    simp only [State.clampedSteps, State.countedPosition, hr, if_true] at hout
    exact hout
  case trigger => rw [trigger_solo solo hs, hr]; rfl
  case rehearsal => rw [trigger_solo solo hs, hr]; rfl
  case quiet =>
    have hline := loadMotion_axisLine (y := x) (travel := steps) (p := p) solo (seek := some (side, home))
      (noHome_clear h) (.inr (by rw [State.clampedSteps, countedPosition_real hr]; exact hn))
      (.inl (by simp))
    rw [hline, State.line, segmentReady_lines (.inl (by simp)), State.line]
  case limit =>
    obtain ⟨hcut, hfits⟩ := softLimit_outcome (steps := steps) (p := p) hc solo hs
    exact ⟨fun h => hcut (Nat.lt_of_le_of_lt (Nat.min_le_right ..) h), fun h => hfits (Nat.le_min.mpr ⟨Nat.le_refl _, h⟩)⟩
  case motion =>
    intro a r dir n loaded hn
    refine ⟨fun hm hd => ?_, fun hr => ?_, fun hd hr hs ht => ?_, fun hd hr hs hk ht => ?_⟩
    · have hm' : s.mode x = .demand := (mode_solo solo).trans hm
      have hr : s.rehearses x = false := by simp [State.rehearses, hm']
      have heq : r = _ := loadMotion_pauses hn hstop hm' hd
      rw [heq]
      refine ⟨rfl, ?_, ?_⟩
      · dsimp only
        rw [enter_axis_self, setDir_axis_self, segmentReady_axis_self, segmentReady_rehearses, hr]
        rfl
      · dsimp only
        rw [enter_arbiter, setDir_eq]
        exact segmentReady_arbiter
    · have heq : r = _ := loadMotion_rehearses hn hr
      rw [heq]
      refine ⟨rfl, ?_, segment_enterRamp_arbiter⟩
      dsimp only
      rw [segment_enterRamp, hr]
      rfl
    · have hd' : s.demanded x := fun hm => hd ((mode_solo solo).symm.trans hm)
      have heq : r = _ := loadMotion_runs hn hstop hd' (segmentReady_running solo hs) (.inr ht)
      rw [heq]
      refine ⟨rfl, ?_, segment_enterRamp_arbiter⟩
      dsimp only
      rw [segment_enterRamp, hr]
      rfl
    · subst hk
      have hd' : s.demanded x := fun hm => hd ((mode_solo solo).symm.trans hm)
      have heq : r = _ := loadMotion_trips hn hd' hr (segmentReady_running solo hs) ht
      generalize hv : ((s.segmentReady x steps none).setDir x).enter x .running (fun b => b.startRamp p) = v at heq
      have haxis : v.axis x = _ := hv ▸ segment_enterRamp
      have vsolo : v.paired x = false := hv ▸ enterRamp_paired.trans (segmentReady_solo solo)
      have hcfg : ∀ b : Axis, (b.startRamp p).cfg = b.cfg := fun _ => rfl
      have vreal : v.rehearses x = false := by
        rw [← hv, rehearses_of_cfg (enter_pairMove hcfg).cfg, rehearses_of_cfg (setDir_steered x).cfg, segmentReady_rehearses, hr]
      obtain ⟨hself, hline, hstored⟩ := halt_endStop_outcome vsolo (by rw [haxis]; rfl) vreal
      rw [heq]
      refine ⟨rfl, ?_, fun hc => hline ?_, fun hroom => ?_⟩
      · rw [hself, haxis, hr]
        rfl
      · rw [← hv, enterRamp_part, segmentReady_sameBut.part]
        exact hc
      · rw [haxis] at hstored
        refine hstored ?_
        rw [← hv, enter_alerts, setDir_eq, State.putAxis_alerts, segmentReady_sameBut.alerts]
        exact hroom

end Sys2Proof.Machine
end

section
/-! PROOFS. The STOP line, escalation and the blink clocks. -/

namespace Sys2Proof.Machine

section
variable {s : State}

theorem isTesting_false (h : s.part.condition ≠ .testing) : s.isTesting = false := decide_eq_false h

/-! ### The STOP line (R150) -/

/-- A level that the STOP line takes for the first time is acted upon, outside the test (R150, R191). -/
theorem setStopLine_changed {asserted : Bool} (ht : s.part.condition ≠ .testing) (hl : s.stopLine.level ≠ some asserted) :
    s.setStopLine asserted =
      (let t : State := { s with stopLine := { s.stopLine with level := some asserted } }
       if asserted then t.applyStop else t.applyRelease) := by
  unfold State.setStopLine
  exact if_neg fun h => h.elim (by simp [isTesting_false ht]) hl

/-- A level that stands already, or that comes during the test, is only taken (R150, R191). -/
theorem setStopLine_taken {asserted : Bool} (h : s.part.condition = .testing ∨ s.stopLine.level = some asserted) :
    s.setStopLine asserted = { s with stopLine := { s.stopLine with level := some asserted } } := by
  unfold State.setStopLine
  exact if_pos (h.imp_left fun ht => by simp [State.isTesting, ht])

/-! ### Escalation (R145) -/

/-- A RAISED record below level 3 goes up one level and posts it. -/
theorem escalate_raised {id : Nat} {r : Alert} (hr : s.recordOf id = some r) (ha : r.acked = false) (hl : r.level < 3) :
    s.escalate id =
      (let q := { r with level := r.level + 1, timeInLevel := 0 }
       (s.updateRecord id fun _ => q).postAlert .escalated q.detail) := by
  unfold State.escalate
  rw [hr]
  exact if_neg (by simp [ha, hl])

/-- A record that is ACKNOWLEDGED, at level 3 or not stored is left alone. -/
theorem escalate_of_not {id : Nat} (h : ∀ r, s.recordOf id = some r → r.acked = true ∨ 3 ≤ r.level) :
    s.escalate id = s := by
  unfold State.escalate
  cases hr : s.recordOf id with
  | none => rfl
  | some r => exact if_pos (h r hr)

end

/-- Settles O49: a level of the STOP line that changes outside the test is acted upon and any other only taken, a RAISED record
below level 3 escalates and no other does, and a blink clock enters its other phase. -/
theorem stopLineEscalationAndBlinkPhase : Obligations.StopLineEscalationAndBlinkPhase := by
  unfold Obligations.StopLineEscalationAndBlinkPhase
  refine ⟨fun s => ⟨fun ht hl => ?_, fun h => ?_, fun ht hl => ?_, fun h => ?_⟩,
    fun id s ht => ⟨fun r hr ha hl => ?_, fun h => ?_⟩, fun s ht => ⟨?_, ?_⟩⟩
  · refine (eventWhen_outcome rfl).trans ?_
    rw [setStopLine_changed (s := s.driveStop true) ht hl]
    rfl
  · refine (eventWhen_outcome rfl).trans ?_
    rw [setStopLine_taken (s := s.driveStop true) h]
    rfl
  · refine (eventWhen_outcome rfl).trans ?_
    rw [setStopLine_changed (s := s.driveStop false) ht hl]
    rfl
  · refine (eventWhen_outcome rfl).trans ?_
    rw [setStopLine_taken (s := s.driveStop false) h]
    rfl
  · refine (eventWhen_outcome (by simp [isTesting_false ht])).trans ?_
    rw [escalate_raised hr ha hl]
    rfl
  · refine (eventWhen_outcome (by simp [isTesting_false ht])).trans ?_
    rw [escalate_of_not h]
  · exact eventWhen_outcome (by simp [isTesting_false ht])
  · exact eventWhen_outcome (by simp [isTesting_false ht])

end Sys2Proof.Machine
end

section
/-! PROOFS. TRIGGER_AXIS, DISARM_AXIS, DEMAND_AXIS, SET_POSITION, STOP_AXIS and HALT_AXIS. -/

namespace Sys2Proof.Machine

section
variable {s t : State} {x y : AxisId} {axis : Byte}

/-! ### What a request reaches (R111) -/

theorem reached_solo (h : s.paired x = false) : s.reached x = [x] := by simp [State.reached, h]

theorem reached_paired (h : s.paired x = true) : s.reached x = [leaderOf x, followerOf x] := by simp [State.reached, h]

/-! ### TRIGGER_AXIS (R63) -/

/-- The axis, and the partner that it leads, are ready for a trigger (R63, R112). -/
theorem triggerBusy_iff :
    s.triggerBusy x = true ↔
      ¬ ((s.axis x).state = .armed ∧
        (s.paired x = true → isLeader x = true ∧ (s.axis (followerOf x)).state = .armed)) := by
  unfold State.triggerBusy
  cases s.paired x <;> cases isLeader x <;> simp [imp_iff_not_or]

/-- The checks of TRIGGER_AXIS on an axis of a station. -/
theorem reqTriggerAxis_station (hx : axis.toNat = x.val) (hst : (s.axis x).cfg.station = some st) :
    reqTriggerAxis axis s =
      if s.triggerBusy x ∨ ((s.station st).state ≠ .ready ∧ (s.station st).state ≠ .showing) then (s, replyBody .busy)
      else (((s.joinShow st).trigger x).testActivity st, replyBody .ok) := by
  unfold reqTriggerAxis
  rw [finOf_eq hx]
  dsimp only
  rw [hst]

/-! ### DISARM_AXIS (R62) -/

theorem reqDisarmAxis_reached (hx : axis.toNat = x.val) :
    reqDisarmAxis axis s =
      (let armed := (s.reached x).filter fun y => (s.axis y).state = .armed
       if (s.reached x).any s.isActive || armed.isEmpty then (s, replyBody .busy)
       else (armed.foldl (fun t y => t.disarm y false) s, replyBody .ok)) := by
  unfold reqDisarmAxis
  rw [finOf_eq hx]

/-- An unpaired axis is disarmed from ARMED, and from no other state. -/
theorem reqDisarmAxis_solo (hx : axis.toNat = x.val) (h : s.paired x = false) :
    reqDisarmAxis axis s =
      if (s.axis x).state = .armed then (s.disarm x false, replyBody .ok) else (s, replyBody .busy) := by
  rw [reqDisarmAxis_reached hx, reached_solo h]
  by_cases ha : (s.axis x).state = .armed
  · simp [ha, State.isActive, AxisState.active]
  · simp [ha]

/-- Of a pair, each ARMED member is disarmed, unless a member is active or none is ARMED (R111). -/
theorem reqDisarmAxis_paired (hx : axis.toNat = x.val) (h : s.paired x = true) :
    reqDisarmAxis axis s =
      if s.isActive (leaderOf x) = true ∨ s.isActive (followerOf x) = true ∨
          ((s.axis (leaderOf x)).state ≠ .armed ∧ (s.axis (followerOf x)).state ≠ .armed) then (s, replyBody .busy)
      else (([leaderOf x, followerOf x].filter fun y => (s.axis y).state = .armed).foldl (fun t y => t.disarm y false) s,
        replyBody .ok) := by
  rw [reqDisarmAxis_reached hx, reached_paired h]
  have none_armed : ([leaderOf x, followerOf x].filter fun y => (s.axis y).state = .armed).isEmpty = true ↔
      (s.axis (leaderOf x)).state ≠ .armed ∧ (s.axis (followerOf x)).state ≠ .armed := by
    simp
  refine if_congr ?_ rfl rfl
  rw [Bool.or_eq_true, none_armed]
  simp [or_assoc]

/-! ### DEMAND_AXIS (R85) -/

theorem flagOf_bit (f : Bool) : flagOf (if f then 1#8 else 0#8) = some f := by cases f <;> rfl

theorem reqDemandAxis_flag (hx : axis.toNat = x.val) (f : Bool) :
    reqDemandAxis axis (if f then 1#8 else 0#8) s =
      if s.mode x ≠ .demand then (s, replyBody .badValue)
      else
        (let t := s.putAxis x { s.axis x with hostDemand := f }
         if t.demandFlag x = s.demandFlag x then t else t.demandChange x (t.demandFlag x), replyBody .ok) := by
  unfold reqDemandAxis
  rw [finOf_eq hx, flagOf_bit]

/-- A write that keeps the configuration keeps every configuration. -/
theorem putAxis_cfg {a : Axis} (h : a.cfg = (s.axis x).cfg) (y : AxisId) : ((s.putAxis x a).axis y).cfg = (s.axis y).cfg := by
  by_cases e : x = y
  · subst e
    rw [State.putAxis_axis_self, h]
  · rw [State.putAxis_axis_ne _ e]

theorem demandChange_demand (h : s.mode x = .demand) (asserted : Bool) :
    s.demandChange x asserted = if asserted then s.demandReturn x else s.demandDrop x := if_pos h

/-! ### SET_POSITION (R82) -/

/-- An axis's allocation stands where its configuration, its state and its mark do, and the pair contexts with them (R58, R110). -/
theorem allocation_of_core (hc : ∀ y, (t.axis y).cfg = (s.axis y).cfg) (hs : ∀ y, (t.axis y).state = (s.axis y).state)
    (hl : ∀ y, (t.axis y).asLeft = (s.axis y).asLeft) (hp : t.pairs = s.pairs) (y : AxisId) :
    t.allocation y = s.allocation y := by
  have own : (t.axis y).ownDraw = (s.axis y).ownDraw := by simp only [Axis.ownDraw, hs, hc]
  have held (z : AxisId) : (t.axis z).heldDraw = (s.axis z).heldDraw := by simp only [Axis.heldDraw, hs, hc]
  have context : t.pair y = s.pair y := by rw [State.pair, hp, State.pair]
  unfold State.allocation
  dsimp only
  rw [paired_of_cfg hc, rehearses_of_cfg hc, context, own, held, held, hl]

theorem totalAllocation_of (h : ∀ y, t.allocation y = s.allocation y) : t.totalAllocation = s.totalAllocation :=
  congrArg List.sum (List.map_congr_left fun y _ => h y)

/-- A new position changes no allocation. -/
theorem totalAllocation_placed {p : Int} :
    (s.putAxis x { s.axis x with position := p, valid := true }).totalAllocation = s.totalAllocation := by
  have place {α : Type} (f : Axis → α) (h : f { s.axis x with position := p, valid := true } = f (s.axis x)) (y : AxisId) :
      f ((s.putAxis x { s.axis x with position := p, valid := true }).axis y) = f (s.axis y) := by
    by_cases e : x = y
    · subst e
      rw [State.putAxis_axis_self, h]
    · rw [State.putAxis_axis_ne _ e]
  exact totalAllocation_of (allocation_of_core (place Axis.cfg rfl) (place Axis.state rfl) (place Axis.asLeft rfl) rfl)

/-- A request whose own change marks no pass, lowers no allocation and hands nothing over leaves it, with its reply. -/
theorem requestOutcome_level {tag kind : Byte} {st : Status} {fields : List Byte} (hp : t.passDue = false)
    (hh : t.handed = []) (ht : t.totalAllocation = s.totalAllocation) :
    s.requestOutcome t tag kind (replyBody st fields) = t.reply tag kind st fields := by
  unfold State.requestOutcome
  rw [settled_quiet hp (by rw [ht]; omega)]
  apply drain_of_nil
  unfold State.answer
  split <;> exact hh

theorem reqSetPosition_axis (hx : axis.toNat = x.val) (p : Int) :
    reqSetPosition axis p s =
      if p < (s.axis x).cfg.softLow ∨ (s.axis x).cfg.softHigh < p then (s, replyBody .badValue)
      else if (s.axis x).state ≠ .disarmed ∧ (s.axis x).state ≠ .armed then (s, replyBody .busy)
      else (s.putAxis x { s.axis x with position := p, valid := true }, replyBody .ok) := by
  unfold reqSetPosition
  rw [finOf_eq hx]

/-! ### STOP_AXIS and HALT_AXIS (R84) -/

theorem reqStopAxis_reached (hx : axis.toNat = x.val) :
    reqStopAxis axis s =
      if ((s.reached x).filter s.isActive).isEmpty then (s, replyBody .busy)
      else (s.handAll ((s.reached x).filter s.isActive) .abandon, replyBody .ok) := by
  unfold reqStopAxis
  rw [finOf_eq hx]

theorem reqHaltAxis_reached (hx : axis.toNat = x.val) : reqHaltAxis axis s = (s.haltAll (s.reached x), replyBody .ok) := by
  unfold reqHaltAxis
  rw [finOf_eq hx]

end

/-- Settles O38: TRIGGER_AXIS by its busy check and its station's state, DISARM_AXIS by what it reaches. -/
theorem triggerAxisAndDisarmAxis : Obligations.TriggerAxisAndDisarmAxis := by
  unfold Obligations.TriggerAxisAndDisarmAxis
  refine ⟨fun tag axis x st s h ht hx hst => ?_, fun tag axis x s h ht hx => ⟨fun hp => ?_, fun hp => ?_⟩⟩
  · dsimp only
    rw [exec_triggerAxis h ht, reqTriggerAxis_station hx hst]
    refine ⟨fun ⟨free, hs⟩ => ?_, fun ⟨free, hs⟩ => ?_, fun busy => ?_⟩
    · rw [if_neg (by rw [triggerBusy_iff, not_or, not_not]; exact ⟨free, fun e => e.1 hs⟩), State.joinShow, if_pos hs]
      rfl
    · rw [if_neg (by rw [triggerBusy_iff, not_or, not_not]; exact ⟨free, fun e => e.2 hs⟩), State.joinShow, if_neg (by simp [hs])]
      rfl
    · rw [if_pos (busy.imp_left triggerBusy_iff.mpr)]
      rfl
  · rw [exec_disarmAxis h ht, reqDisarmAxis_solo hx hp]
    exact congrArg _ (requestOutcome_ite Iff.rfl rfl rfl)
  · rw [exec_disarmAxis h ht, reqDisarmAxis_paired hx hp]
    exact congrArg _ (requestOutcome_ite Iff.rfl rfl rfl)

/-- Settles O39: each request's checks in their order, on the axis or on both members of its pair. -/
theorem demandAxisSetPositionStopAndHalt : Obligations.DemandAxisSetPositionStopAndHalt := by
  unfold Obligations.DemandAxisSetPositionStopAndHalt
  refine ⟨fun tag axis x f s h ht hx => ⟨fun flag hf => ?_, fun hm => ?_, fun hm => ?_⟩,
    fun tag axis x p s h ht hx => ?_, fun tag axis x s h ht hx => ⟨?_, fun hy => ?_, fun hy => ?_⟩⟩
  · rw [exec_demandAxis h ht]
    unfold reqDemandAxis
    rw [finOf_eq hx, flagOf_none hf]
    rfl
  · rw [exec_demandAxis h ht, reqDemandAxis_flag hx, if_pos hm]
    rfl
  · rw [exec_demandAxis h ht, reqDemandAxis_flag hx, if_neg (not_not.mpr hm)]
    have demand : (s.putAxis x { s.axis x with hostDemand := f }).mode x = .demand :=
      (mode_of_cfg (fun y => putAxis_cfg (x := x) (a := { s.axis x with hostDemand := f }) rfl y) x).trans hm
    dsimp only
    rw [demandChange_demand demand]
    rfl
  · rw [exec_setPosition h.1 ht, reqSetPosition_axis hx]
    exact congrArg _ (requestOutcome_ite Iff.rfl (requestOutcome_self h) (requestOutcome_ite Iff.rfl (requestOutcome_self h)
      (requestOutcome_level h.1.2.2.2 h.2 totalAllocation_placed)))
  · rw [exec_haltAxis h ht, reqHaltAxis_reached hx]
    rfl
  · obtain ⟨y, hmem, active⟩ := hy
    rw [exec_stopAxis h ht, reqStopAxis_reached hx, if_neg fun e => by
      have : y ∈ (s.reached x).filter s.isActive := List.mem_filter.mpr ⟨hmem, active⟩
      rw [List.isEmpty_iff.mp e] at this
      exact List.not_mem_nil this]
    rfl
  · rw [exec_stopAxis h ht, reqStopAxis_reached hx, if_pos (List.isEmpty_iff.mpr (List.filter_eq_nil_iff.mpr fun y hmem => by
      simp [hy y hmem]))]
    rfl

end Sys2Proof.Machine
end

section
/-! PROOFS. SET_AXIS: the configuration that its bytes stand for, its two checks, and the dissolution of a pair. -/

namespace Sys2Proof.Machine

section
variable {s t : State} {x y z : AxisId}

/-! ### What the bytes of SET_AXIS stand for (Table 4-1, Table 12-5) -/

theorem stationRefOf_code (st : Option StationId) : stationRefOf (byteOf (stationCode st)) = some st := by
  revert st
  decide

theorem guardOf_code (c : Option ChannelId) : guardOf (byteOf (channelCode c)) = some c := by
  revert c
  decide

theorem modeOf_code (m : AxisMode) : modeOf (byteOf (modeCode m)) = some m := by cases m <;> rfl

theorem axisFlagsOf_code (p r i : Bool) (c : Polarity) :
    axisFlagsOf (byteOf (flagByte [p, r, i, c = .closedHigh])) = some (p, r, i, c) := by
  revert p r i
  cases c <;> decide

/-- A byte reads back a value of its range. -/
theorem inRange_byteOf {low high n : Nat} (hlow : low ≤ n) (hhigh : n ≤ high) (h : high < 256) :
    inRange low high (byteOf n).toNat = some n := by
  rw [byteOf_of_lt (by omega), inRange_mem hlow hhigh]

/-- The fields of a configuration in its ranges read back the configuration. -/
theorem axisConfigOf_fields {c : AxisConfig} (h : c.held) :
    axisConfigOf (byteOf (stationCode c.station)) (byteOf (modeCode c.mode))
      (byteOf (flagByte [c.pair, c.repeats, c.invert, c.stopPolarity = .closedHigh])) (byteOf c.runDraw)
      (byteOf c.holdDraw) c.softLow c.softHigh (byteOf (channelCode c.guard)) c.jamThreshold (byteOf c.jamPersistence) =
      some c := by
  obtain ⟨hrun, hrun', hhold, hdraws, -, -, hlimits, hjam, htimes, htimes'⟩ := h
  unfold axisConfigOf
  rw [stationRefOf_code, modeOf_code, axisFlagsOf_code, inRange_byteOf hrun hrun' (by decide),
    inRange_byteOf (Nat.zero_le _) hhold (by decide), guardOf_code, inRange_mem (Nat.zero_le _) hjam,
    inRange_byteOf htimes htimes' (by decide)]
  exact if_pos ⟨hlimits, hdraws⟩

theorem guardOf_none {b : Byte} (h : 8 ≤ b.toNat ∧ b ≠ 0xFF#8) : guardOf b = none := by
  rw [guardOf, if_neg h.2, finOf_none h.1]
  rfl

theorem modeOf_none {b : Byte} (h : 4 ≤ b.toNat) : modeOf b = none := by
  unfold modeOf
  split <;> first | rfl | omega

theorem axisFlagsOf_none {b : Byte} (h : 16 ≤ b.toNat) : axisFlagsOf b = none := if_neg (by omega)

/-- What a configuration that was read says of the bytes that it was read from. -/
theorem axisConfigOf_some {station mode flags runDraw holdDraw guard times : Byte} {low high : Int} {jam : Nat}
    {c : AxisConfig} (h : axisConfigOf station mode flags runDraw holdDraw low high guard jam times = some c) :
    stationRefOf station ≠ none ∧ modeOf mode ≠ none ∧ axisFlagsOf flags ≠ none ∧ guardOf guard ≠ none ∧
      (1 ≤ runDraw.toNat ∧ runDraw.toNat ≤ 15) ∧ (holdDraw.toNat ≤ 3 ∧ holdDraw.toNat ≤ runDraw.toNat) ∧ low ≤ high ∧
      jam ≤ 1023 ∧ 1 ≤ times.toNat ∧ times.toNat ≤ 15 := by
  simp only [axisConfigOf, Option.bind_eq_bind, Option.bind_eq_some_iff] at h
  obtain ⟨st, hst, m, hm, f, hf, run, hrun, hold, hhold, g, hg, j, hj, n, hn, hlast⟩ := h
  obtain ⟨rfl, runs⟩ := inRange_some hrun
  obtain ⟨rfl, -, holds⟩ := inRange_some hhold
  obtain ⟨rfl, -, jams⟩ := inRange_some hj
  obtain ⟨rfl, counts⟩ := inRange_some hn
  obtain ⟨hlimits, hdraws⟩ : low ≤ high ∧ holdDraw.toNat ≤ runDraw.toNat := by
    by_contra hnot
    exact absurd hlast (by rw [if_neg hnot]; exact Option.some_ne_none c ∘ Eq.symm)
  exact ⟨by simp [hst], by simp [hm], by simp [hf], by simp [hg], runs, ⟨holds, hdraws⟩, hlimits, jams, counts⟩

/-- A field out of its range is refused (R195). -/
theorem reqSetAxis_badValue {axis station mode flags runDraw holdDraw guard times : Byte} {low high : Int} {jam : Nat}
    (h : 8 ≤ axis.toNat ∨ (8 ≤ station.toNat ∧ station ≠ 0xFF#8) ∨ 4 ≤ mode.toNat ∨ 16 ≤ flags.toNat ∨ runDraw = 0#8 ∨
      15 < runDraw.toNat ∨ 3 < holdDraw.toNat ∨ runDraw.toNat < holdDraw.toNat ∨ high < low ∨
      (8 ≤ guard.toNat ∧ guard ≠ 0xFF#8) ∨ 1023 < jam ∨ times = 0#8 ∨ 15 < times.toNat) :
    reqSetAxis axis station mode flags runDraw holdDraw low high guard jam times s = (s, replyBody .badValue) := by
  have refused : finOf 8 axis = none ∨
      axisConfigOf station mode flags runDraw holdDraw low high guard jam times = none := by
    refine or_iff_not_imp_right.mpr fun hc => ?_
    obtain ⟨c, hc⟩ := Option.ne_none_iff_exists'.mp hc
    obtain ⟨hst, hm, hf, hg, hrun, hhold, hlimits, hj, hn⟩ := axisConfigOf_some hc
    rcases h with h | h | h | h | rfl | h | h | h | h | h | h | rfl | h
    · exact finOf_none h
    · exact absurd (stationRefOf_none h) hst
    · exact absurd (modeOf_none h) hm
    · exact absurd (axisFlagsOf_none h) hf
    · exact absurd hrun.1 (by decide)
    · omega
    · omega
    · omega
    · omega
    · exact absurd (guardOf_none h) hg
    · omega
    · exact absurd hn.1 (by decide)
    · omega
  unfold reqSetAxis
  rcases refused with h | h
  · rw [h]
  · rw [h]
    cases finOf 8 axis <;> rfl

/-! ### The two checks (R60) -/

theorem configFits_iff {c : AxisConfig} :
    s.configFits x c = true ↔
      c.softLow ≤ (s.axis x).position ∧ (s.axis x).position ≤ c.softHigh ∧
        (c.pair = true →
          isLeader x = true ∧ (c.mode = .block ∨ c.mode = .rehearse) ∧ (s.axis (followerOf x)).cfg.station = c.station) := by
  unfold State.configFits
  cases c.pair <;> simp [and_assoc]

theorem configBusy_iff {c : AxisConfig} :
    s.configBusy x c = true ↔
      (s.axis x).state ≠ .disarmed ∨ (c.pair = true ∧ (s.axis (followerOf x)).state ≠ .disarmed) ∨
        (isLeader x = false ∧ s.paired x = true ∧ (s.axis x).cfg.station ≠ c.station) ∨
        (isLeader x = true ∧ s.paired x = true ∧ c.pair = false ∧ s.isActive (followerOf x) = true) := by
  unfold State.configBusy
  cases isLeader x <;> cases s.paired x <;> cases c.pair <;> simp [or_assoc]

/-- SET_AXIS of a configuration in its ranges: its two checks in their order, then the configuration is written. -/
theorem reqSetAxis_fields {axis : Byte} (hx : axis.toNat = x.val) {c : AxisConfig} (h : c.held) :
    reqSetAxis axis (byteOf (stationCode c.station)) (byteOf (modeCode c.mode))
      (byteOf (flagByte [c.pair, c.repeats, c.invert, c.stopPolarity = .closedHigh])) (byteOf c.runDraw)
      (byteOf c.holdDraw) (BitVec.ofInt 24 c.softLow).toInt (BitVec.ofInt 24 c.softHigh).toInt
      (byteOf (channelCode c.guard)) (BitVec.ofNat 16 c.jamThreshold).toNat (byteOf c.jamPersistence) s =
      if s.configFits x c = false then (s, replyBody .badValue)
      else if s.configBusy x c then (s, replyBody .busy)
      else (s.configureAxis x c, replyBody .ok) := by
  have reads := axisConfigOf_fields h
  obtain ⟨-, -, -, -, hlow, hhigh, -, hjam, -⟩ := h
  have signed (v : Int) (hv : signed24 v) : (BitVec.ofInt 24 v).toInt = v :=
    BitVec.toInt_ofInt_eq_self (by decide) (by have := hv.1; omega) (by have := hv.2; omega)
  have jam : (BitVec.ofNat 16 c.jamThreshold).toNat = c.jamThreshold := by
    rw [BitVec.toNat_ofNat, Nat.mod_eq_of_lt (by omega)]
  unfold reqSetAxis
  rw [signed _ hlow, signed _ hhigh, jam, finOf_eq hx, reads]
  simp only [Bool.not_eq_true']

/-! ### What is written (R60, R109) -/

/-- An axis with a new configuration, field by field. -/
theorem reconfigure_eq (a : Axis) (c : AxisConfig) :
    a.reconfigure c =
      { a with
        cfg := c
        hostDemand := a.hostDemand && decide (c.mode = .demand)
        lowLevel := if a.cfg.stopPolarity = c.stopPolarity then a.lowLevel else none
        highLevel := if a.cfg.stopPolarity = c.stopPolarity then a.highLevel else none
        lowSample := if a.cfg.stopPolarity = c.stopPolarity then a.lowSample else none
        highSample := if a.cfg.stopPolarity = c.stopPolarity then a.highSample else none } := by
  unfold Axis.reconfigure
  by_cases h : a.cfg.stopPolarity = c.stopPolarity
  · simp only [if_pos h]
  · simp only [if_neg h]

/-- What SET_AXIS writes: the configuration, and the dissolution where the pair flag goes off. -/
theorem configureAxis_eq {c : AxisConfig} :
    s.configureAxis x c =
      if (s.axis x).cfg.pair = true ∧ c.pair = false then
        (s.putAxis x ((s.axis x).reconfigure c)).dissolve x (s.axis x).cfg.mode
      else s.putAxis x ((s.axis x).reconfigure c) :=
  if_congr (by simp) rfl rfl

/-! ### Allocations that stand and that change (R58, R100, R110) -/

/-- An allocation stands where both members of the pair, and its context, do. -/
theorem allocation_of_members (hl : t.axis (leaderOf z) = s.axis (leaderOf z))
    (hf : t.axis (followerOf z) = s.axis (followerOf z)) (hp : t.pair z = s.pair z) :
    t.allocation z = s.allocation z := by
  have hz : t.axis z = s.axis z := by
    rcases eq_leaderOf_or_followerOf z with e | e
    · rw [e]
      exact hl
    · rw [e]
      exact hf
  unfold State.allocation State.rehearses State.mode State.paired
  rw [hl, hf, hz, hp]

/-- The total allocation, as a sum over the axes. -/
theorem totalAllocation_eq_sum : s.totalAllocation = ∑ z : AxisId, s.allocation z := by
  simp only [State.totalAllocation, allAxes, Fin.sum_univ_eight, List.map, List.sum_cons, List.sum_nil]
  omega

/-- The total moves by what the axes move whose allocations change. -/
theorem totalAllocation_change (xs : Finset AxisId) (h : ∀ z, z ∉ xs → t.allocation z = s.allocation z) :
    t.totalAllocation + ∑ z ∈ xs, s.allocation z = s.totalAllocation + ∑ z ∈ xs, t.allocation z := by
  have others : ∑ z ∈ xsᶜ, t.allocation z = ∑ z ∈ xsᶜ, s.allocation z :=
    Finset.sum_congr rfl fun z hz => h z (Finset.mem_compl.mp hz)
  rw [totalAllocation_eq_sum, totalAllocation_eq_sum, ← Finset.sum_add_sum_compl xs, ← Finset.sum_add_sum_compl xs, others]
  omega

/-! ### The dissolution of a pair (R109) -/

/-- A member that is not active holds its hold draw while it is ARMED, and nothing while it is DISARMED. -/
theorem ownDraw_idle {a : Axis} (h : a.state.active = false) : a.ownDraw = a.heldDraw := by
  unfold Axis.ownDraw Axis.heldDraw
  cases e : a.state <;> simp_all [AxisState.active]

/-- The allocation of an unpaired axis that is not active (R58, log entry 15). -/
theorem allocation_idle (hp : s.paired x = false) (h : s.isActive x = false) :
    s.allocation x = if (decide ((s.axis x).cfg.mode = .rehearse)) = (s.axis x).asLeft then (s.axis x).heldDraw else 0 := by
  have mode : s.rehearses x = decide ((s.axis x).cfg.mode = .rehearse) := by
    rw [State.rehearses, mode_solo hp]
  unfold State.allocation
  dsimp only
  rw [mode, hp, ownDraw_idle h]
  cases decide ((s.axis x).cfg.mode = .rehearse) <;> cases (s.axis x).asLeft <;> rfl

/-- The allocation of a leader whose pair holds no run: what its members hold, and nothing in REHEARSE mode (R110). -/
theorem allocation_waiting (hl : isLeader x = true) (hp : s.paired x = true) (hr : (s.pair x).run = false) :
    s.allocation x =
      if (s.axis x).cfg.mode = .rehearse then 0 else (s.axis x).heldDraw + (s.axis (followerOf x)).heldDraw := by
  have mode : s.rehearses x = decide ((s.axis x).cfg.mode = .rehearse) := by
    rw [State.rehearses, State.mode, if_pos hp, leaderOf_of_isLeader hl]
  unfold State.allocation
  rw [mode, hp, hl, hr]
  by_cases h : (s.axis x).cfg.mode = .rehearse <;> simp [h]

/-- A pair's follower carries no allocation (R110). -/
theorem allocation_follower (hl : isLeader x = false) (hp : s.paired x = true) : s.allocation x = 0 := by
  unfold State.allocation
  simp [hl, hp]

/-- A follower after the dissolution of its pair: the mark alone is new (R109, log entry 15). -/
def Axis.left (f : Axis) (mode : AxisMode) : Axis :=
  { f with asLeft := f.state = .armed && ((mode = .rehearse : Bool) != (f.cfg.mode = .rehearse)) }

variable {c : AxisConfig}

/-- The state that SET_AXIS leaves where it takes a leader's pair flag off. -/
theorem configureAxis_dissolves (ha : (s.axis x).cfg.pair = true) (hc : c.pair = false) (hne : x ≠ followerOf x) :
    s.configureAxis x c =
      ((s.putAxis x ((s.axis x).reconfigure c)).putPair x PairCtx.reset).putAxis (followerOf x)
        ((s.axis (followerOf x)).left (s.axis x).cfg.mode) := by
  rw [configureAxis_eq, if_pos ⟨ha, hc⟩]
  unfold State.dissolve Axis.left
  dsimp only
  rw [State.putAxis_axis_ne _ hne]

/-- A follower that is not active takes over what its leader held for it (R109). -/
theorem left_takes_over {f : Axis} {mode : AxisMode} (h : f.state.active = false) :
    (if decide (f.cfg.mode = .rehearse) = (f.left mode).asLeft then f.heldDraw else 0) =
      if mode = .rehearse then 0 else f.heldDraw := by
  by_cases armed : f.state = .armed
  · by_cases hm : mode = .rehearse <;> by_cases hf : f.cfg.mode = .rehearse <;> simp [Axis.left, armed, hm, hf]
  · have disarmed : f.heldDraw = 0 := by
      unfold Axis.heldDraw
      cases e : f.state <;> simp_all [AxisState.active]
    simp [disarmed]

/-- The dissolution of a pair that holds no run: the follower keeps its state and its chain, its own mode is in force, it takes
over the leader's allocation, and the total stands (R109, R100). -/
theorem dissolution (hl : isLeader x = true) (hp : s.paired x = true) (hc : c.pair = false) (hr : (s.pair x).run = false)
    (hx : (s.axis x).state = .disarmed) (hy : s.isActive (followerOf x) = false) :
    let t := s.configureAxis x c
    t.paired x = false ∧ (t.axis (followerOf x)).state = (s.axis (followerOf x)).state ∧
      (t.axis (followerOf x)).chain = (s.axis (followerOf x)).chain ∧
      t.mode (followerOf x) = (s.axis (followerOf x)).cfg.mode ∧ t.allocation x = 0 ∧
      t.allocation (followerOf x) = s.allocation x ∧ t.totalAllocation = s.totalAllocation := by
  intro t
  have leader : leaderOf x = x := leaderOf_of_isLeader hl
  have hne : x ≠ followerOf x := fun e => leaderOf_ne_followerOf x (leader.trans e)
  have ht : t = _ := configureAxis_dissolves (by rw [← leader]; exact hp) hc hne
  clear_value t
  have follower : t.axis (followerOf x) = (s.axis (followerOf x)).left (s.axis x).cfg.mode := by
    rw [ht, State.putAxis_axis_self]
  have own : t.axis x = (s.axis x).reconfigure c := by
    rw [ht, State.putAxis_axis_ne _ hne.symm, State.putPair_axis, State.putAxis_axis_self]
  obtain ⟨hcfg, hstate, -⟩ := reconfigure_role (s.axis x) c
  have solo : t.paired x = false := by rw [State.paired, leader, own, hcfg, hc]
  have solo' : t.paired (followerOf x) = false := by
    rw [paired_of_leaderOf_eq (x := x) (by simp)]
    exact solo
  have idle : t.isActive x = false := by
    rw [State.isActive, own, hstate, hx]
    rfl
  have idle' : t.isActive (followerOf x) = false := by
    rw [State.isActive, follower]
    exact hy
  have none_held : t.allocation x = 0 := by
    rw [allocation_idle solo idle, own]
    simp [Axis.heldDraw, hstate, hx]
  have taken : t.allocation (followerOf x) = s.allocation x := by
    rw [allocation_idle solo' idle', follower, allocation_waiting hl hp hr]
    have held : (s.axis x).heldDraw = 0 := by simp [Axis.heldDraw, hx]
    rw [held, Nat.zero_add]
    exact left_takes_over hy
  refine ⟨solo, by rw [follower]; rfl, by rw [follower]; rfl, ?_, none_held, taken, ?_⟩
  · rw [mode_solo solo', follower]
    rfl
  · have follows : s.allocation (followerOf x) = 0 :=
      allocation_follower (isLeader_followerOf x) ((paired_of_leaderOf_eq (x := x) (by simp)).trans hp)
    have change := totalAllocation_change (s := s) (t := t) {x, followerOf x} fun z hz => by
      have hz' : leaderOf z ≠ leaderOf x := fun e => by
        rw [leader] at e
        by_cases hxz : x = z
        · simp [hxz] at hz
        · simp [(member_of_ne e hxz).2] at hz
      have standing (w : AxisId) (hw : leaderOf w = leaderOf z) : t.axis w = s.axis w := by
        have hwx : x ≠ w := fun e => hz' (by rw [← hw, ← e])
        have hwf : followerOf x ≠ w := fun e => hz' (by rw [← hw, ← e, leaderOf_followerOf])
        rw [ht, State.putAxis_axis_ne _ hwf, State.putPair_axis, State.putAxis_axis_ne _ hwx]
      refine allocation_of_members (standing _ (by simp)) (standing _ (by simp)) ?_
      rw [ht, State.putAxis_pair, putPair_pair_ne hz']
      rfl
    rw [Finset.sum_pair hne, Finset.sum_pair hne, none_held, taken, follows] at change
    omega

end

/-- Settles O36: the bytes of SET_AXIS read back the configuration, the two checks are as R60 orders them, and the dissolution of
a pair leaves the leader's allocation with the follower. -/
theorem setAxis : Obligations.SetAxis := by
  unfold Obligations.SetAxis
  refine ⟨fun tag axis x c s h ht hx hc => ?_, fun tag axis station mode flags runDraw holdDraw low high guard jam times s h ht
    hbad => refused_of h (exec_setAxis h.1 ht ..) (reqSetAxis_badValue hbad)⟩
  dsimp only
  rw [exec_setAxis h.1 ht, reqSetAxis_fields hx hc, ← configFits_iff, ← configBusy_iff]
  refine ⟨fun hf => ?_, fun hf hb => ?_, fun hf hb => ?_, fun hf hb hl hp hcp hr => ?_⟩
  · rw [if_pos (by simpa using hf), requestOutcome_self h]
  · rw [if_neg (by simp [hf]), if_pos hb, requestOutcome_self h]
  · rw [if_neg (by simp [hf]), if_neg hb, configureAxis_eq, reconfigure_eq]
    rfl
  · rw [configBusy_iff, not_or, not_or, not_or, not_not] at hb
    obtain ⟨hx, -, -, hy⟩ := hb
    have idle : s.isActive (followerOf x) = false := by simpa [hl, hp, hcp] using hy
    refine ⟨s.configureAxis x c, ?_, dissolution hl hp hcp hr hx idle⟩
    rw [if_neg (by simp [hf]), if_neg (by rw [configBusy_iff]; simp [hx, hcp, idle, hl])]
    rfl

end Sys2Proof.Machine
end

section
/-! PROOFS. The grant pass: its order, the grants of its two steps as folds over the list, and the events that bring one. -/

namespace Sys2Proof.Machine

section
variable {s t u : State} {x y z : AxisId} {e : PendingEntry} {granted : List PendingEntry}

/-! ### The order of a pass (R105) -/

/-- The axis after an axis by some places, round from A7 to A0. -/
def AxisId.onward (p : AxisId) (i : AxisId) : AxisId := ⟨(p.val + 1 + i.val) % 8, by omega⟩

theorem passOrder_fixed (h : s.arbiter.policy = .fixed) : s.passOrder = allAxes := by
  unfold State.passOrder
  rw [h]

theorem passOrder_rotating (h : s.arbiter.policy = .rotating) :
    s.passOrder = allAxes.map (AxisId.onward s.arbiter.pointer) := by
  unfold State.passOrder
  rw [h]
  rfl

/-- Every axis has its place in the order. -/
theorem mem_passOrder : x ∈ s.passOrder := by
  cases h : s.arbiter.policy with
  | fixed =>
    rw [passOrder_fixed h]
    exact mem_allAxes x
  | rotating =>
    rw [passOrder_rotating h]
    generalize s.arbiter.pointer = p
    revert p x
    decide

theorem onward_order (p : AxisId) :
    (allAxes.map (AxisId.onward p)).Nodup ∧ (allAxes.map (AxisId.onward p)).length = 8 ∧
      (allAxes.map (AxisId.onward p)).getLast? = some p := by
  revert p
  decide

/-- Two neighbours of the rotating order are neighbours round the axes. -/
theorem onward_next {p : AxisId} {k : Nat} (hx : (allAxes.map (AxisId.onward p))[k]? = some x)
    (hy : (allAxes.map (AxisId.onward p))[k + 1]? = some y) : y.val = (x.val + 1) % 8 := by
  have place {j : Nat} {w : AxisId} (hw : (allAxes.map (AxisId.onward p))[j]? = some w) : w.val = (p.val + 1 + j) % 8 := by
    rw [show allAxes = List.finRange 8 by decide, List.getElem?_map, Option.map_eq_some_iff] at hw
    obtain ⟨i, hi, rfl⟩ := hw
    obtain ⟨hj, rfl⟩ := List.getElem?_eq_some_iff.mp hi
    simp [AxisId.onward]
  rw [place hx, place hy]
  omega

/-! ### A grant (R106) -/

theorem fits_iff : s.fits e = true ↔ s.totalAllocation + e.increase ≤ s.arbiter.budget := by simp [State.fits]

/-- A grant takes the axis's entries off the list and moves the pointer, and keeps the rest of the arbiter. -/
theorem grant_arbiter :
    (s.grant e).arbiter =
      { s.arbiter with waiting := s.arbiter.waiting.filter (·.axis ≠ e.axis), pointer := e.axis } := by
  unfold State.grant
  dsimp only
  split
  · rfl
  · rw [enter_arbiter]

theorem grant_waiting : (s.grant e).arbiter.waiting = s.arbiter.waiting.filter (·.axis ≠ e.axis) :=
  congrArg Arbiter.waiting grant_arbiter

theorem grant_budget : (s.grant e).arbiter.budget = s.arbiter.budget := by rw [grant_arbiter]

/-- The arbiter of a grant: the axis's entries are off the list, and the pointer has moved. -/
def State.granting (s : State) (x : AxisId) : State :=
  { s with arbiter := { s.arbiter with waiting := s.arbiter.waiting.filter (·.axis ≠ x), pointer := x } }

/-- An axis that carries its own allocation again (log entry 15). -/
def Axis.unmarked (a : Axis) : Axis := { a with asLeft := false }

/-- An axis that runs on its own draw. -/
def Axis.onOwnDraw (a : Axis) : Axis := a.unmarked.settled .running

/-- The grant of an unpaired axis takes it to RUNNING on its own allocation (R67, R58). -/
theorem grant_solo (h : e.pair = false) :
    SameBut ((s.granting e.axis).putAxis e.axis (s.axis e.axis).onOwnDraw) (s.grant e) := by
  have enters : s.grant e = (s.granting e.axis).enter e.axis .running Axis.unmarked :=
    if_neg (by simp [h])
  rw [enters]
  exact enter_sameBut (s.granting e.axis) e.axis .running Axis.unmarked

theorem grant_solo_axis (h : e.pair = false) : (s.grant e).axis e.axis = (s.axis e.axis).onOwnDraw := by
  rw [(grant_solo h).axis, State.putAxis_axis_self]

theorem grant_solo_axis_ne (h : e.pair = false) (hz : z ≠ e.axis) : (s.grant e).axis z = s.axis z := by
  rw [(grant_solo h).axis, State.putAxis_axis_ne _ (Ne.symm hz)]
  rfl

theorem grant_solo_pair (h : e.pair = false) : (s.grant e).pair z = s.pair z := (grant_solo h).pair z

theorem grant_solo_passDue (h : e.pair = false) : (s.grant e).passDue = s.passDue := (grant_solo h).passDue

theorem grant_solo_cfg (h : e.pair = false) (z : AxisId) : ((s.grant e).axis z).cfg = (s.axis z).cfg := by
  by_cases hz : z = e.axis
  · subst hz
    rw [grant_solo_axis h]
    rfl
  · rw [grant_solo_axis_ne h hz]

/-- An unpaired axis that changes, and keeps its configuration, changes no other axis's allocation (R58, R110). -/
theorem allocation_of_others (hp : s.paired x = false) (hc : ∀ w, (t.axis w).cfg = (s.axis w).cfg)
    (ha : ∀ w, w ≠ x → t.axis w = s.axis w) (hq : ∀ w, t.pair w = s.pair w) (hz : z ≠ x) :
    t.allocation z = s.allocation z := by
  unfold State.allocation
  dsimp only
  rw [paired_of_cfg hc, rehearses_of_cfg hc, hq, ha z hz]
  cases h : s.paired z with
  | false => rfl
  | true =>
    have hf : followerOf z ≠ x := fun e => by
      have paired : s.paired x = true := (paired_of_leaderOf_eq (by rw [← e]; simp)).trans h
      simp [hp] at paired
    rw [ha _ hf]

/-- The grant of an unpaired axis raises the total by what its entry asks for (R106, R58; log entry 15). -/
theorem grant_totalAllocation (h : e.pair = false) (hp : s.paired e.axis = false) (hr : s.rehearses e.axis = false)
    (hs : (s.axis e.axis).state = .pending) (hd : (s.axis e.axis).cfg.holdDraw ≤ (s.axis e.axis).cfg.runDraw)
    (hi : e.increase = (s.axis e.axis).cfg.runDraw - (if (s.axis e.axis).asLeft then 0 else (s.axis e.axis).cfg.holdDraw)) :
    (s.grant e).totalAllocation = s.totalAllocation + e.increase := by
  have before : s.allocation e.axis = if (s.axis e.axis).asLeft then 0 else (s.axis e.axis).cfg.holdDraw := by
    simp [State.allocation, hp, hr, Axis.ownDraw, hs]
  have after : (s.grant e).allocation e.axis = (s.axis e.axis).cfg.runDraw := by
    unfold State.allocation
    dsimp only
    rw [paired_of_cfg (grant_solo_cfg h), rehearses_of_cfg (grant_solo_cfg h), hp, hr, grant_solo_axis h]
    rfl
  have change := totalAllocation_change (s := s) (t := s.grant e) {e.axis} fun z hz =>
    allocation_of_others hp (grant_solo_cfg h) (fun w hw => grant_solo_axis_ne h hw) (fun w => grant_solo_pair h)
      (by simpa using hz)
  rw [Finset.sum_singleton, Finset.sum_singleton, before, after] at change
  split at hi <;> rename_i hleft <;> simp only [hleft] at change <;> simp at change <;> omega

/-! ### The two steps of a pass (R106) -/

/-- One urgent entry of step 1: it is granted while it fits, and the first that does not ends the pass. -/
def urgentStep (budget : Nat) (r : State × List PendingEntry × Bool) (e : PendingEntry) : State × List PendingEntry × Bool :=
  if r.2.2 then r
  else if r.1.totalAllocation + e.increase ≤ budget then (r.1.grant e, r.2.1 ++ [e], false)
  else (r.1, r.2.1, true)

/-- One axis of step 2: its entry is granted where it fits. -/
def orderedStep (budget : Nat) (r : State × List PendingEntry) (x : AxisId) : State × List PendingEntry :=
  match r.1.arbiter.waiting.find? (·.axis = x) with
  | none => r
  | some e => if r.1.totalAllocation + e.increase ≤ budget then (r.1.grant e, r.2 ++ [e]) else r

/-- Behind an urgent entry that does not fit, nothing is granted. -/
theorem urgentStep_ended {budget : Nat} (es : List PendingEntry) :
    es.foldl (urgentStep budget) (t, granted, true) = (t, granted, true) := by
  induction es with
  | nil => rfl
  | cons e es ih => exact ih

/-- A grant takes its entry off the urgent ones, and no other. -/
theorem grant_urgent {es : List PendingEntry} (hn : (t.arbiter.waiting.map (·.axis)).Nodup)
    (h : t.arbiter.waiting.filter (·.urgent) = e :: es) : (t.grant e).arbiter.waiting.filter (·.urgent) = es := by
  have distinct : ((e :: es).map (·.axis)).Nodup := h ▸ hn.sublist (List.filter_sublist.map _)
  have others : ∀ f ∈ es, f.axis ≠ e.axis := fun f hf ef =>
    (List.nodup_cons.mp distinct).1 (List.mem_map.mpr ⟨f, hf, ef⟩)
  rw [grant_waiting, List.filter_comm, h, List.filter_cons_of_neg (by simp)]
  exact List.filter_eq_self.mpr fun f hf => by simpa using others f hf

theorem grant_nodup (hn : (t.arbiter.waiting.map (·.axis)).Nodup) : ((t.grant e).arbiter.waiting.map (·.axis)).Nodup := by
  rw [grant_waiting]
  exact hn.sublist (List.filter_sublist.map _)

/-- Step 1 takes the urgent entries in their order. -/
theorem urgentGrants_eq {fuel : Nat} (hn : (t.arbiter.waiting.map (·.axis)).Nodup)
    (hfuel : (t.arbiter.waiting.filter (·.urgent)).length < fuel) :
    urgentGrants fuel t granted =
      (let r := (t.arbiter.waiting.filter (·.urgent)).foldl (urgentStep t.arbiter.budget) (t, granted.reverse, false)
       (r.1, r.2.1.reverse, r.2.2)) := by
  induction fuel generalizing t granted with
  | zero => omega
  | succ fuel ih =>
    unfold urgentGrants
    cases h : t.arbiter.waiting.filter (·.urgent) with
    | nil =>
      have found : t.arbiter.waiting.find? (·.urgent) = none := by rw [← List.head?_filter, h]; rfl
      rw [found]
      simp
    | cons e es =>
      have found : t.arbiter.waiting.find? (·.urgent) = some e := by rw [← List.head?_filter, h]; rfl
      rw [found, List.foldl_cons]
      dsimp only
      by_cases hf : t.fits e = true
      · have rest := grant_urgent hn h
        rw [if_pos hf, ih (grant_nodup hn) (by rw [rest]; rw [h] at hfuel; exact Nat.lt_of_succ_lt_succ hfuel), rest,
          grant_budget, urgentStep, if_neg (by simp), if_pos (fits_iff.mp hf), List.reverse_cons]
      · rw [if_neg hf, urgentStep, if_neg (by simp), if_neg (fun h => hf (fits_iff.mpr h)), urgentStep_ended]
        simp

/-- Step 2 takes the axes in their order. -/
theorem orderedGrants_eq (xs : List AxisId) :
    orderedGrants xs t granted =
      (let r := xs.foldl (orderedStep t.arbiter.budget) (t, granted.reverse)
       (r.1, r.2.reverse)) := by
  induction xs generalizing t granted with
  | nil => simp [orderedGrants]
  | cons x xs ih =>
    unfold orderedGrants
    rw [List.foldl_cons, orderedStep]
    dsimp only
    cases t.arbiter.waiting.find? (·.axis = x) with
    | none => exact ih
    | some e =>
      dsimp only
      by_cases hf : t.fits e = true
      · rw [if_pos hf, if_pos (fits_iff.mp hf), ih, grant_budget, List.reverse_cons]
      · rw [if_neg hf, if_neg (fun h => hf (fits_iff.mpr h)), ih]

/-- A list of axes without repetition leaves the fuel of step 1 unspent. -/
theorem urgent_length (hn : (s.arbiter.waiting.map (·.axis)).Nodup) :
    (s.arbiter.waiting.filter (·.urgent)).length < 9 := by
  have all := hn.length_le_card
  rw [List.length_map, Fintype.card_fin] at all
  have some := List.length_filter_le (·.urgent) s.arbiter.waiting
  omega

/-- Step 1 keeps the budget total. -/
theorem urgentStep_budget {budget : Nat} (es : List PendingEntry) (r : State × List PendingEntry × Bool) :
    (es.foldl (urgentStep budget) r).1.arbiter.budget = r.1.arbiter.budget := by
  induction es generalizing r with
  | nil => rfl
  | cons e es ih =>
    rw [List.foldl_cons, ih, urgentStep]
    split
    · rfl
    · split
      · exact grant_budget
      · rfl

/-- A pass: step 1 on the urgent entries, then step 2 on the axes in the order of the pass's beginning (R106). -/
theorem passGrants_eq (hn : (s.arbiter.waiting.map (·.axis)).Nodup) :
    s.passGrants =
      (let urgent := (s.arbiter.waiting.filter (·.urgent)).foldl (urgentStep s.arbiter.budget) (s, [], false)
       if urgent.2.2 then (urgent.1, urgent.2.1)
       else s.passOrder.foldl (orderedStep s.arbiter.budget) (urgent.1, urgent.2.1)) := by
  have budget := urgentStep_budget (budget := s.arbiter.budget) (s.arbiter.waiting.filter (·.urgent)) (s, [], false)
  unfold State.passGrants
  rw [urgentGrants_eq hn (urgent_length hn), List.reverse_nil]
  generalize (s.arbiter.waiting.filter (·.urgent)).foldl (urgentStep s.arbiter.budget) (s, [], false) = r at budget ⊢
  obtain ⟨t, granted, ended⟩ := r
  cases ended with
  | true => simp
  | false =>
    dsimp only at budget ⊢
    rw [orderedGrants_eq, List.reverse_reverse, budget]
    simp

/-- An urgent entry that does not fit, the oldest, ends the pass before any grant (R106). -/
theorem passGrants_held (h : s.arbiter.waiting.find? (·.urgent) = some e) (hf : s.fits e = false) :
    s.passGrants = (s, []) := by
  unfold State.passGrants
  rw [urgentGrants, h]
  simp [hf]

/-! ### A list of one entry -/

/-- With no entry on the list, an axis's turn grants nothing. -/
theorem orderedGrants_empty (h : t.arbiter.waiting = []) (xs : List AxisId) : orderedGrants xs t granted = (t, granted) := by
  induction xs with
  | nil => rfl
  | cons x xs ih =>
    rw [orderedGrants, h]
    exact ih

/-- An entry that does not fit waits on. -/
theorem orderedGrants_unfit (h : t.arbiter.waiting = [e]) (hf : t.fits e = false) (xs : List AxisId) :
    orderedGrants xs t granted = (t, granted) := by
  induction xs with
  | nil => rfl
  | cons x xs ih =>
    rw [orderedGrants, h]
    by_cases hx : e.axis = x
    · simp [hx, hf, ih]
    · simp [hx, ih]

theorem grant_sole (h : t.arbiter.waiting = [e]) : (t.grant e).arbiter.waiting = [] := by
  rw [grant_waiting, h]
  simp

/-- An entry that fits is granted at its axis's turn. -/
theorem orderedGrants_fits (h : t.arbiter.waiting = [e]) (hf : t.fits e = true) {xs : List AxisId} (hx : e.axis ∈ xs) :
    orderedGrants xs t granted = (t.grant e, e :: granted) := by
  induction xs with
  | nil => cases hx
  | cons x xs ih =>
    rw [orderedGrants, h]
    by_cases he : e.axis = x
    · simp [he, hf, orderedGrants_empty (grant_sole h)]
    · simp only [List.find?, he, decide_false]
      exact ih ((List.mem_cons.mp hx).resolve_left he)

/-- A pass over one entry that does not fit grants nothing. -/
theorem passGrants_unfit (h : s.arbiter.waiting = [e]) (hf : s.fits e = false) : s.passGrants = (s, []) := by
  by_cases hu : e.urgent = true
  · exact passGrants_held (e := e) (by simp [h, hu]) hf
  · unfold State.passGrants
    rw [urgentGrants, h]
    simp [hu, orderedGrants_unfit h hf]

/-- A pass over one entry that fits grants it. -/
theorem passGrants_fits (h : s.arbiter.waiting = [e]) (hf : s.fits e = true) : s.passGrants = (s.grant e, [e]) := by
  unfold State.passGrants
  by_cases hu : e.urgent = true
  · rw [urgentGrants, h]
    simp [hu, hf, urgentGrants, grant_sole h, orderedGrants_empty (grant_sole h)]
  · rw [urgentGrants, h]
    simp [hu, orderedGrants_fits h hf mem_passOrder]

/-! ### The event that takes a pass (R104) -/

/-- The entries that stood on the list before the event, then those that joined in it by axis number (R101). -/
theorem sortJoined_eq :
    s.sortJoined t =
      (let stood := fun e : PendingEntry => s.arbiter.waiting.any (·.axis = e.axis)
       { t with
         arbiter :=
          { t.arbiter with
            waiting := t.arbiter.waiting.filter stood ++
              allAxes.flatMap fun x => t.arbiter.waiting.filter fun e => !stood e && e.axis = x } }) := by
  unfold State.sortJoined
  simp only [List.filter_filter, Bool.and_comm]

/-- One entry is in its place, whether it stood or joined. -/
theorem sortJoined_sole (h : t.arbiter.waiting = [e]) : s.sortJoined t = t := by
  have own : (allAxes.flatMap fun x => if e.axis = x then [e] else []) = [e] := by
    generalize e.axis = a
    fin_cases a <;> rfl
  have listed : (s.sortJoined t).arbiter.waiting = t.arbiter.waiting := by
    rw [sortJoined_eq, h]
    by_cases hs : (s.arbiter.waiting.any (·.axis = e.axis)) = true
    · simp [hs]
    · rw [Bool.not_eq_true] at hs
      simp only [List.filter_cons, hs, List.filter_nil, Bool.not_false, Bool.true_and, decide_eq_true_eq]
      exact own
  have kept : s.sortJoined t = { t with arbiter := { t.arbiter with waiting := (s.sortJoined t).arbiter.waiting } } := rfl
  rw [kept, listed]

/-- An event that is not due a pass leaves its own change. -/
theorem settleEvent_quiet {n : Nat} (h : ¬ (t.passDue = true ∨ t.totalAllocation < s.totalAllocation)) :
    settleEvent n s t = t := by
  cases n with
  | zero => rfl
  | succ n => exact if_neg h

/-- What a pass at the end of an event grants. -/
def State.passOf (s after : State) : State × List PendingEntry :=
  ({ s.sortJoined after with passDue := false } : State).passGrants

/-- An event that is due a pass takes it, and what follows the grants is an event of its own. -/
theorem settleEvent_due {n : Nat} (h : t.passDue = true ∨ t.totalAllocation < s.totalAllocation) :
    settleEvent (n + 1) s t =
      settleEvent n (s.passOf t).1 ((s.passOf t).2.foldl (fun u e => u.afterGrant e) (s.passOf t).1) := by
  rw [settleEvent, if_pos h]
  rfl

/-- The pass of an event that leaves one entry on the list. -/
theorem passOf_sole (h : t.arbiter.waiting = [e]) : s.passOf t = ({ t with passDue := false } : State).passGrants := by
  rw [State.passOf, sortJoined_sole h]

/-! ### What follows the grant of an unpaired axis (R67) -/

theorem grantTrip_stands (h : ¬ ((s.axis x).state.moving = true ∧ (s.axis x).trippedAhead = true ∧ (!s.rehearses x) = true)) :
    s.grantTrip x = s := if_neg h

theorem grantTrip_trips (hm : (s.axis x).state.moving = true) (ht : (s.axis x).trippedAhead = true)
    (hr : s.rehearses x = false) : s.grantTrip x = s.tripped x (s.axis x).dir.stop :=
  if_pos ⟨hm, ht, by simp [hr]⟩

end

/-- Settles O43: the order of a pass, its two steps as folds over the list, what a grant does to the total, when an event takes a
pass, and the look at the stop that follows a grant. -/
theorem passOrderAndGrant : Obligations.PassOrderAndGrant := by
  unfold Obligations.PassOrderAndGrant
  refine ⟨fun s => ⟨passOrder_fixed, fun h => ?_⟩, fun s before after e hw hb he hf => ?_, fun s hn => ?_,
    fun s e he hp hr hs hd hi => ?_, fun s after => ?_, fun s after e hdue hw => ?_, fun s e he => ?_⟩
  · rw [passOrder_rotating h]
    obtain ⟨hn, hl, hlast⟩ := onward_order s.arbiter.pointer
    exact ⟨hn, hl, hlast, fun k x y => onward_next⟩
  · refine passGrants_held (e := e) ?_ (by simpa [State.fits] using hf)
    rw [hw, List.find?_append, List.find?_eq_none.mpr (by simpa using hb), List.find?_cons_of_pos he]
    rfl
  · exact passGrants_eq hn
  · have total := grant_totalAllocation he hp hr hs hd hi
    refine ⟨by rw [grant_solo_axis he]; rfl, by rw [grant_arbiter], fun f hf => ?_, total, fun hfit => ?_⟩
    · rw [grant_waiting] at hf
      simpa using (List.mem_filter.mp hf).2
    · rw [total]
      exact fits_iff.mp hfit
  · intro due pass next
    have pass_eq (s after : State) : pass s after = s.passOf after := by
      rw [State.passOf, sortJoined_eq]
    have next_eq (s after : State) :
        next s after = (s.passOf after).2.foldl (fun t e => t.afterGrant e) (s.passOf after).1 := by
      rw [← pass_eq]
    refine ⟨rfl, fun n h => ?_, fun n h => settleEvent_quiet h, fun h hq => ?_⟩
    · rw [pass_eq, next_eq]
      exact settleEvent_due h
    · rw [pass_eq, next_eq] at hq
      rw [next_eq]
      exact (settleEvent_due h).trans (settleEvent_quiet hq)
  · have total : ({ after with passDue := false } : State).totalAllocation = after.totalAllocation :=
      totalAllocation_congr rfl rfl
    have standing : ({ after with passDue := false } : State).fits e = after.fits e := by
      rw [State.fits, State.fits, total]
    refine ⟨fun hf => ?_, fun hf he _ hp hr hstop => ?_⟩
    · refine (settleEvent_due hdue).trans ?_
      rw [passOf_sole hw, passGrants_unfit (s := { after with passDue := false }) hw (standing.trans hf)]
      exact settleEvent_quiet (by simp)
    · refine (settleEvent_due hdue).trans ?_
      rw [passOf_sole hw, passGrants_fits (s := { after with passDue := false }) hw (standing.trans hf)]
      have clear : ((({ after with passDue := false } : State).grant e).axis e.axis).trippedAhead = false := by
        rw [grant_solo_axis he]
        exact decide_eq_false hstop
      rw [List.foldl_cons, List.foldl_nil, afterGrant_unpaired he, grantTrip_clear clear]
      exact settleEvent_quiet (by simp [grant_solo_passDue he])
  · intro x a trips
    have moves : trips ↔ (s.axis x).state.moving = true ∧ (s.axis x).trippedAhead = true ∧ (!s.rehearses x) = true := by
      simp only [trips, a, moving_iff, Axis.trippedAhead, decide_eq_true_eq, Bool.not_eq_true']
      tauto
    rw [afterGrant_unpaired he]
    refine ⟨fun h => grantTrip_stands (moves.not.mp h), fun h hseek => ?_, fun h hseek => ?_⟩
    · obtain ⟨hm, ht, hr⟩ := moves.mp h
      rw [grantTrip_trips hm ht (by simpa using hr)]
      exact if_neg hseek
    · obtain ⟨hm, ht, hr⟩ := moves.mp h
      rw [grantTrip_trips hm ht (by simpa using hr)]
      exact if_pos hseek

end Sys2Proof.Machine
end

section
/-! PROOFS. A pair's members: what settling, the end of a run and an alert do to them, and the halt of both. -/

namespace Sys2Proof.Machine

section
variable {s t u : State} {x y z : AxisId} {d : Disposition}

/-! ### Partners (0.7) -/

theorem partnerOf_ne : partnerOf x ≠ x := by revert x; decide

/-- An axis of the same pair is the axis itself or its partner. -/
theorem eq_or_partner (h : leaderOf y = leaderOf x) : y = x ∨ y = partnerOf x := by revert x y; decide

theorem partnerOf_leader (h : isLeader x = true) : partnerOf x = followerOf x := by revert x; decide

theorem partnerOf_follower : partnerOf (followerOf x) = leaderOf x := by revert x; decide

/-! ### The pair contexts that stand -/

@[simp] theorem disarm_pair {keep : Bool} : (s.disarm x keep).pair y = s.pair y := by
  by_cases h : (s.axis x).state = .disarmed
  · rw [disarm_of_disarmed h]
  · rw [(disarm_core h).pair, State.putAxis_pair, unpinChain_only]
    rfl

theorem settlePair_pair_ne (h : leaderOf y ≠ leaderOf x) : (s.settlePair x).pair y = s.pair y := by
  unfold State.settlePair
  dsimp only
  split
  · exact putPair_pair_ne h
  · rfl

theorem settleBy_pair_ne (h : leaderOf y ≠ leaderOf x) : (s.settleBy x d).pair y = s.pair y := by
  unfold State.settleBy
  extract_lets a p ending s1 s2
  have settled : s1.pair y = s.pair y := by
    cases d with
    | pause => exact enter_pair ..
    | abandon =>
      show (if ending && !a.cfg.repeats then _ else _ : State).pair y = s.pair y
      split
      · exact disarm_pair
      · exact enter_pair ..
    | disarm => exact disarm_pair
  have posted : s2.pair y = s1.pair y := by
    show (if ending then _ else s1 : State).pair y = s1.pair y
    split
    · rw [State.post_pair, putPair_pair_ne h]
    · rfl
  rw [settlePair_pair_ne h, posted, settled]

/-- A disposition handed to an axis touches no other pair's context. -/
theorem handDisposition_pair_ne (h : leaderOf y ≠ leaderOf x) : (s.handDisposition x d).pair y = s.pair y := by
  unfold State.handDisposition
  split
  · exact enter_pair ..
  · rfl
  · exact settleBy_pair_ne (s := s.withdraw x) h
  · exact settleBy_pair_ne h
  · exact settleBy_pair_ne h
  · split
    · exact disarm_pair
    · rfl
  · rfl

/-! ### Settling (R116) -/

/-- The context of a pair whose run has ended: its loops stand (log entry 28). -/
def PairCtx.ended (p : PairCtx) : PairCtx := { p with run := false, endFlag := false, runSum := 0 }

theorem settlePair_ends (hp : s.paired x = true) (hr : (s.pair x).run = true) (hl : s.isActive (leaderOf x) = false)
    (hf : s.isActive (followerOf x) = false) : s.settlePair x = s.putPair x (s.pair x).ended :=
  if_pos (by simp [hp, hr, hl, hf])

theorem settlePair_active (h : s.isActive (leaderOf x) = true ∨ s.isActive (followerOf x) = true) : s.settlePair x = s :=
  if_neg (by rcases h with h | h <;> simp [h])

theorem settlePair_no_run (h : (s.pair x).run = false) : s.settlePair x = s := if_neg (by simp [h])

/-- A pair settles in its context alone. -/
theorem settlePair_eq : s.settlePair x = s ∨ s.settlePair x = s.putPair x (s.pair x).ended := by
  unfold State.settlePair
  dsimp only
  split
  · exact .inr rfl
  · exact .inl rfl

@[simp] theorem settlePair_axis : (s.settlePair x).axis y = s.axis y := by
  rcases settlePair_eq (s := s) (x := x) with e | e <;> simp [e]

@[simp] theorem settlePair_lines : (s.settlePair x).lines = s.lines := by
  rcases settlePair_eq (s := s) (x := x) with e | e <;> simp [e]

theorem settlePair_line {l : LineId} : (s.settlePair x).line l = s.line l := by rw [State.line, settlePair_lines, State.line]

@[simp] theorem settlePair_arbiter : (s.settlePair x).arbiter = s.arbiter := by
  rcases settlePair_eq (s := s) (x := x) with e | e <;> simp [e]

@[simp] theorem settlePair_part : (s.settlePair x).part = s.part := by
  rcases settlePair_eq (s := s) (x := x) with e | e <;> simp [e]

/-! ### The end of a pair's run (R117) -/

/-- Either member's activity is the activity of an axis and of its partner. -/
theorem members_active : (s.isActive (leaderOf x) = true ∨ s.isActive (followerOf x) = true) ↔
    (s.isActive x = true ∨ s.isActive (partnerOf x) = true) := by
  rcases eq_leaderOf_or_followerOf x with e | e
  · have hl : isLeader x = true := by rw [e, isLeader_leaderOf]
    rw [partnerOf_leader hl, ← e]
  · have hp : partnerOf x = leaderOf x := by
      have := partnerOf_follower (x := x)
      rwa [← e] at this
    rw [hp, ← e, or_comm]

theorem settlePair_members (hp : s.paired x = true) (hr : (s.pair x).run = true) (hx : s.isActive x = false)
    (hy : s.isActive (partnerOf x) = false) : s.settlePair x = s.putPair x (s.pair x).ended := by
  have idle := (members_active (s := s) (x := x)).not.mpr (by simp [hx, hy])
  rw [not_or, Bool.not_eq_true, Bool.not_eq_true] at idle
  exact settlePair_ends hp hr idle.1 idle.2

/-- A RUNNING partner receives DISARM and goes to STOPPING; the run stands (R117). -/
theorem endRun_running (hp : s.paired x = true) (hr : (s.pair x).run = true)
    (hy : (s.axis (partnerOf x)).state = .running) :
    s.endRun x = s.enter (partnerOf x) .stopping fun a => { a with disposition := some .disarm } := by
  have ends : s.endRun x = (s.handDisposition (partnerOf x) .disarm).settlePair x := if_pos ⟨hp, hr⟩
  rw [ends, handDisposition_running hy]
  refine settlePair_active (members_active.mpr (.inr ?_))
  rw [State.isActive, enter_axis_self]
  rfl

/-- A partner that is not active ends DISARMED, and the pair settles with it (R117, log entry 21). -/
theorem endRun_idle (hp : s.paired x = true) (hr : (s.pair x).run = true) (hx : (s.axis x).state = .disarmed)
    (hy : (s.axis (partnerOf x)).state = .armed ∨ (s.axis (partnerOf x)).state = .disarmed) :
    s.endRun x = (s.disarm (partnerOf x) false).putPair x (s.pair x).ended := by
  have ends : s.endRun x = (s.handDisposition (partnerOf x) .disarm).settlePair x := if_pos ⟨hp, hr⟩
  have handed : s.handDisposition (partnerOf x) .disarm = s.disarm (partnerOf x) false := by
    rcases hy with h | h
    · rw [handDisposition_armed h, if_pos rfl]
    · rw [handDisposition_disarmed h, disarm_of_disarmed h]
  have partner : ((s.disarm (partnerOf x) false).axis (partnerOf x)).state = .disarmed := by
    by_cases h : (s.axis (partnerOf x)).state = .disarmed
    · rw [disarm_of_disarmed h, h]
    · rw [disarm_axis_self h]
      rfl
  rw [ends, handed, settlePair_members ((disarm_paired x).trans hp) (by rw [disarm_pair, hr])
    (by rw [State.isActive, disarm_axis_ne partnerOf_ne, hx]; rfl) (by rw [State.isActive, partner]; rfl), disarm_pair]

/-- A member that DISARM and ABANDON find as they would leave it: DISARMED, or STOPPING with DISARM (R74). -/
def Axis.ending (a : Axis) : Prop := a.state = .disarmed ∨ (a.state = .stopping ∧ a.disposition = some .disarm)

theorem handDisposition_ending (hd : d ≠ .pause) (h : (s.axis x).ending) (y : AxisId) :
    (s.handDisposition x d).axis y = s.axis y ∧ (s.handDisposition x d).pair y = s.pair y := by
  rcases h with h | ⟨h, hdisp⟩
  · rw [handDisposition_disarmed h]
    exact ⟨rfl, rfl⟩
  · rw [handDisposition_stopping h, raiseTo_eq hd, if_pos hdisp]
    refine ⟨?_, rfl⟩
    by_cases e : x = y
    · subst e
      rw [State.putAxis_axis_self, ← hdisp]
    · rw [State.putAxis_axis_ne _ e]

/-- The two members of a pair, and its context, stand from a state to another. -/
def State.membersStand (s t : State) (x : AxisId) : Prop :=
  t.axis x = s.axis x ∧ t.axis (partnerOf x) = s.axis (partnerOf x) ∧ t.pair x = s.pair x

/-- Raising an alert leaves a pair whose members are ending as it is: the lock of its station hands it what it has (R33, R74). -/
theorem raise_members {k : AlertKind} {v : Severity} {n : Nat} {st : Option StationId} (hx : (s.axis x).ending)
    (hy : (s.axis (partnerOf x)).ending) : s.membersStand (s.raise k v n st).1 x := by
  have K : CoreKept fun t : State => s.membersStand t x := by
    refine ⟨fun hc ⟨h1, h2, h3⟩ => ⟨(hc.axis x).trans h1, (hc.axis _).trans h2, (hc.pair x).trans h3⟩,
      fun {t z d} hd ⟨h1, h2, h3⟩ => ?_⟩
    by_cases hz : leaderOf z = leaderOf x
    · have hend : (t.axis z).ending := by
        rcases eq_or_partner hz with rfl | rfl
        · exact h1 ▸ hx
        · exact h2 ▸ hy
      have stands := handDisposition_ending hd hend
      exact ⟨(stands x).1.trans h1, (stands _).1.trans h2, (stands x).2.trans h3⟩
    · have other (w : AxisId) (hw : leaderOf w = leaderOf x) : (t.handDisposition z d).axis w = t.axis w :=
        (handDisposition_axisMove d).axis w fun e => hz (by rw [← e, hw])
      exact ⟨(other x rfl).trans h1, (other _ (leaderOf_partnerOf x)).trans h2,
        (handDisposition_pair_ne fun e => hz e.symm).trans h3⟩
  exact K.raise ⟨rfl, rfl, rfl⟩

/-! ### An immediate halt (R76) -/

/-- The part of an immediate halt before its axis is disarmed: its entry withdrawn, its position in doubt if it moves. -/
def State.halting (s : State) (x : AxisId) : State :=
  if (s.axis x).state.moving ∧ !s.rehearses x then (s.withdraw x).putAxis x { s.axis x with valid := false } else s.withdraw x

theorem halted_eq {c : Cause} : s.halted x c = ((s.halting x).disarm x true).post (axisLine x) c := rfl

theorem halting_axis_self :
    (s.halting x).axis x =
      { s.axis x with
        valid := (s.axis x).valid &&
          !(((s.axis x).state = .running ∨ (s.axis x).state = .stopping) ∧ s.rehearses x = false : Bool) } := by
  unfold State.halting
  split <;> rename_i hm <;> rw [moving_iff, Bool.not_eq_true'] at hm
  · rw [State.putAxis_axis_self, decide_eq_true hm, Bool.not_true, Bool.and_false]
  · rw [decide_eq_false hm, Bool.not_false, Bool.and_true]
    rfl

theorem halting_axis_ne (h : x ≠ y) : (s.halting x).axis y = s.axis y := by
  unfold State.halting
  split
  · exact State.putAxis_axis_ne _ h _
  · rfl

/-- A halt's preparation moves nothing but the list and its axis. -/
theorem halting_only :
    (s.halting x).pairs = s.pairs ∧ (s.halting x).lines = s.lines ∧ (s.halting x).alerts = s.alerts ∧
      (s.halting x).part = s.part ∧ (s.halting x).arbiter = (s.withdraw x).arbiter := by
  unfold State.halting
  split <;> exact ⟨rfl, rfl, rfl, rfl, rfl⟩

theorem halting_state : ((s.halting x).axis x).state = (s.axis x).state := by rw [halting_axis_self]

theorem halted_axis_self {c : Cause} (h : (s.axis x).state ≠ .disarmed) : (s.halted x c).axis x = s.haltedAxis x := by
  rw [halted_eq, State.post_axis, disarm_axis_self (by rwa [halting_state]), halting_axis_self]
  rfl

theorem halted_axis_ne {c : Cause} (h : y ≠ x) : (s.halted x c).axis y = s.axis y := by
  rw [halted_eq, State.post_axis, disarm_axis_ne h.symm, halting_axis_ne h.symm]

theorem halted_pair {c : Cause} : (s.halted x c).pair y = s.pair y := by
  obtain ⟨hpairs, -⟩ := halting_only (s := s) (x := x)
  rw [halted_eq, State.post_pair, disarm_pair, State.pair, hpairs, State.pair]

theorem halting_disarm_part : ((s.halting x).disarm x true).part = s.part := by
  obtain ⟨-, -, -, hpart, -⟩ := halting_only (s := s) (x := x)
  by_cases h : ((s.halting x).axis x).state = .disarmed
  · rw [disarm_of_disarmed h, hpart]
  · rw [(disarm_sameBut _ x true h).part, State.putAxis_part, unpinChain_only]
    exact hpart

theorem halted_part {c : Cause} : (s.halted x c).part = s.part := by
  rw [halted_eq, State.post_part, halting_disarm_part]

theorem halted_bit {c : Cause} (h : s.part.condition = .inService) :
    ((s.halted x c).line (axisLine x)).causes.getLsbD c.bit = true := by
  rw [halted_eq]
  exact post_bit (by rw [halting_disarm_part, h])

end

end Sys2Proof.Machine
end

section
/-! PROOFS. A pair's run: its allocation, its trigger, grant and loads, its chain ends, its faults, and the halt of both members. -/

namespace Sys2Proof.Machine

-- In turn, since the check limits memory, and every proof under way holds a stack of its own.
set_option Elab.async false

section
variable {s t u v : State} {x y m : AxisId} {d : Disposition} {p : Profile} {e : PendingEntry}

/-! ### Allocations (R58, R110) -/

/-- The allocation of an unpaired axis by its mode, its mark and its state (R58, log entry 15). -/
theorem allocation_solo (h : s.paired x = false) :
    s.allocation x =
      if (s.axis x).cfg.mode = .rehearse then (if (s.axis x).asLeft then (s.axis x).heldDraw else 0)
      else if (s.axis x).asLeft then 0
      else if (s.axis x).state = .running ∨ (s.axis x).state = .stopping then (s.axis x).cfg.runDraw else (s.axis x).heldDraw := by
  have mode : s.rehearses x = decide ((s.axis x).cfg.mode = .rehearse) := by rw [State.rehearses, mode_solo h]
  have own : (s.axis x).ownDraw =
      if (s.axis x).state = .running ∨ (s.axis x).state = .stopping then (s.axis x).cfg.runDraw else (s.axis x).heldDraw := by
    unfold Axis.ownDraw Axis.heldDraw
    cases (s.axis x).state <;> simp
  unfold State.allocation
  dsimp only
  rw [if_neg (by simp [h]), mode, own]
  exact if_congr decide_eq_true_iff rfl rfl

theorem allocation_rehearses (hp : s.paired x = true) (hr : s.rehearses x = true) : s.allocation x = 0 := by
  simp [State.allocation, hp, hr]

theorem allocation_leader (hp : s.paired x = true) (hl : isLeader x = true) (hr : s.rehearses x = false) :
    s.allocation x =
      if (s.pair x).run then (s.pair x).runSum else (s.axis x).heldDraw + (s.axis (followerOf x)).heldDraw := by
  simp [State.allocation, hp, hl, hr]

/-- A pair whose run is over and whose members are DISARMED holds nothing (R110). -/
theorem allocation_over (hp : s.paired x = true) (hr : (s.pair x).run = false) (hx : (s.axis x).state = .disarmed)
    (hy : (s.axis (partnerOf x)).state = .disarmed) : s.allocation (leaderOf x) = 0 := by
  have members : (s.axis (leaderOf x)).heldDraw = 0 ∧ (s.axis (followerOf x)).heldDraw = 0 := by
    have held {z : AxisId} (hz : z = x ∨ z = partnerOf x) : (s.axis z).heldDraw = 0 := by
      rcases hz with rfl | rfl
      · simp [Axis.heldDraw, hx]
      · simp [Axis.heldDraw, hy]
    exact ⟨held (eq_or_partner (by simp)), held (eq_or_partner (by simp))⟩
  have paired : s.paired (leaderOf x) = true := (paired_of_leaderOf_eq (by simp)).trans hp
  cases h : s.rehearses (leaderOf x) with
  | true => exact allocation_rehearses paired h
  | false =>
    rw [allocation_leader paired (by simp) h, State.pair_leaderOf, hr, followerOf_leaderOf, members.1, members.2]
    rfl

/-! ### Triggers and grants (R112) -/

theorem trigger_pair (hp : s.paired x = true) (hs : (s.axis x).state = .armed) : s.trigger x = s.triggerPair x :=
  (if_pos hs).trans (if_pos hp)

/-- The context of a pair that is triggered. -/
def PairCtx.triggered (rehearses : Bool) : PairCtx := { run := rehearses, endFlag := false, loops := 0, runSum := 0 }

theorem triggerPair_block (hl : isLeader x = true) (hr : s.rehearses x = false) :
    s.triggerPair x =
      (((s.putPair x (.triggered false)).enter x .pending).enter (followerOf x) .pending).joinPending x := by
  unfold State.triggerPair
  dsimp only
  rw [hr, leaderOf_of_isLeader hl]
  rfl

theorem triggerPair_rehearse (hl : isLeader x = true) (hr : s.rehearses x = true) :
    s.triggerPair x =
      ((((s.putPair x (.triggered true)).startRehearsal x).startRehearsal (followerOf x)).loadMember x .armed).loadMember
        (followerOf x) .armed := by
  unfold State.triggerPair
  dsimp only
  rw [hr, leaderOf_of_isLeader hl]
  rfl

/-- The entry that a pair joins the list with (R101, R106). -/
def State.pairEntry (s : State) (x : AxisId) : PendingEntry :=
  { axis := leaderOf x, pair := true
    increase := (s.axis (leaderOf x)).cfg.runDraw + (s.axis (followerOf x)).cfg.runDraw -
      ((s.axis (leaderOf x)).cfg.holdDraw + (s.axis (followerOf x)).cfg.holdDraw)
    waited := 0, urgent := false }

theorem joinPending_axis : (s.joinPending x).axis y = s.axis y := rfl

theorem joinPending_pair : (s.joinPending x).pair y = s.pair y := rfl

theorem joinPending_passDue : (s.joinPending x).passDue = true := rfl

theorem joinPending_waiting (h : s.paired x = true) :
    (s.joinPending x).arbiter.waiting = s.arbiter.waiting ++ [s.pairEntry x] := by
  simp [State.joinPending, State.waitKey, State.requestedIncrease, State.pairEntry, h]

/-- A pair's entry is decided by its members' configurations. -/
theorem pairEntry_of_cfg (h : ∀ y, (t.axis y).cfg = (s.axis y).cfg) : t.pairEntry x = s.pairEntry x := by
  rw [State.pairEntry, h, h, State.pairEntry]

theorem leader_ne_follower (hl : isLeader x = true) : x ≠ followerOf x := fun h =>
  leaderOf_ne_followerOf x ((leaderOf_of_isLeader hl).trans h)

/-- A triggered BLOCK pair, its members PENDING, before it joins the list. -/
def State.pairPending (s : State) (x : AxisId) : State :=
  ((s.putPair x (.triggered false)).enter x .pending).enter (followerOf x) .pending

theorem pairPending_outcome (hl : isLeader x = true) :
    (s.pairPending x).axis x = (s.axis x).settled .pending ∧
      (s.pairPending x).axis (followerOf x) = (s.axis (followerOf x)).settled .pending ∧
      (s.pairPending x).pair x = .triggered false ∧ (s.pairPending x).arbiter = s.arbiter ∧
      ∀ y, ((s.pairPending x).axis y).cfg = (s.axis y).cfg := by
  have hne := leader_ne_follower hl
  unfold State.pairPending
  refine ⟨?_, ?_, ?_, ?_, fun y => ?_⟩
  · rw [enter_axis_ne _ hne.symm, enter_axis_self]
    rfl
  · rw [enter_axis_self, enter_axis_ne _ hne]
    rfl
  · rw [enter_pair, enter_pair, State.putPair_pair_self]
  · rw [enter_arbiter, enter_arbiter]
    rfl
  · exact ((enter_pairMove (x := followerOf x)).cfg y).trans ((enter_pairMove (x := x)).cfg y)

/-- Both members of a BLOCK pair wait for the pair's one grant (R112, R101). -/
theorem trigger_block (hp : s.paired x = true) (hl : isLeader x = true) (hs : (s.axis x).state = .armed)
    (hr : s.rehearses x = false) :
    (s.trigger x).axis x = (s.axis x).settled .pending ∧
      (s.trigger x).axis (followerOf x) = (s.axis (followerOf x)).settled .pending ∧
      (s.trigger x).pair x = .triggered false ∧ (s.trigger x).passDue = true ∧
      (s.trigger x).arbiter.waiting = s.arbiter.waiting ++ [s.pairEntry x] := by
  obtain ⟨hx, hy, hpair, harbiter, hcfg⟩ := pairPending_outcome (s := s) hl
  have joins : s.trigger x = (s.pairPending x).joinPending x :=
    (trigger_pair hp hs).trans (triggerPair_block hl hr)
  have waits := joinPending_waiting ((paired_of_cfg hcfg x).trans hp)
  rw [harbiter, pairEntry_of_cfg hcfg] at waits
  rw [joins, joinPending_axis, joinPending_axis, joinPending_pair]
  exact ⟨hx, hy, hpair, joinPending_passDue, waits⟩

theorem grant_pair (h : e.pair = true) :
    s.grant e = (s.granting e.axis).putPair e.axis { s.pair e.axis with run := true, runSum := s.runSum e.axis } := if_pos h

/-! ### Chain ends (R114, R115) -/

theorem chainEnd_leader (hp : s.paired x = true) (hl : isLeader x = true) (hr : (s.pair x).run = true) :
    s.chainEnd x = s.restartLeader x := (if_pos ⟨hp, hr⟩).trans (if_pos hl)

theorem chainEnd_follower (hp : s.paired x = true) (hr : (s.pair x).run = true) :
    s.chainEnd (followerOf x) = s.endPair (followerOf x) := by
  have hp' : s.paired (followerOf x) = true := (paired_of_leaderOf_eq (by simp)).trans hp
  have hr' : (s.pair (followerOf x)).run = true := by
    rw [State.pair, pairIndex_followerOf]
    exact hr
  exact (if_pos ⟨hp', hr'⟩).trans (if_neg (by simp))

/-- The settling at a chain end: its own axis goes to ARMED or DISARMED, and the pair's context stands (R71). -/
theorem settleChainEnd_outcome (hs : (s.axis x).state ≠ .disarmed) :
    ((s.settleChainEnd x).axis x).state = (if (s.axis x).cfg.repeats then .armed else .disarmed) ∧
      (∀ y, (s.settleChainEnd x).pair y = s.pair y) ∧
      (s.part.condition = .inService →
        ((s.settleChainEnd x).line (axisLine x)).causes.getLsbD Cause.chainEnd.bit = true) := by
  have posted (hc : s.part.condition = .inService) :
      ((s.chainEnded x).line (axisLine x)).causes.getLsbD Cause.chainEnd.bit = true := post_bit hc
  cases h : (s.axis x).cfg.repeats with
  | true =>
    rw [settleChainEnd_repeats h, enter_axis_self, enter_axisLine]
    refine ⟨rfl, fun y => (enter_pair _ _ _ _ _).trans (s.post_pair ..), posted⟩
  | false =>
    rw [settleChainEnd_ends h, disarm_axis_self (by rwa [chainEnded_axis]), disarm_axisLine]
    exact ⟨rfl, fun y => disarm_pair.trans (s.post_pair ..), posted⟩

/-! ### A leader that settles with the pair end flag set (R115) -/

/-- A leader that settles by ABANDON or DISARM, with no word of its pair yet. -/
def State.settledLeader (s : State) (x : AxisId) (d : Disposition) : State :=
  if d = .abandon ∧ (s.axis x).cfg.repeats = true then s.enter x .armed fun a => { a with current := a.start.map .entry }
  else s.disarm x false

theorem settleBy_ending (hp : s.paired x = true) (hl : isLeader x = true) (hf : (s.pair x).endFlag = true) (hd : d ≠ .pause) :
    s.settleBy x d =
      ((((s.settledLeader x d).putPair x { s.pair x with endFlag := false }).post (axisLine x) .pairEnd fun d =>
        { d with pairEnd := some (s.pair x).loops }).settlePair x) := by
  unfold State.settleBy State.settledLeader
  cases d with
  | pause => exact absurd rfl hd
  | abandon => cases h : (s.axis x).cfg.repeats <;> simp [hp, hl, hf, h]
  | disarm => simp [hp, hl, hf]

theorem settledLeader_axis (hs : (s.axis x).state ≠ .disarmed) :
    ((s.settledLeader x d).axis x).state = (if d = .abandon ∧ (s.axis x).cfg.repeats = true then .armed else .disarmed) := by
  unfold State.settledLeader
  split
  · rw [enter_axis_self]
    rfl
  · rw [disarm_axis_self hs]
    rfl

theorem settledLeader_axis_ne (h : x ≠ y) : (s.settledLeader x d).axis y = s.axis y := by
  unfold State.settledLeader
  split
  · exact enter_axis_ne _ h _ _
  · exact disarm_axis_ne h

theorem settledLeader_part : (s.settledLeader x d).part = s.part := by
  unfold State.settledLeader
  split
  · exact (enter_sameBut ..).part
  · by_cases h : (s.axis x).state = .disarmed
    · rw [disarm_of_disarmed h]
    · rw [(disarm_sameBut _ x false h).part, State.putAxis_part, unpinChain_only]

/-- A cause that is posted leaves its details with the line. -/
theorem post_details {l : LineId} {c : Cause} {f : Details → Details} (h : s.part.condition = .inService) :
    ((s.post l c f).line l).details = f (s.line l).details := by
  unfold State.post
  rw [if_pos (serving_of_inService h)]
  dsimp only
  split
  · exact congrArg Line.details (State.putLine_line_self s l _)
  · exact congrArg Line.details (State.putLine_line_self s l _)

end

end Sys2Proof.Machine
end

section
/-! PROOFS. A pair's run: the chain end of its follower, the faults of its members, the loads during it, and the halt of both. -/

namespace Sys2Proof.Machine

-- In turn, since the check limits memory, and every proof under way holds a stack of its own.
set_option Elab.async false

section
variable {s t u v : State} {x y m : AxisId} {d : Disposition} {p : Profile} {travel : Int} {named : Option StopSide}

/-! ### The follower's chain end (R115) -/

/-- A chain end touches no other axis. -/
theorem settleChainEnd_axis_ne (h : x ≠ y) : (s.settleChainEnd x).axis y = s.axis y := by
  cases hr : (s.axis x).cfg.repeats with
  | true => rw [settleChainEnd_repeats hr, enter_axis_ne _ h, chainEnded_axis]
  | false => rw [settleChainEnd_ends hr, disarm_axis_ne h, chainEnded_axis]

/-- The part once the follower has settled at its chain end and the pair end flag is set. -/
def State.followerEnded (s : State) (x : AxisId) : State :=
  (s.settleChainEnd (followerOf x)).putPair (followerOf x)
    { (s.settleChainEnd (followerOf x)).pair (followerOf x) with endFlag := true }

theorem endPair_eq (hl : isLeader x = true) :
    s.endPair (followerOf x) = ((s.followerEnded x).handDisposition x .abandon).settlePair (followerOf x) := by
  unfold State.endPair
  dsimp only
  rw [leaderOf_followerOf, leaderOf_of_isLeader hl]
  rfl

theorem pair_followerOf : s.pair (followerOf x) = s.pair x := by rw [State.pair, pairIndex_followerOf, State.pair]

theorem followerEnded_outcome (hl : isLeader x = true) (hy : (s.axis (followerOf x)).state ≠ .disarmed) :
    ((s.followerEnded x).axis (followerOf x)).state =
        (if (s.axis (followerOf x)).cfg.repeats then .armed else .disarmed) ∧
      (s.followerEnded x).axis x = s.axis x ∧ (s.followerEnded x).pair x = { s.pair x with endFlag := true } ∧
      (s.followerEnded x).paired x = s.paired x ∧
      (s.part.condition = .inService →
        ((s.followerEnded x).line (axisLine (followerOf x))).causes.getLsbD Cause.chainEnd.bit = true) := by
  obtain ⟨hstate, hpair, hbit⟩ := settleChainEnd_outcome hy
  have hne := leader_ne_follower hl
  refine ⟨hstate, ?_, ?_, ?_, hbit⟩
  · exact settleChainEnd_axis_ne hne.symm
  · rw [State.followerEnded, putPair_pair_of_eq (leaderOf_followerOf x).symm, hpair, pair_followerOf]
  · exact paired_of_cfg (fun y => settleChainEnd_pairMove.cfg y) x

/-- A state in which a chain end leaves its axis is not active. -/
theorem rested_idle {b : Bool} (h : (s.axis x).state = if b then .armed else .disarmed) : s.isActive x = false := by
  rw [State.isActive, h]
  cases b <;> rfl

/-- A leader that settles with the pair end flag set: its axes as it settles, the flag clear, PAIR_END posted (R115). -/
theorem settleBy_ending_outcome (hp : s.paired x = true) (hl : isLeader x = true) (hf : (s.pair x).endFlag = true)
    (hd : d ≠ .pause) :
    (∀ y, (s.settleBy x d).axis y = (s.settledLeader x d).axis y) ∧ ((s.settleBy x d).pair x).endFlag = false ∧
      (s.part.condition = .inService →
        ((s.settleBy x d).line (axisLine x)).causes.getLsbD Cause.pairEnd.bit = true ∧
          ((s.settleBy x d).line (axisLine x)).details.pairEnd = some (s.pair x).loops) := by
  rw [settleBy_ending hp hl hf hd]
  have cleared (w : State) (hw : (w.pair x).endFlag = false) : ((w.settlePair x).pair x).endFlag = false := by
    rcases settlePair_eq (s := w) (x := x) with e | e <;> rw [e]
    · exact hw
    · rw [State.putPair_pair_self]
      rfl
  refine ⟨fun y => ?_, cleared _ ?_, fun hc => ?_⟩
  · rw [settlePair_axis, State.post_axis, State.putPair_axis]
  · rw [State.post_pair, State.putPair_pair_self]
  · have part : ((s.settledLeader x d).putPair x { s.pair x with endFlag := false }).part.condition = .inService := by
      rw [State.putPair_part, settledLeader_part, hc]
    rw [settlePair_line]
    exact ⟨post_bit part, by rw [post_details part]⟩

/-- A leader that settles by ABANDON with the flag set, its follower at rest, ends the pair's run (R115, R116). -/
theorem settleBy_ending_rests (hp : s.paired x = true) (hl : isLeader x = true) (hf : (s.pair x).endFlag = true)
    (hr : (s.pair x).run = true) (hs : (s.axis x).state ≠ .disarmed) (hy : s.isActive (followerOf x) = false) :
    ((s.settleBy x .abandon).axis x).state = (if (s.axis x).cfg.repeats then .armed else .disarmed) ∧
      (s.settleBy x .abandon).pair x = (s.pair x).ended := by
  have state := settledLeader_axis (d := .abandon) hs
  rw [if_congr (by simp : _ ↔ (s.axis x).cfg.repeats = true) rfl rfl] at state
  obtain ⟨haxis, -, -⟩ := settleBy_ending_outcome (d := .abandon) hp hl hf (by simp)
  refine ⟨by rw [haxis, state], ?_⟩
  have hcfg (y : AxisId) : ((s.settledLeader x .abandon).axis y).cfg = (s.axis y).cfg := by
    rw [← haxis]
    exact settleBy_pairMove.cfg y
  rw [settleBy_ending hp hl hf (by simp)]
  generalize hw : ((s.settledLeader x .abandon).putPair x { s.pair x with endFlag := false }).post (axisLine x) .pairEnd
    (fun d => { d with pairEnd := some (s.pair x).loops }) = w
  have axes (y : AxisId) : w.axis y = (s.settledLeader x .abandon).axis y := by rw [← hw, State.post_axis, State.putPair_axis]
  have pair : w.pair x = { s.pair x with endFlag := false } := by rw [← hw, State.post_pair, State.putPair_pair_self]
  have paired : w.paired x = true := (paired_of_cfg (fun y => by rw [axes, hcfg]) x).trans hp
  rw [settlePair_members paired (by rw [pair, hr]) (rested_idle (by rw [axes, state]))
    (by rw [partnerOf_leader hl, State.isActive, axes, settledLeader_axis_ne (leader_ne_follower hl)]; exact hy),
    State.putPair_pair_self, pair]
  rfl

/-- A follower that loads END during the run settles, and hands its leader ABANDON (R115, R116). -/
theorem chainEnd_follower_outcome (hp : s.paired x = true) (hl : isLeader x = true) (hr : (s.pair x).run = true)
    (hy : (s.axis (followerOf x)).state ≠ .disarmed) :
    let t := s.chainEnd (followerOf x)
    ((t.axis (followerOf x)).state = if (s.axis (followerOf x)).cfg.repeats then .armed else .disarmed) ∧
      (s.part.condition = .inService → (t.line (axisLine (followerOf x))).causes.getLsbD Cause.chainEnd.bit = true) ∧
      ((s.axis x).state = .running →
        (t.axis x).state = .stopping ∧ (t.axis x).disposition = some .abandon ∧
          t.pair x = { s.pair x with endFlag := true }) ∧
      ((s.axis x).state = .dwelling →
        ((t.axis x).state = if (s.axis x).cfg.repeats then .armed else .disarmed) ∧ t.pair x = (s.pair x).ended) := by
  intro t
  have ht : t = ((s.followerEnded x).handDisposition x .abandon).settlePair (followerOf x) :=
    (chainEnd_follower hp hr).trans (endPair_eq hl)
  clear_value t
  obtain ⟨hstate, haxis, hpair, hpaired, hbit⟩ := followerEnded_outcome hl hy
  generalize s.followerEnded x = u at ht hstate haxis hpair hpaired hbit
  subst ht
  have hne := leader_ne_follower hl
  refine ⟨?_, fun hc => ?_, fun hx => ?_, fun hx => ?_⟩
  · rw [settlePair_axis, (handDisposition_axisMove _).axis _ hne.symm, hstate]
  · have K := causeBit_kept (axisLine (followerOf x)) Cause.chainEnd.bit
    exact settlePair_kept K (handDisposition_kept K (hbit hc))
  · have stops : ((u.handDisposition x .abandon).axis x).state = .stopping ∧
        ((u.handDisposition x .abandon).axis x).disposition = some .abandon := by
      rw [handDisposition_running (by rw [haxis, hx]), enter_axis_self]
      exact ⟨rfl, rfl⟩
    have active : (u.handDisposition x .abandon).isActive (leaderOf (followerOf x)) = true := by
      rw [leaderOf_followerOf, leaderOf_of_isLeader hl, State.isActive, stops.1]
      rfl
    rw [settlePair_active (.inl active)]
    refine ⟨stops.1, stops.2, ?_⟩
    rw [handDisposition_running (by rw [haxis, hx]), enter_pair, hpair]
  · have rests := settleBy_ending_rests (hpaired.trans hp) hl (by rw [hpair]) (by rw [hpair, hr]) (by rw [haxis, hx]; simp)
      (rested_idle hstate)
    rw [handDisposition_settles (.inl (by rw [haxis, hx])), settlePair_no_run (by
      rw [pair_followerOf, rests.2]
      rfl)]
    rw [haxis, hpair] at rests
    exact rests

/-! ### The faults of a member (R117) -/

/-- A faulted member before its pair hears of it: DISARMED, its current cue kept, its partner and its pair's context as they
stood. -/
structure State.Faulted (s v : State) (x : AxisId) : Prop where
  state : (v.axis x).state = .disarmed
  current : (v.axis x).current = (s.axis x).current
  cfg : (v.axis x).cfg = (s.axis x).cfg
  partner : v.axis (partnerOf x) = s.axis (partnerOf x)
  pair : v.pair x = s.pair x
  paired : v.paired x = s.paired x

theorem halted_faulted {c : Cause} (h : (s.axis x).state ≠ .disarmed) : s.Faulted (s.halted x c) x where
  state := by rw [halted_axis_self h]; rfl
  current := by rw [halted_axis_self h]; rfl
  cfg := by rw [halted_axis_self h]; rfl
  partner := halted_axis_ne partnerOf_ne
  pair := halted_pair
  paired := halted_paired c

theorem missed_faulted (h : (s.axis x).state ≠ .disarmed) :
    s.Faulted ((s.post (axisLine x) .seekMiss).disarm x true) x where
  state := by rw [disarm_axis_self (by rwa [State.post_axis])]; rfl
  current := by rw [disarm_axis_self (by rwa [State.post_axis]), State.post_axis]; rfl
  cfg := by rw [disarm_axis_self (by rwa [State.post_axis]), State.post_axis]; rfl
  partner := by rw [disarm_axis_ne partnerOf_ne.symm, State.post_axis]
  pair := by rw [disarm_pair, State.post_pair]
  paired := by rw [disarm_paired, State.paired, State.post_axis, State.paired]

/-- What a fault leaves once its pair has heard of it: an alert's raise, or the pair's settling. -/
def State.faultLeaves (v t : State) (x : AxisId) : Prop :=
  t = (v.endRun x).settlePair x ∨ ∃ k sev n st, t = ((v.endRun x).raise k sev n st).1

theorem fault_leaves (hs : (s.axis x).state ≠ .disarmed) (ht : t = s.halt x .endStop ∨ t = s.halt x .jam ∨ t = s.seekMiss x) :
    ∃ v, s.Faulted v x ∧ v.faultLeaves t x := by
  rcases ht with rfl | rfl | rfl
  · exact ⟨_, halted_faulted hs, .inr ⟨_, _, _, _, halt_eq hs⟩⟩
  · exact ⟨_, halted_faulted hs, .inr ⟨_, _, _, _, halt_eq hs⟩⟩
  · exact ⟨_, missed_faulted hs, .inl rfl⟩

/-- Once both members are ending, nothing that follows a fault moves them. -/
theorem faultLeaves_stand (h : v.faultLeaves t x) (hx : ((v.endRun x).axis x).ending)
    (hy : ((v.endRun x).axis (partnerOf x)).ending) (hq : (v.endRun x).settlePair x = v.endRun x) :
    (v.endRun x).membersStand t x := by
  rcases h with rfl | ⟨k, sev, n, st, rfl⟩
  · rw [hq]
    exact ⟨rfl, rfl, rfl⟩
  · exact raise_members hx hy

/-- A fault with a RUNNING partner: the partner is STOPPING with DISARM, and the run stands (R117). -/
theorem fault_running (hf : s.Faulted v x) (h : v.faultLeaves t x) (hp : s.paired x = true) (hr : (s.pair x).run = true)
    (hy : (s.axis (partnerOf x)).state = .running) :
    t.axis x = v.axis x ∧ (t.axis (partnerOf x)).state = .stopping ∧
      (t.axis (partnerOf x)).disposition = some .disarm ∧ (t.pair x).run = true := by
  have ends := endRun_running (s := v) (x := x) (hf.paired.trans hp) (by rw [hf.pair, hr]) (by rw [hf.partner, hy])
  have own : (v.endRun x).axis x = v.axis x := by rw [ends, enter_axis_ne _ partnerOf_ne]
  have partner : ((v.endRun x).axis (partnerOf x)).state = .stopping ∧
      ((v.endRun x).axis (partnerOf x)).disposition = some .disarm := by
    rw [ends, enter_axis_self]
    exact ⟨rfl, rfl⟩
  have pair : (v.endRun x).pair x = s.pair x := by rw [ends, enter_pair, hf.pair]
  have active : (v.endRun x).isActive (partnerOf x) = true := by
    rw [State.isActive, partner.1]
    rfl
  obtain ⟨h1, h2, h3⟩ := faultLeaves_stand h (.inl (own ▸ hf.state)) (.inr partner)
    (settlePair_active (members_active.mpr (.inr active)))
  exact ⟨h1.trans own, by rw [h2, partner.1], by rw [h2, partner.2], by rw [h3, pair, hr]⟩

/-- A fault with a partner that is not active: both are DISARMED, and the pair has settled (R117, log entry 21). -/
theorem fault_idle (hf : s.Faulted v x) (h : v.faultLeaves t x) (hp : s.paired x = true) (hr : (s.pair x).run = true)
    (hy : (s.axis (partnerOf x)).state = .armed ∨ (s.axis (partnerOf x)).state = .disarmed) :
    t.axis x = v.axis x ∧ t.axis (partnerOf x) = (v.disarm (partnerOf x) false).axis (partnerOf x) ∧
      t.pair x = (s.pair x).ended := by
  have ends := endRun_idle (s := v) (x := x) (hf.paired.trans hp) (by rw [hf.pair, hr]) hf.state (by rwa [hf.partner])
  have own : (v.endRun x).axis x = v.axis x := by rw [ends, State.putPair_axis, disarm_axis_ne partnerOf_ne]
  have partner : (v.endRun x).axis (partnerOf x) = (v.disarm (partnerOf x) false).axis (partnerOf x) := by
    rw [ends, State.putPair_axis]
  have disarmed : ((v.disarm (partnerOf x) false).axis (partnerOf x)).state = .disarmed := by
    by_cases e : (v.axis (partnerOf x)).state = .disarmed
    · rw [disarm_of_disarmed e, e]
    · rw [disarm_axis_self e]
      rfl
  have pair : (v.endRun x).pair x = (s.pair x).ended := by rw [ends, State.putPair_pair_self, hf.pair]
  obtain ⟨h1, h2, h3⟩ := faultLeaves_stand h (.inl (own ▸ hf.state)) (.inl (by rw [partner, disarmed]))
    (settlePair_no_run (by rw [pair]; rfl))
  exact ⟨h1.trans own, h2.trans partner, h3.trans pair⟩

/-- The pair flag is a configuration of one of the members (R109). -/
theorem paired_of_members (hx : (t.axis x).cfg = (s.axis x).cfg)
    (hy : (t.axis (partnerOf x)).cfg = (s.axis (partnerOf x)).cfg) : t.paired x = s.paired x := by
  unfold State.paired
  rcases eq_or_partner (leaderOf_leaderOf x) with e | e
  · rw [e, hx]
  · rw [e, hy]

/-- The partner of `fault_idle`: DISARMED, and without a chain where it was ARMED. -/
theorem disarmed_partner (hf : s.Faulted v x) :
    ((v.disarm (partnerOf x) false).axis (partnerOf x)).state = .disarmed ∧
      ((s.axis (partnerOf x)).state = .armed → ((v.disarm (partnerOf x) false).axis (partnerOf x)).chain = []) ∧
      ((v.disarm (partnerOf x) false).axis (partnerOf x)).cfg = (s.axis (partnerOf x)).cfg := by
  by_cases e : (v.axis (partnerOf x)).state = .disarmed
  · rw [disarm_of_disarmed e]
    refine ⟨e, fun ha => ?_, by rw [hf.partner]⟩
    rw [hf.partner, ha] at e
    cases e
  · rw [disarm_axis_self e, hf.partner]
    exact ⟨rfl, fun _ => rfl, rfl⟩

end

end Sys2Proof.Machine
end

section
/-! PROOFS. A pair's run: the loads of its members, the halt of both, and the statement of the whole run. -/

namespace Sys2Proof.Machine

-- In turn, since the check limits memory, and every proof under way holds a stack of its own.
set_option Elab.async false

section
variable {s t u : State} {x y m : AxisId} {p : Profile} {travel : Int} {named : Option StopSide}
  {seek : Option (StopSide × Int)} {c : Cause} {l : LineId}

/-! ### The scanner and an axis that enters RUNNING (R59, R123) -/

theorem testActivity_scanner {st : StationId} : (s.testActivity st).scanner = s.scanner := by
  unfold State.testActivity State.restStation
  dsimp only
  split
  · split <;> rw [State.post_scanner, State.putStation_scanner]
  · rfl

theorem reportState_scanner {old new : AxisState} : (s.reportState x old new).scanner = s.scanner := by
  unfold State.reportState
  split
  · rfl
  · dsimp only
    split <;> split <;> simp [testActivity_scanner]

/-- What a trigger does to the scanner is decided by the scanner. -/
theorem scanTrigger_scanner {src : ScanSource} (h : t.scanner = s.scanner) :
    (t.scanTrigger src).scanner = (s.scanTrigger src).scanner := by
  have acts (w : State) : (w.scanTrigger src).scanner =
      if w.scanner.source = src ∧ w.scanner.state = .idle then { w.scanner with state := .scanning w.scanner.startCh }
      else w.scanner := by
    unfold State.scanTrigger
    by_cases hsrc : w.scanner.source = src
    · cases hst : w.scanner.state <;> simp [hsrc]
      split <;> simp
    · simp [hsrc]
  rw [acts, acts, h]

theorem enter_scanner {new : AxisState} {f : Axis → Axis} :
    (s.enter x new f).scanner =
      (if (s.axis x).state = .pending ∧ new = .running ∧ s.rehearses x = false then s.scanTrigger .motion else s).scanner := by
  have reported : ((s.putAxis x ((f (s.axis x)).settled new)).reportState x (s.axis x).state new).scanner = s.scanner :=
    reportState_scanner
  unfold State.enter
  dsimp only
  simp only [Bool.not_eq_true']
  split
  · exact scanTrigger_scanner reported
  · exact reported

/-! ### Loads during the run (R113) -/

theorem segmentReady_pair : (s.segmentReady x travel named).pair y = s.pair y := segmentReady_sameBut.pair y

/-- A pair member holds run current during its pair's run (R66, R113). -/
theorem segmentReady_runs (hp : s.paired x = true) (hr : (s.pair x).run = true) :
    (s.segmentReady x travel named).holdsRunCurrent x = true := by
  rw [holdsRunCurrent_paired (segmentReady_paired.trans hp), segmentReady_pair, hr]

theorem setDir_pairs : (s.setDir x).pairs = s.pairs := by
  rw [setDir_eq]
  rfl

theorem enterRamp_pair {new : AxisState} : ((s.setDir x).enter x new fun b => b.startRamp p).pair y = s.pair y := by
  rw [enter_pair, State.pair, setDir_pairs, State.pair]

theorem enterRamp_passDue {new : AxisState} : ((s.setDir x).enter x new fun b => b.startRamp p).passDue = s.passDue := by
  rw [(enter_sameBut ..).passDue, State.putAxis_passDue, setDir_eq, State.putAxis_passDue]

theorem segmentReady_scanner : (s.segmentReady x travel named).scanner = s.scanner := by
  unfold State.segmentReady
  split
  · exact State.post_scanner ..
  · rfl

theorem segmentReady_state : ((s.segmentReady x travel named).axis x).state = (s.axis x).state := by
  rw [segmentReady_axis_self]
  rfl

/-- A load that goes to RUNNING triggers the scanner where it comes from PENDING outside REHEARSE mode (R59, log entry 29). -/
theorem segment_enterRamp_scanner :
    (((s.segmentReady x travel named).setDir x).enter x .running fun b => b.startRamp p).scanner =
      (if (s.axis x).state = .pending ∧ s.rehearses x = false then s.scanTrigger .motion else s).scanner := by
  have state : (((s.segmentReady x travel named).setDir x).axis x).state = (s.axis x).state := by
    rw [setDir_axis_self]
    exact segmentReady_state
  have rehearses : ((s.segmentReady x travel named).setDir x).rehearses x = s.rehearses x :=
    (rehearses_of_cfg (setDir_steered x).cfg x).trans segmentReady_rehearses
  have scanner : ((s.segmentReady x travel named).setDir x).scanner = s.scanner := by
    rw [setDir_eq, State.putAxis_scanner, segmentReady_scanner]
  rw [enter_scanner, state, rehearses]
  by_cases h : (s.axis x).state = .pending ∧ s.rehearses x = false
  · rw [if_pos ⟨h.1, rfl, h.2⟩, if_pos h]
    exact scanTrigger_scanner scanner
  · rw [if_neg fun e => h ⟨e.1, e.2.2⟩, if_neg h]
    exact scanner

/-- The end of a run touches the other member alone. -/
theorem endRun_axis_self : (s.endRun x).axis x = s.axis x := by
  unfold State.endRun
  split
  · rw [settlePair_axis, (handDisposition_axisMove _).axis x partnerOf_ne.symm]
  · rfl

/-- A member that runs on towards a stop that is TRIPPED: DISARMED, its position in doubt, END_STOP posted; a RUNNING partner is
STOPPING with DISARM and the run stands (R80, R117). -/
theorem halt_endStop_member (hp : s.paired x = true) (hr : (s.pair x).run = true) (hs : (s.axis x).state = .running)
    (hreh : s.rehearses x = false) :
    ((s.halt x .endStop).axis x).state = .disarmed ∧
      (s.part.condition = .inService → ((s.halt x .endStop).line (axisLine x)).causes.getLsbD Cause.endStop.bit = true) ∧
      ((s.halt x .endStop).axis x).valid = false ∧
      ((s.axis (partnerOf x)).state = .running →
        ((s.halt x .endStop).axis (partnerOf x)).state = .stopping ∧
          ((s.halt x .endStop).axis (partnerOf x)).disposition = some .disarm ∧ ((s.halt x .endStop).pair x).run = true) := by
  have hd : (s.axis x).state ≠ .disarmed := by simp [hs]
  have faulted := halted_faulted (c := .endStop) hd
  have leaves : (s.halted x .endStop).faultLeaves (s.halt x .endStop) x := .inr ⟨_, _, _, _, halt_eq hd⟩
  have ended : ((s.halted x .endStop).endRun x).axis x = (s.halted x .endStop).axis x := endRun_axis_self
  have own : (s.halt x .endStop).axis x = (s.halted x .endStop).axis x := by
    rw [halt_eq hd]
    dsimp only [HaltCause.cause]
    rw [raise_axis_disarmed (by rw [ended]; exact faulted.state), ended]
  refine ⟨by rw [own]; exact faulted.state, fun hc => ?_, ?_, fun hy => ?_⟩
  · have K := causeBit_kept (axisLine x) Cause.endStop.bit
    rw [halt_eq hd]
    exact raise_kept K (endRun_kept K (halted_bit hc))
  · rw [own, halted_axis_self hd]
    simp [State.haltedAxis, hs, hreh]
  · obtain ⟨-, rest⟩ := fault_running faulted leaves hp hr hy
    exact rest

/-! ### The halt of both members (R76, R77, R117) -/

theorem halt_of_disarmed {why : HaltCause} (h : (s.axis x).state = .disarmed) : s.halt x why = s := if_pos h

theorem halt_halted (h : (s.axis x).state ≠ .disarmed) : s.halt x .halted = (s.halted x .halted).settlePair x := halt_eq h

/-- A cause that is posted changes no other cause's bit. -/
theorem post_bit_ne {i : Nat} {f : Details → Details} (h : c.bit ≠ i) :
    ((s.post l c f).line l).causes.getLsbD i = (s.line l).causes.getLsbD i := by
  have arrived : ((s.line l).arrive c f).causes.getLsbD i = (s.line l).causes.getLsbD i := by
    simp only [Line.arrive, Cause.asSet, BitVec.getLsbD_or, BitVec.getLsbD_shiftLeft, BitVec.getLsbD_one]
    have : ¬ i < c.bit → ¬ i - c.bit = 0 := by omega
    by_cases hi : i < c.bit <;> simp_all
  unfold State.post
  dsimp only
  split
  · split
    · exact (congrArg (fun ln : Line => ln.causes.getLsbD i) (State.putLine_line_self s l _)).trans arrived
    · exact (congrArg (fun ln : Line => ln.causes.getLsbD i) (State.putLine_line_self s l _)).trans arrived
  · rfl

theorem halting_disarm_line : ((s.halting x).disarm x true).line (axisLine y) = s.line (axisLine y) := by
  obtain ⟨-, hlines, -⟩ := halting_only (s := s) (x := x)
  rw [disarm_axisLine, State.line, hlines, State.line]

/-- What HALT does to an axis's record and its line (R76). -/
def State.memberHalted (s t : State) (m : AxisId) : Prop :=
  ((s.axis m).state = .disarmed → t.axis m = s.axis m ∧ t.line (axisLine m) = s.line (axisLine m)) ∧
    ((s.axis m).state ≠ .disarmed → t.axis m = s.haltedAxis m ∧
      (s.part.condition = .inService → (t.line (axisLine m)).causes.getLsbD Cause.halted.bit = true)) ∧
    (t.line (axisLine m)).causes.getLsbD Cause.pairEnd.bit = (s.line (axisLine m)).causes.getLsbD Cause.pairEnd.bit

theorem halt_member : s.memberHalted (s.halt m .halted) m := by
  by_cases h : (s.axis m).state = .disarmed
  · rw [halt_of_disarmed h]
    exact ⟨fun _ => ⟨rfl, rfl⟩, fun hn => absurd h hn, rfl⟩
  · rw [halt_halted h]
    refine ⟨fun hd => absurd hd h, fun _ => ⟨by rw [settlePair_axis, halted_axis_self h], fun hc => ?_⟩, ?_⟩
    · rw [settlePair_line]
      exact halted_bit hc
    · rw [settlePair_line, halted_eq, post_bit_ne (by decide), halting_disarm_line]

theorem halt_axis_ne (h : y ≠ x) : (s.halt x .halted).axis y = s.axis y := by
  by_cases hd : (s.axis x).state = .disarmed
  · rw [halt_of_disarmed hd]
  · rw [halt_halted hd, settlePair_axis, halted_axis_ne h]

theorem halt_line_ne (h : y ≠ x) : (s.halt x .halted).line (axisLine y) = s.line (axisLine y) := by
  by_cases hd : (s.axis x).state = .disarmed
  · rw [halt_of_disarmed hd]
  · rw [halt_halted hd, settlePair_line, halted_eq, post_line_ne fun e => h (axisLine_injective e).symm, halting_disarm_line]

theorem halt_cfg (y : AxisId) : ((s.halt x .halted).axis y).cfg = (s.axis y).cfg := by
  by_cases h : y = x
  · subst h
    by_cases hd : (s.axis y).state = .disarmed
    · rw [halt_of_disarmed hd]
    · rw [halt_halted hd, settlePair_axis, halted_axis_self hd]
      rfl
  · rw [halt_axis_ne h]

theorem halt_part : (s.halt x .halted).part = s.part := by
  by_cases hd : (s.axis x).state = .disarmed
  · rw [halt_of_disarmed hd]
  · rw [halt_halted hd, settlePair_part, halted_part]

theorem halt_alerts : (s.halt x .halted).alerts = s.alerts := by
  obtain ⟨-, -, halerts, -⟩ := halting_only (s := s) (x := x)
  by_cases hd : (s.axis x).state = .disarmed
  · rw [halt_of_disarmed hd]
  · rw [halt_halted hd, settlePair_alerts, halted_eq, State.post_alerts, disarm_alerts, halerts]

theorem halt_arbiter (hd : (s.axis x).state ≠ .disarmed) :
    (s.halt x .halted).arbiter =
      { s.arbiter with waiting := s.arbiter.waiting.filter fun e => e.axis ≠ s.waitKey x } := by
  obtain ⟨-, -, -, -, harbiter⟩ := halting_only (s := s) (x := x)
  have hd' : ((s.halting x).axis x).state ≠ .disarmed := by rwa [halting_state]
  rw [halt_halted hd, settlePair_arbiter, halted_eq, State.post_arbiter, (disarm_sameBut _ x true hd').arbiter,
    State.putAxis_arbiter, unpinChain_only]
  exact harbiter

/-- A member is DISARMED once it is halted. -/
theorem halt_state : ((s.halt x .halted).axis x).state = .disarmed := by
  obtain ⟨same, halted, -⟩ := halt_member (s := s) (m := x)
  by_cases hd : (s.axis x).state = .disarmed
  · rw [(same hd).1, hd]
  · rw [(halted hd).1]
    rfl

/-- A pair's context once its run, if it had one, is over. -/
def PairCtx.stopped (p : PairCtx) : PairCtx := if p.run then p.ended else p

theorem PairCtx.stopped_ended (p : PairCtx) : p.ended.stopped = p.ended := rfl

theorem halt_pair_or :
    (s.halt x .halted).pair x = s.pair x ∨ (s.pair x).run = true ∧ (s.halt x .halted).pair x = (s.pair x).ended := by
  by_cases hd : (s.axis x).state = .disarmed
  · rw [halt_of_disarmed hd]
    exact .inl rfl
  · rw [halt_halted hd]
    by_cases hr : (s.pair x).run = true
    · rcases settlePair_eq (s := s.halted x .halted) (x := x) with e | e <;> rw [e]
      · exact .inl halted_pair
      · exact .inr ⟨hr, by rw [State.putPair_pair_self, halted_pair]⟩
    · rw [settlePair_no_run (by rw [halted_pair]; simpa using hr), halted_pair]
      exact .inl rfl

/-- The halt of a member whose partner is DISARMED ends the run (R117). -/
theorem halt_pair_stopped (hp : s.paired x = true) (hd : (s.axis x).state ≠ .disarmed)
    (hy : (s.axis (partnerOf x)).state = .disarmed) : (s.halt x .halted).pair x = (s.pair x).stopped := by
  have faulted := halted_faulted (c := .halted) hd
  rw [halt_halted hd]
  by_cases hr : (s.pair x).run = true
  · rw [settlePair_members (faulted.paired.trans hp) (by rw [faulted.pair, hr])
      (by rw [State.isActive, faulted.state]; rfl) (by rw [State.isActive, faulted.partner, hy]; rfl),
      State.putPair_pair_self, faulted.pair, PairCtx.stopped, if_pos hr]
  · rw [settlePair_no_run (by rw [faulted.pair]; simpa using hr), faulted.pair, PairCtx.stopped, if_neg hr]

/-- The halt of both members, one of them not DISARMED: their records and lines, what stands, the list and the context. -/
theorem haltBoth (hp : s.paired x = true) (hl : isLeader x = true)
    (hd : (s.axis x).state ≠ .disarmed ∨ (s.axis (followerOf x)).state ≠ .disarmed) :
    let t := s.haltAll [x, followerOf x]
    s.memberHalted t x ∧ s.memberHalted t (followerOf x) ∧ (∀ m, m ≠ x → m ≠ followerOf x → t.axis m = s.axis m) ∧
      t.arbiter = { s.arbiter with waiting := s.arbiter.waiting.filter fun e => e.axis ≠ x } ∧ t.alerts = s.alerts ∧
      t.pair x = (s.pair x).stopped := by
  intro t
  have hne := leader_ne_follower hl
  have ht : t = (s.halt x .halted).halt (followerOf x) .halted := rfl
  clear_value t
  subst ht
  have first := halt_member (s := s) (m := x)
  have second := halt_member (s := s.halt x .halted) (m := followerOf x)
  have follower : (s.halt x .halted).axis (followerOf x) = s.axis (followerOf x) := halt_axis_ne hne.symm
  have paired (y : AxisId) : (s.halt x .halted).paired y = s.paired y := paired_of_cfg halt_cfg y
  have hp' : s.paired (followerOf x) = true := (paired_of_leaderOf_eq (by simp)).trans hp
  have leader : leaderOf x = x := leaderOf_of_isLeader hl
  have key : s.waitKey x = x := (if_pos hp).trans leader
  have key' : (s.halt x .halted).waitKey (followerOf x) = x := by
    rw [State.waitKey, if_pos ((paired _).trans hp'), leaderOf_followerOf, leader]
  refine ⟨?_, ?_, fun m hx hy => by rw [halt_axis_ne hy, halt_axis_ne hx], ?_, by rw [halt_alerts, halt_alerts], ?_⟩
  · unfold State.memberHalted
    rw [halt_axis_ne hne, halt_line_ne hne]
    exact first
  · unfold State.memberHalted State.haltedAxis at second
    rw [follower, halt_line_ne hne.symm, halt_part, rehearses_of_cfg halt_cfg] at second
    exact second
  · by_cases hx : (s.axis x).state = .disarmed
    · have hy := hd.resolve_left (not_not.mpr hx)
      rw [halt_of_disarmed hx] at key' ⊢
      rw [halt_arbiter hy, key']
    · by_cases hy : (s.axis (followerOf x)).state = .disarmed
      · rw [halt_of_disarmed (by rw [follower, hy]), halt_arbiter hx, key]
      · rw [halt_arbiter (by rw [follower]; exact hy), key', halt_arbiter hx, key]
        simp
  · by_cases hy : (s.axis (followerOf x)).state = .disarmed
    · rw [halt_of_disarmed (by rw [follower, hy])]
      exact halt_pair_stopped hp (hd.resolve_right (not_not.mpr hy)) (by rw [partnerOf_leader hl, hy])
    · have partner : partnerOf (followerOf x) = x := partnerOf_follower.trans leader
      have stopped := halt_pair_stopped (s := s.halt x .halted) (x := followerOf x) ((paired _).trans hp')
        (by rw [follower]; exact hy) (by rw [partner]; exact halt_state)
      rw [pair_followerOf, pair_followerOf] at stopped
      rw [stopped]
      rcases halt_pair_or (s := s) (x := x) with e | ⟨hr, e⟩
      · rw [e]
      · rw [e, PairCtx.stopped_ended, PairCtx.stopped, if_pos hr]

end

end Sys2Proof.Machine
end

section
/-! PROOFS. A pair's run, assembled. -/

namespace Sys2Proof.Machine

section
variable {s : State} {x : AxisId} {p : Profile} {travel : Int} {named : Option StopSide}
  {seek : Option (StopSide × Int)} {e : PendingEntry}

/-- The grant of a pair sets the run and its sum, and each PENDING member loads, the leader first (R112). -/
theorem grant_pair_outcome (hp : s.paired x = true) (hl : isLeader x = true) (hx : e.axis = x) (he : e.pair = true) :
    let t := s.grant e
    t.pair x = { s.pair x with run := true, runSum := (s.axis x).cfg.runDraw + (s.axis (followerOf x)).cfg.runDraw } ∧
      t.axes = s.axes ∧ t.arbiter.pointer = x ∧ t.arbiter.waiting = (s.arbiter.waiting.filter fun f => f.axis ≠ x) ∧
      (s.rehearses x = false → t.allocation x = (s.axis x).cfg.runDraw + (s.axis (followerOf x)).cfg.runDraw) ∧
      t.afterGrant e = ((t.loadMember x .pending).loadMember (followerOf x) .pending).settlePair x := by
  subst hx
  intro t
  have ht : t = _ := grant_pair (s := s) he
  have sum : s.runSum e.axis = (s.axis e.axis).cfg.runDraw + (s.axis (followerOf e.axis)).cfg.runDraw := by
    rw [State.runSum, leaderOf_of_isLeader hl]
  have pair : t.pair e.axis = { s.pair e.axis with
      run := true, runSum := (s.axis e.axis).cfg.runDraw + (s.axis (followerOf e.axis)).cfg.runDraw } := by
    rw [ht, State.putPair_pair_self, sum]
  have hcfg (y : AxisId) : (t.axis y).cfg = (s.axis y).cfg := by rw [ht]; rfl
  refine ⟨pair, by rw [ht]; rfl, by rw [ht]; rfl, by rw [ht]; rfl, fun hr => ?_, if_pos he⟩
  rw [allocation_leader ((paired_of_cfg hcfg _).trans hp) hl ((rehearses_of_cfg hcfg _).trans hr), pair]
  rfl

/-- A leader that loads END counts a loop and waits at its start cue (R114). -/
theorem chainEnd_leader_outcome (hp : s.paired x = true) (hl : isLeader x = true) (hr : (s.pair x).run = true) :
    let t := s.chainEnd x
    t.axis x =
      { s.axis x with
        state := .dwelling, dwell := 1, restartWait := true, current := (s.axis x).start.map .entry, rate := 0, acc := 0,
        jamCount := 0, disposition := none } ∧
    t.pair x = { s.pair x with loops := min 255 ((s.pair x).loops + 1) } ∧
    t.line (axisLine x) = s.line (axisLine x) ∧ t.axis (followerOf x) = s.axis (followerOf x) := by
  intro t
  have ht : t = s.restartLeader x := chainEnd_leader hp hl hr
  clear_value t
  subst ht
  unfold State.restartLeader
  refine ⟨enter_axis_self _ _ _ _, ?_, enter_axisLine, enter_axis_ne _ (leader_ne_follower hl) _ _⟩
  rw [enter_pair, State.putPair_pair_self]
  rfl

/-- A member that loads a motion during the run goes to RUNNING at once (R66, R113). -/
theorem load_during_run (hn : s.clampedSteps x travel ≠ 0) (hp : s.paired x = true) (hr : (s.pair x).run = true)
    (hd : s.demanded x) (hh : s.noHome x seek)
    (ht : s.rehearses x = true ∨ seek ≠ none ∨ (s.axis x).stopLevel (headingOf travel (s.axis x).dir).stop ≠ some true) :
    let r := s.loadMotion x travel p seek
    r.2 = false ∧
      r.1.axis x =
        ((((s.axis x).withSegment (headingOf travel (s.axis x).dir) (seek.map (·.1)) (s.clampedSteps x travel)).directed
          (s.rehearses x)).startRamp p).settled .running ∧
      r.1.arbiter = s.arbiter ∧ r.1.passDue = s.passDue ∧ r.1.pair x = s.pair x ∧
      r.1.scanner = (if (s.axis x).state = .pending ∧ s.rehearses x = false then s.scanTrigger .motion else s).scanner := by
  intro r
  have hreq : r = _ := loadMotion_runs hn hh hd (segmentReady_runs hp hr) ht
  clear_value r
  subst hreq
  exact ⟨rfl, segment_enterRamp, segment_enterRamp_arbiter, enterRamp_passDue.trans segmentReady_sameBut.passDue,
    enterRamp_pair.trans segmentReady_pair, segment_enterRamp_scanner⟩

/-- What stands, and what does not, when a load goes to RUNNING. -/
theorem segment_runs :
    let u := ((s.segmentReady x travel named).setDir x).enter x .running fun b => b.startRamp p
    (u.axis x).state = .running ∧ u.part = s.part ∧ u.pair x = s.pair x ∧ (∀ y, (u.axis y).cfg = (s.axis y).cfg) ∧
      ∀ y, x ≠ y → u.axis y = s.axis y := by
  intro u
  have own : u.axis x = _ := segment_enterRamp
  have others (y : AxisId) (hy : x ≠ y) : u.axis y = s.axis y := by
    refine (enter_axis_ne _ hy _ _).trans ?_
    rw [setDir_eq, State.putAxis_axis_ne _ hy, segmentReady_sameBut.axis, setSegment_axis_ne hy]
  refine ⟨by rw [own]; rfl, enterRamp_part.trans segmentReady_sameBut.part, enterRamp_pair.trans segmentReady_pair,
    fun y => ?_, others⟩
  by_cases hy : x = y
  · rw [← hy, own]
    rfl
  · rw [others y hy]

/-- A member that loads towards a stop that is TRIPPED already is halted with END_STOP (R80, R113). -/
theorem load_towards_tripped (hn : s.clampedSteps x travel ≠ 0) (hp : s.paired x = true) (hr : (s.pair x).run = true)
    (hd : s.demanded x) (hreh : s.rehearses x = false)
    (ht : (s.axis x).stopLevel (headingOf travel (s.axis x).dir).stop = some true) :
    let r := s.loadMotion x travel p none
    r.2 = false ∧ (r.1.axis x).state = .disarmed ∧ (r.1.axis x).valid = false ∧
      (s.part.condition = .inService → (r.1.line (axisLine x)).causes.getLsbD Cause.endStop.bit = true) ∧
      ((s.axis (partnerOf x)).state = .running →
        (r.1.axis (partnerOf x)).state = .stopping ∧ (r.1.axis (partnerOf x)).disposition = some .disarm ∧
          (r.1.pair x).run = true) := by
  intro r
  have hreq : r = _ := loadMotion_trips hn hd hreh (segmentReady_runs hp hr) ht
  clear_value r
  subst hreq
  obtain ⟨state, part, pair, cfg, partner⟩ := segment_runs (s := s) (x := x) (travel := travel) (named := none) (p := p)
  generalize ((s.segmentReady x travel none).setDir x).enter x .running (fun b => b.startRamp p) = u
    at state part pair cfg partner ⊢
  obtain ⟨h1, h2, h3, h4⟩ := halt_endStop_member (s := u) ((paired_of_cfg cfg x).trans hp) (by rw [pair, hr]) state
    ((rehearses_of_cfg cfg x).trans hreh)
  exact ⟨rfl, h1, h3, fun hc => h2 (by rw [part]; exact hc), fun hy => h4 (by rw [partner _ partnerOf_ne.symm, hy])⟩

end

/-- Settles O41: a pair's allocation, its triggers and grant, its members' loads, the chain ends of leader and follower, the
faults of a member, and the halt of both. -/
theorem pairRun : Obligations.PairRun := by
  unfold Obligations.PairRun
  refine ⟨fun x s hp => ⟨fun hl => allocation_follower hl hp, allocation_rehearses hp, allocation_leader hp⟩,
    fun x s hp hl => ⟨fun hs hr => ?trigger, fun e hx he => grant_pair_outcome hp hl hx he, chainEnd_leader_outcome hp hl⟩,
    fun x s hp hl hr hy => chainEnd_follower_outcome hp hl hr hy, fun x s hp hl hf hs => ?flagged,
    fun x s hp hr hs hy t ht => ?faultRunning, fun x s hp hr hs hy t ht => ?faultIdle,
    fun x steps p seek s hp hr hd hh => ?load, fun x s hp hl hr hs => ?rehearse, fun x s hp hl hd => ?halt,
    fun x s hp => allocation_solo hp⟩
  case trigger =>
    obtain ⟨hx, hy, hpair, hpass, hwait⟩ := trigger_block hp hl hs hr
    have leader := leaderOf_of_isLeader hl
    refine ⟨by rw [hx]; rfl, by rw [hy]; rfl, by rw [hx]; rfl, by rw [hy]; rfl, hpair, hpass, ?_⟩
    rw [hwait, State.pairEntry, leader]
  case flagged =>
    have abandoned := settleBy_ending_outcome (d := .abandon) hp hl hf (by simp)
    have disarmed := settleBy_ending_outcome (d := .disarm) hp hl hf (by simp)
    refine ⟨?_, ?_, fun d hd => (settleBy_ending_outcome hp hl hf hd).2⟩
    · rw [abandoned.1, settledLeader_axis hs]
      simp
    · rw [disarmed.1, settledLeader_axis hs]
      simp
  case faultRunning =>
    obtain ⟨v, faulted, leaves⟩ := fault_leaves hs ht
    obtain ⟨own, state, disposition, run⟩ := fault_running faulted leaves hp hr hy
    exact ⟨by rw [own, faulted.state], by rw [own, faulted.current], state, disposition, run⟩
  case faultIdle =>
    obtain ⟨v, faulted, leaves⟩ := fault_leaves hs ht
    obtain ⟨own, partner, pair⟩ := fault_idle faulted leaves hp hr hy
    obtain ⟨state, chain, cfg⟩ := disarmed_partner faulted
    have hx : (t.axis x).state = .disarmed := by rw [own, faulted.state]
    have hy' : (t.axis (partnerOf x)).state = .disarmed := by rw [partner, state]
    have run : (t.pair x).run = false := by rw [pair]; rfl
    have paired : t.paired x = true := (paired_of_members (by rw [own, faulted.cfg]) (by rw [partner, cfg])).trans hp
    exact ⟨hx, hy', fun ha => by rw [partner, chain ha], run, allocation_over paired run hx hy'⟩
  case load =>
    refine ⟨fun hn hseek => ?_, fun hn ht => load_during_run hn hp hr hd hh ht, fun hn hreh hseek ht => ?_⟩
    · subst hseek
      rw [loadMotion_done hn]
      exact ⟨rfl, segmentReady_state, segmentReady_arbiter, segmentReady_pair⟩
    · subst hseek
      exact load_towards_tripped hn hp hr hd hreh ht
  case rehearse =>
    have hne := leader_ne_follower hl
    rw [trigger_pair hp hs, triggerPair_rehearse hl hr]
    have follower : ((s.putPair x (.triggered true)).startRehearsal x).axis (followerOf x) = s.axis (followerOf x) :=
      State.putAxis_axis_ne _ hne _
    have begun : ((s.putPair x (.triggered true)).startRehearsal x).startRehearsal (followerOf x) =
        ((s.putPair x (.triggered true)).startRehearsal x).putAxis (followerOf x)
          { s.axis (followerOf x) with
            elapsed := 0, virtual := (s.axis (followerOf x)).position, asLeft := false } := by
      rw [State.startRehearsal, follower]
    rw [begun]
    rfl
  case halt =>
    obtain ⟨leader, follower, others, arbiter, alerts, pair⟩ := haltBoth hp hl hd
    refine ⟨fun m hm => ?_, others, arbiter, alerts, pair⟩
    rcases hm with rfl | rfl
    · exact leader
    · exact follower

end Sys2Proof.Machine
end

section
/-! PROOFS. The brake distance as a quotient rounded up (R88), and what a ramp tick and the end of a dwell come to (R91, R68). -/

namespace Sys2Proof.Machine

/-! ### The brake distance (R88) -/

section
variable {p : Profile} {r d : Nat}

theorem brakeDistance_eq_ceilDiv (ha : 1 ≤ p.a) : brakeDistance p r = (r * r - p.f * p.f) ⌈/⌉ (2000 * p.a) := by
  rw [Nat.ceilDiv_eq_add_pred_div, brakeDistance, Nat.add_sub_assoc (by omega)]

/-- The whole numbers of steps from the brake distance on are those that the exact quotient does not exceed. -/
theorem brakeDistance_le_iff (ha : 1 ≤ p.a) : brakeDistance p r ≤ d ↔ r * r - p.f * p.f ≤ 2000 * p.a * d := by
  rw [brakeDistance_eq_ceilDiv ha, ceilDiv_le_iff_le_mul (by omega)]

/-- At the floor rate there is nothing to brake, whatever the divisor. -/
theorem brakeDistance_floor : brakeDistance p p.f = 0 := by
  rw [brakeDistance, Nat.sub_self, Nat.zero_add, Nat.div_eq_zero_iff]
  omega

/-- The numerator is at most 20,000² − 50², and the divisor at least 2,000. -/
theorem brakeDistance_bound (hf : 50 ≤ p.f) (hr : r ≤ 20000) (ha : 1 ≤ p.a) : brakeDistance p r ≤ 199999 := by
  have square : r * r ≤ 20000 * 20000 := Nat.mul_le_mul hr hr
  have floor : 50 * 50 ≤ p.f * p.f := Nat.mul_le_mul hf hf
  rw [brakeDistance_le_iff ha]
  omega

end

/-- Settles O28. -/
theorem brakeDistanceRoundsUp : Obligations.BrakeDistanceRoundsUp :=
  ⟨fun _ _ hf _ hr ha =>
      ⟨(brakeDistance_le_iff ha).mp le_rfl, fun _ => (brakeDistance_le_iff ha).mpr, brakeDistance_bound hf hr ha⟩,
    fun _ => brakeDistance_floor,
    fun _ _ h => rateUpdate_brakes (.inr (.inr h)),
    by decide⟩

/-! ### The parts of a tick (R87 to R91) -/

section
variable {s : State} {x : AxisId} {p : Profile}

theorem exec_rampTick (h : (s.axis x).state.moving = true) : exec (.rampTick x) s = .next (s.eventOutcome (s.rampTick x)) :=
  eventWhen_outcome h

/-- The current cue stands, and with it the entry that it names. -/
theorem Steered.currentEntry {t : State} (h : Steered x s t) : t.currentEntry x = s.currentEntry x := by
  simp only [State.currentEntry, h.axis_self.current, h.cue]

/-- The axis takes its tick values (R88 to R90). -/
def State.ticked (s : State) (x : AxisId) (p : Profile) : State := s.putAxis x ((s.axis x).rampStep p (s.rehearses x))

theorem ticked_axis : (s.ticked x p).axis x = (s.axis x).rampStep p (s.rehearses x) := State.putAxis_axis_self ..

theorem ticked_steered : Steered x s (s.ticked x p) := .of_putAxis .same

theorem ticked_state : ((s.ticked x p).axis x).state = (s.axis x).state := ticked_steered.axis_self.state

theorem ticked_seek : ((s.ticked x p).axis x).seek = (s.axis x).seek := by
  rw [ticked_axis]
  rfl

theorem ticked_rehearses : (s.ticked x p).rehearses x = s.rehearses x := rehearses_of_cfg ticked_steered.cfg x

/-- A tick ends with its completion test (R91). -/
theorem rampTick_eq (hm : (s.axis x).state.moving = true) (hp : s.loadedProfile x = some p) :
    s.rampTick x =
      (let a := (s.axis x).rampStep p (s.rehearses x)
       if a.remN = 0 then (s.ticked x p).countReached x
       else if (s.axis x).state = .stopping ∧ a.rate = p.f then
         (s.ticked x p).settleBy x ((s.axis x).disposition.getD .abandon)
       else s.ticked x p) := by
  rw [State.rampTick, if_pos hm, hp]
  rfl

/-! ### A count that is reached (R91) -/

/-- Without a seek the entry is over (R70, R75). -/
theorem countReached_plain (h : (s.axis x).seek = none) :
    s.countReached x = if (s.axis x).state = .stopping then s.completeStopping x else s.completeAndGoOn x := if_pos h

/-- A seek that its count ends has missed its home (R81). -/
theorem countReached_missed (h : (s.axis x).seek ≠ none) (hr : s.rehearses x = false) : s.countReached x = s.seekMiss x :=
  (if_neg h).trans (if_neg (ne_true_of_eq_false hr))

/-- A REHEARSE seek takes its home where its count ends it (R83). -/
theorem countReached_rehearsed (h : (s.axis x).seek ≠ none) (hr : s.rehearses x = true) :
    s.countReached x =
      (let t := s.takeVirtualHome x (((s.currentEntry x).bind (·.body.home)).getD 0)
       if (s.axis x).state = .stopping then t.completeStopping x else t.completeAndGoOn x) :=
  (if_neg h).trans (if_pos hr)

/-! ### The end of a dwell (R68, R114) -/

theorem exec_dwellExpiry (h : (s.axis x).state = .dwelling) :
    exec (.dwellExpiry x) s = .next (s.eventOutcome (s.dwellExpiry x)) := eventWhen_outcome (decide_eq_true h)

theorem dwellExpiry_dwelling (h : (s.axis x).state = .dwelling) :
    s.dwellExpiry x =
      (let t := s.putAxis x { s.axis x with dwell := 0, restartWait := false }
       if (s.axis x).restartWait then t.load x else t.completeAndGoOn x) := if_pos h

end

/-- Settles O30, by the branches of the completion test. -/
theorem rampTickAndDwellExpiry : Obligations.RampTickAndDwellExpiry := by
  refine ⟨fun x p s hs hp => ?tick, fun x s hs => ?dwell⟩
  case dwell => rw [exec_dwellExpiry hs, dwellExpiry_dwelling hs]
  case tick =>
    intro a t
    have running_ne (h : (s.axis x).state = .running) : (s.axis x).state ≠ .stopping := by simp [h]
    have hm := moving_iff.mpr hs
    have seek : (t.axis x).seek = (s.axis x).seek := ticked_seek
    have state : (t.axis x).state = (s.axis x).state := ticked_state
    have rehearses : t.rehearses x = s.rehearses x := ticked_rehearses
    have entry : t.currentEntry x = s.currentEntry x := ticked_steered.currentEntry
    have reached (hn : a.remN = 0) : s.rampTick x = t.countReached x := (rampTick_eq hm hp).trans (if_pos hn)
    have short (hn : a.remN ≠ 0) : s.rampTick x = _ := (rampTick_eq hm hp).trans (if_neg hn)
    rw [exec_rampTick hm]
    refine ⟨fun hn h => ?_, fun hn h hf => ?_, fun hn hk h => ?_, fun hn hk h => ?_, fun hn hk hr => ?_, fun hn hk hr => ?_⟩
    · have moves : ¬ ((s.axis x).state = .stopping ∧ a.rate = p.f) := fun ⟨hstop, hf⟩ =>
        h.elim (fun hrun => running_ne hrun hstop) (· hf)
      rw [short hn, if_neg moves]
      rfl
    · rw [short hn, if_pos ⟨h, hf⟩]
      rfl
    · rw [reached hn, countReached_plain (seek.trans hk), if_neg (state ▸ running_ne h)]
    · rw [reached hn, countReached_plain (seek.trans hk), if_pos (state.trans h)]
    · rw [reached hn, countReached_missed (seek ▸ hk) (rehearses.trans hr)]
    · rw [reached hn, countReached_rehearsed (seek ▸ hk) (rehearses.trans hr), entry, state]

end Sys2Proof.Machine
end

section
/-! PROOFS. A coherent state may hold a pair flag on a follower, which no SET_AXIS writes. Taking it off ends the run of a leader whose follower is
DISARMED, and the leader's next load puts an entry of the pair on the pending list while one member alone is PENDING. -/

namespace Sys2Proof.Machine

/-- The budget total decides no invariant of `State.coherent`. -/
theorem coherent_withBudget {s : State} (h : s.coherent) (b : Nat) :
    ({ s with arbiter := { s.arbiter with budget := b } } : State).coherent := h

/-- `overdrawn` with a unit of budget less: X0's hold draw and the increase of its pair no longer fit, so the pair's entry stays on the list. -/
def underfunded : State := { overdrawn with arbiter := { overdrawn.arbiter with budget := 26 } }

/-- One millisecond: the request is served, the dwell ends, and the pair's entry waits while X1 is DISARMED. -/
theorem underfunded_step :
    ∃ t, step underfunded = .next t ∧
      (t.arbiter.waiting.map fun e => (e.axis, e.pair), (t.axis 1).state) = ([(0, true)], AxisState.disarmed) :=
  ⟨_, rfl, by decide +kernel⟩

/-- Refutes O9: the entry of a pair whose run ended under a DISARMED follower stands for a pair that is not PENDING. -/
theorem not_stepKeepsPendingList : ¬ Obligations.StepKeepsPendingList := by
  unfold Obligations.StepKeepsPendingList
  intro h
  obtain ⟨t, ht, hout⟩ := underfunded_step
  obtain ⟨hlist, hfollower⟩ := Prod.mk.inj hout
  obtain ⟨e, he, hentry⟩ : ∃ e ∈ t.arbiter.waiting, (e.axis, e.pair) = (0, true) :=
    List.mem_map.mp (by rw [hlist]; exact List.mem_singleton_self _)
  obtain ⟨haxis, hpair⟩ := Prod.mk.inj hentry
  obtain ⟨-, listed, -⟩ := h underfunded t (coherent_withBudget overdrawn_coherent 26) ht
  obtain ⟨-, -, -, members⟩ := listed e he
  obtain ⟨-, hpending, -⟩ := members hpair
  rw [haxis, show followerOf 0 = 1 from rfl, hfollower] at hpending
  cases hpending

end Sys2Proof.Machine
end

section
/-! PROOFS. Urgency and SET_BUDGET: what becomes urgent posts GRANT_WAIT and brings a pass. -/

namespace Sys2Proof.Machine

/-! ### Entries that become urgent (R103) -/

section
variable {s : State} {x : AxisId} {e f : PendingEntry}

/-- One entry becomes urgent: it posts GRANT_WAIT on its axis's line, and a pass follows (R103, R104). -/
theorem markUrgent_one {due : PendingEntry → Bool} (h : (s.arbiter.waiting.filter fun f => due f && !f.urgent) = [e]) :
    s.markUrgent due =
      ({ s with
          arbiter :=
            { s.arbiter with waiting := s.arbiter.waiting.map fun f => if due f then { f with urgent := true } else f }
          passDue := true } : State).post (axisLine e.axis) .grantWait := by
  unfold State.markUrgent
  simp only [h, List.foldl_cons, List.foldl_nil, List.isEmpty_cons, Bool.not_false, Bool.or_true]

/-- The entry of an axis with its waited time brought up to the wait limit (log entry 9). -/
def State.waitedOut (s : State) (x : AxisId) (f : PendingEntry) : PendingEntry :=
  if f.axis = x then { f with waited := max f.waited s.arbiter.waitLimit } else f

theorem waitedOut_axis : (s.waitedOut x f).axis = f.axis := by
  unfold State.waitedOut
  split <;> rfl

theorem waitedOut_urgent : (s.waitedOut x f).urgent = f.urgent := by
  unfold State.waitedOut
  split <;> rfl

/-- The list with the waited time of an axis's entry brought up to the wait limit. -/
def State.waitOut (s : State) (x : AxisId) : State :=
  { s with arbiter := { s.arbiter with waiting := s.arbiter.waiting.map (s.waitedOut x) } }

/-- With a wait limit of 0 nothing becomes urgent (R103). -/
theorem entryUrgent_unlimited (h : s.arbiter.waitLimit = 0) : s.entryUrgent x = s := if_pos h

theorem entryUrgent_limited (h : s.arbiter.waitLimit ≠ 0) :
    s.entryUrgent x = (s.waitOut x).markUrgent fun f => f.axis = x := if_neg h

section
variable (only : (s.arbiter.waiting.filter fun f => f.axis = x) = [e])
include only

theorem exec_entryUrgent : exec (.entryUrgent x) s = .next (s.eventOutcome (s.entryUrgent x)) := by
  have waits : e ∈ s.arbiter.waiting.filter fun f => f.axis = x := only ▸ List.mem_singleton_self e
  exact eventWhen_outcome (List.any_eq_true.mpr ⟨e, List.mem_filter.mp waits⟩)

/-- An entry that is urgent already stays so, and posts nothing. -/
theorem entryUrgent_again (h : s.arbiter.waitLimit ≠ 0) (hu : e.urgent = true) : s.entryUrgent x = s.waitOut x := by
  rw [entryUrgent_limited h]
  refine markUrgent_quiet fun g hg hx => ?_
  obtain ⟨f, hf, rfl⟩ := List.mem_map.mp hg
  rw [waitedOut_axis] at hx
  have same : f ∈ [e] := only ▸ List.mem_filter.mpr ⟨hf, hx⟩
  rw [waitedOut_urgent, List.mem_singleton.mp same, hu]

/-- The entry that becomes urgent is the axis's own, its waited time at the limit. -/
theorem waitOut_hit (hu : e.urgent = false) :
    ((s.waitOut x).arbiter.waiting.filter fun f => decide (f.axis = x) && !f.urgent) = [s.waitedOut x e] := by
  have fresh : (s.arbiter.waiting.filter fun f => decide (f.axis = x) && !f.urgent) = [e] := by
    simp only [Bool.and_comm, ← List.filter_filter, only, List.filter_cons_of_pos, hu, Bool.not_false, List.filter_nil]
  simp only [State.waitOut, List.filter_map, Function.comp_def, waitedOut_axis, waitedOut_urgent, fresh, List.map_cons,
    List.map_nil]

theorem entryUrgent_fresh (h : s.arbiter.waitLimit ≠ 0) (hu : e.urgent = false) :
    s.entryUrgent x =
      ({ s with
          arbiter :=
            { s.arbiter with
              waiting := s.arbiter.waiting.map fun f =>
                if f.axis = x then { f with waited := max f.waited s.arbiter.waitLimit, urgent := true } else f }
          passDue := true } : State).post (axisLine x) .grantWait := by
  have own : e.axis = x := by
    have hit : e ∈ s.arbiter.waiting.filter fun f => f.axis = x := only ▸ List.mem_singleton_self e
    exact of_decide_eq_true (List.mem_filter.mp hit).2
  have both (f : PendingEntry) :
      (if (s.waitedOut x f).axis = x then { s.waitedOut x f with urgent := true } else s.waitedOut x f) =
        if f.axis = x then { f with waited := max f.waited s.arbiter.waitLimit, urgent := true } else f := by
    by_cases hf : f.axis = x <;> simp [State.waitedOut, hf]
  rw [entryUrgent_limited h, markUrgent_one (waitOut_hit only hu), waitedOut_axis, own]
  simp only [State.waitOut, List.map_map, Function.comp_def, decide_eq_true_eq, both]

end

end

/-! ### SET_BUDGET (R107) -/

section
variable {s : State} {budget policy : Byte} {wait : Nat} {pol : Policy}

/-- SET_BUDGET with its fields in their ranges asks only that B be not below the total allocation (R107). -/
theorem reqSetBudget_inRange (hlow : 1 ≤ budget.toNat) (hhigh : budget.toNat ≤ 63) (hpol : policyOf policy = some pol)
    (hwait : wait ≤ 10000) :
    reqSetBudget budget policy wait s =
      if budget.toNat < s.totalAllocation then (s, replyBody .overAllocated)
      else
        (({ s with
            arbiter := { s.arbiter with budget := budget.toNat, policy := pol, waitLimit := wait }
            passDue := s.passDue || s.arbiter.budget < budget.toNat || pol != s.arbiter.policy } : State).markUrgent
          fun e => wait != 0 && wait ≤ e.waited, replyBody .ok) := by
  rw [reqSetBudget, inRange_mem hlow hhigh, hpol]
  exact if_neg (Nat.not_lt.mpr hwait)

end

/-- Settles O42: ENTRY_URGENT by the wait limit and the mark that the entry has, SET_BUDGET by its checks in their order. -/
theorem entryUrgentAndSetBudget : Obligations.EntryUrgentAndSetBudget := by
  refine ⟨fun x e s only => ?urgent, fun tag budget policy wait pol s hs ht hpol => ?budget⟩
  case urgent =>
    rw [exec_entryUrgent only]
    refine ⟨fun h => ?_, fun h hu => ?_, fun h hu => ?_⟩
    · rw [entryUrgent_unlimited h]
    · rw [entryUrgent_again only h hu]
      rfl
    · rw [entryUrgent_fresh only h hu]
  case budget =>
    rw [exec_setBudget hs ht]
    obtain ⟨-, -, -, unmarked⟩ := hs
    split
    next hrange =>
      rw [reqSetBudget_badValue ((or_assoc.mpr hrange).imp (fun h => inRange_not_mem (by omega)) .inr)]
      rfl
    next hrange =>
      obtain ⟨hlow, hhigh, hwait⟩ : 1 ≤ budget.toNat ∧ budget.toNat ≤ 63 ∧ wait.toNat ≤ 10000 := by omega
      rw [reqSetBudget_inRange hlow hhigh hpol hwait]
      split
      next => rfl
      next =>
        have marks : (s.passDue || s.arbiter.budget < budget.toNat || pol != s.arbiter.policy) =
            decide (s.arbiter.budget < budget.toNat ∨ pol ≠ s.arbiter.policy) := by
          rw [Bool.eq_iff_iff]
          simp [unmarked]
        rw [marks]
        rfl

end Sys2Proof.Machine
end

section
/-! PROOFS. The channels' values under every step, and the filter step with its bounds. -/

namespace Sys2Proof.Machine

/-! ### The channels' ranges (R129) -/

/-- No update of a step takes a channel's raw or filtered value out of its range: a write of a channel keeps the ranges, every other update leaves
the channels, and a reset leaves both values at 0. -/
theorem channelsInBounds_kept : KeptSteps State.channelsInBounds :=
  { channels := fun _ _ h hv c => hv c (h c)
    cold := fun s _ c => by
      have cleared : s.coldReset.channel c = Channel.reset := vector_get_replicate _ c
      rw [cleared]
      exact ⟨Nat.zero_le _, Nat.zero_le _⟩
    axes := fun _ _ h => h, stations := fun _ _ h => h, cues := fun _ _ h => h, pairs := fun _ _ h => h,
    arbiter := fun _ _ h => h, scanner := fun _ _ h => h, display := fun _ _ h => h, passDue := fun _ _ h => h,
    handed := fun _ _ h => h, arrive := fun _ _ _ _ _ h => h, remove := fun _ _ h => h,
    update := fun _ _ _ _ _ _ h => h, append := fun _ _ _ _ h _ _ _ => h, buttons := fun _ _ h => h,
    buttonTiming := fun _ _ h => h, lamps := fun _ _ h => h, noticeLevel := fun _ _ h => h,
    line := fun _ _ _ h _ => h, intervals := fun _ _ _ _ h => h, counts := fun _ _ _ _ h => h,
    kept := fun _ _ h => h, link := fun _ _ h => h, stopLine := fun _ _ h => h, mapRecords := fun _ _ _ h => h,
    part := fun _ _ h => h, pins := fun _ _ h => h }

/-- Settles O5, by what a step can do to a channel. -/
theorem stepKeepsChannelBounds : Obligations.StepKeepsChannelBounds :=
  fun _ _ h ht => step_kept channelsInBounds_kept (fun _ _ h => h) h ht

/-! ### The filter step (R129) -/

/-- A fall divided with its floor stays a fall, and never a greater one. -/
theorem floor_of_fall {d m : Int} (hm : 0 < m) (hd : d < 0) : d ≤ d / m ∧ d / m < 0 :=
  ⟨(Int.le_ediv_iff_mul_le hm).mpr (mul_le_of_one_le_right hd.le hm), Int.ediv_neg_of_neg_of_pos hd hm⟩

/-- A rise divided with its floor stays no fall, and never a greater rise. -/
theorem floor_of_rise {d m : Int} (hm : 0 < m) (hd : 0 ≤ d) : 0 ≤ d / m ∧ d / m ≤ d :=
  ⟨Int.ediv_nonneg hd hm.le, Int.ediv_le_self m hd⟩

/-- A rise comes to nothing exactly when it is less than the divisor. -/
theorem floor_of_rise_eq_zero_iff {d m : Int} (hm : 0 < m) (hd : 0 ≤ d) : d / m = 0 ↔ d < m := by
  have below : d / m < 1 ↔ d < m := by rw [Int.ediv_lt_iff_lt_mul hm, one_mul]
  have rise := floor_of_rise hm hd
  omega

section
variable {k y x : Nat}

/-- The divisor 2^k of the filter. -/
theorem two_pow_int_pos : (0 : Int) < 2 ^ k := by positivity

/-- The value that a seeded filter takes: its old value moved by the floor of the difference over 2^k. -/
theorem filterStep_seeded : (filterStep true k y x : Int) = y + ((x : Int) - y) / 2 ^ k := by
  have step : filterStep true k y x = ((y : Int) + ((x : Int) - y) / 2 ^ k).toNat := by
    simp [filterStep]
  have nonneg : 0 ≤ (y : Int) + ((x : Int) - y) / 2 ^ k := by
    rcases lt_or_ge ((x : Int) - y) 0 with hd | hd
    · have := floor_of_fall (two_pow_int_pos (k := k)) hd
      omega
    · have := floor_of_rise (two_pow_int_pos (k := k)) hd
      omega
  rw [step, Int.toNat_of_nonneg nonneg]

/-- Towards a result that is not below it, the filtered value rises no further than the result. -/
theorem filterStep_rises (h : y ≤ x) : y ≤ filterStep true k y x ∧ filterStep true k y x ≤ x := by
  have moved := filterStep_seeded (k := k) (y := y) (x := x)
  have rise := floor_of_rise (two_pow_int_pos (k := k)) (d := (x : Int) - y) (by omega)
  omega

/-- Towards a result below it, the filtered value falls by 1 at least and no further than the result. -/
theorem filterStep_falls (h : x < y) : x ≤ filterStep true k y x ∧ filterStep true k y x < y := by
  have moved := filterStep_seeded (k := k) (y := y) (x := x)
  have fall := floor_of_fall (two_pow_int_pos (k := k)) (d := (x : Int) - y) (by omega)
  omega

/-- With a shift of 0 the filter follows the result. -/
theorem filterStep_shift_zero : filterStep true 0 y x = x := by
  have moved := filterStep_seeded (k := 0) (y := y) (x := x)
  simp only [pow_zero, Int.ediv_one] at moved
  omega

/-- A result that is not below the filtered value leaves it exactly when it lies less than 2^k above. -/
theorem filterStep_stalls_iff (h : y ≤ x) : filterStep true k y x = y ↔ x - y < 2 ^ k := by
  have moved := filterStep_seeded (k := k) (y := y) (x := x)
  have stalls := floor_of_rise_eq_zero_iff (two_pow_int_pos (k := k)) (d := (x : Int) - y) (by omega)
  calc filterStep true k y x = y ↔ ((x : Int) - y) / 2 ^ k = 0 := by omega
    _ ↔ (x : Int) - y < 2 ^ k := stalls
    _ ↔ x - y < 2 ^ k := by rw [← Nat.cast_sub h]; exact_mod_cast Iff.rfl

end

/-- Settles O44: the function's own name is taken, so this one says what is shown of it. -/
theorem filterStepBoundsAndFigures : Obligations.FilterStep := by
  refine ⟨fun r x => ⟨rfl, rfl⟩, fun k y x => rfl, fun k y x hy hx => ?_, by decide, by decide, by decide, by decide, by decide⟩
  exact ⟨filterStep_seeded, filterStep_le hy hx, filterStep_rises, filterStep_falls,
    fun hk => hk ▸ filterStep_shift_zero, filterStep_stalls_iff⟩

end Sys2Proof.Machine
end

section
/-! PROOFS. The store of a result: the channel's record, the causes of its line, and the jam guard. -/

namespace Sys2Proof.Machine

section
variable {s : State} {c : ChannelId} {x : AxisId}

/-! ### The window (R131) -/

theorem classOf_low {r : Channel} (h : r.filtered < r.windowLow) : r.classOf = .low := if_pos h

theorem classOf_high {r : Channel} (hl : r.windowLow ≤ r.filtered) (hh : r.windowHigh < r.filtered) :
    r.classOf = .high := by
  rw [Channel.classOf, if_neg (Nat.not_lt.mpr hl), if_pos hh]

theorem classOf_inside {r : Channel} (hl : r.windowLow ≤ r.filtered) (hh : r.filtered ≤ r.windowHigh) :
    r.classOf = .inside := by
  rw [Channel.classOf, if_neg (Nat.not_lt.mpr hl), if_neg (Nat.not_lt.mpr hh)]

/-- The run of one class against the window state, with the present result (R131). -/
def Channel.classRun (r : Channel) : Nat := if r.candidate = some r.classOf then r.candidateCount + 1 else 1

/-- An UNKNOWN window takes the class at once. -/
theorem windowStep_unknown {r : Channel} (h : r.window = none) :
    r.windowStep = ({ r with window := some r.classOf, candidate := none, candidateCount := 0 }, some r.classOf) :=
  if_pos h

/-- The class that the window has ends a run of another. -/
theorem windowStep_present {r : Channel} (h : r.window = some r.classOf) :
    r.windowStep = ({ r with candidate := none, candidateCount := 0 }, none) := by
  have known : r.window ≠ none := by simp [h]
  exact (if_neg known).trans (if_pos h)

/-- A run of the persistence's length changes the window; a shorter one is counted. -/
theorem windowStep_run {r : Channel} (hn : r.window ≠ none) (hc : r.window ≠ some r.classOf) :
    r.windowStep =
      if r.classRun = r.persistence then
        ({ r with window := some r.classOf, candidate := none, candidateCount := 0 }, some r.classOf)
      else ({ r with candidate := some r.classOf, candidateCount := r.classRun }, none) :=
  (if_neg hn).trans (if_neg hc)

/-- The cause of the window state that a store enters, if it enters one, on its channel's line. -/
def State.postWindow (s : State) (c : ChannelId) : Option WindowClass → State
  | none => s
  | some w => s.post (channelLine c) w.cause

/-- A store in its four parts (R128): the record, the window's cause, OVERRUN, the jam guard. -/
theorem store_eq (n : Nat) :
    s.store c n =
      (let q := ((s.channel c).filter n).mark.windowStep
       let t := (s.putChannel c q.1).postWindow c q.2
       (if (s.channel c).fresh then t.post (channelLine c) .overrun else t).jamGuard c) := by
  unfold State.store
  dsimp only
  cases ((s.channel c).filter n).mark.windowStep.2 <;> rfl

/-! ### The jam guard (R132) -/

theorem guarded_iff :
    s.guarded c x = true ↔ (s.axis x).state = .running ∧ s.rehearses x = false ∧ (s.axis x).cfg.guard = some c := by
  simp [State.guarded, and_assoc]

/-- The jam count of an axis after the comparison with a channel's filtered value. -/
def State.jamCountAt (s : State) (c : ChannelId) (x : AxisId) : Nat :=
  ((s.axis x).compareJam (s.channel c).filtered).jamCount

/-- The comparison rewrites the jam counts of the guarded axes, and nothing else. -/
theorem compareGuarded_eq :
    ∃ xs : Vector Axis 8,
      (allAxes.filter (s.guarded c)).foldl
          (fun t x => t.putAxis x ((t.axis x).compareJam (s.channel c).filtered)) s = { s with axes := xs } ∧
      ∀ x, xs.get x = if s.guarded c x then { s.axis x with jamCount := s.jamCountAt c x } else s.axis x := by
  obtain ⟨xs, hfold, hget⟩ := foldl_entries (fun v => ({ s with axes := v } : State))
    (fun t x => t.putAxis x ((t.axis x).compareJam (s.channel c).filtered))
    (fun x => (s.axis x).compareJam (s.channel c).filtered) (allAxes.filter (s.guarded c)) s.axes
    (allAxes_filter_nodup _) fun w x _ hw => by
      have record : ({ s with axes := w } : State).axis x = s.axis x := hw
      rw [record]
      rfl
  refine ⟨xs, hfold, fun x => ?_⟩
  rw [hget x]
  simp only [List.mem_filter, mem_allAxes, true_and]
  rfl

/-- The guard compares every guarded axis and then halts those at their persistence, in ascending order (log entry 16). -/
theorem jamGuard_eq :
    ∃ xs : Vector Axis 8,
      (∀ x, xs.get x = if s.guarded c x then { s.axis x with jamCount := s.jamCountAt c x } else s.axis x) ∧
      s.jamGuard c =
        (allAxes.filter fun x => s.guarded c x && decide ((s.axis x).cfg.jamPersistence ≤ s.jamCountAt c x)).foldl
          (fun u x => u.halt x .jam) { s with axes := xs } := by
  obtain ⟨xs, hfold, hget⟩ := compareGuarded_eq (s := s) (c := c)
  refine ⟨xs, hget, ?_⟩
  have jammed : ((allAxes.filter (s.guarded c)).filter fun x =>
      decide ((({ s with axes := xs } : State).axis x).cfg.jamPersistence ≤ (({ s with axes := xs } : State).axis x).jamCount)) =
      allAxes.filter fun x => s.guarded c x && decide ((s.axis x).cfg.jamPersistence ≤ s.jamCountAt c x) := by
    rw [List.filter_filter]
    refine List.filter_congr fun x _ => ?_
    have compared : ({ s with axes := xs } : State).axis x =
        if s.guarded c x then { s.axis x with jamCount := s.jamCountAt c x } else s.axis x := hget x
    cases hg : s.guarded c x
    · rw [Bool.and_false, Bool.false_and]
    · rw [compared, hg, Bool.and_true, Bool.true_and]
      rfl
  unfold State.jamGuard
  dsimp only
  rw [hfold, jammed]

end

/-- Settles O45: the class, the window step, the store in its parts, the jam guard. -/
theorem resultIsStored : Obligations.ResultIsStored := by
  refine ⟨fun r => ⟨classOf_low, classOf_high, classOf_inside⟩, ?window, ?stored, ?jam⟩
  case window =>
    exact fun r => ⟨windowStep_unknown, windowStep_present,
      fun hn hc hrun => (windowStep_run hn hc).trans (if_pos hrun),
      fun hn hc hrun => (windowStep_run hn hc).trans (if_neg hrun)⟩
  case stored =>
    intro c n s r marked t windowed
    have entered : windowed = t.postWindow c marked.windowStep.2 := by
      simp only [windowed]
      rcases marked.windowStep.2 with _ | _ | _ | _ <;> rfl
    rw [entered]
    exact store_eq n
  case jam =>
    intro c s guarded count
    obtain ⟨xs, hget, hjam⟩ := jamGuard_eq (s := s) (c := c)
    refine ⟨{ s with axes := xs }, rfl, fun x => ⟨fun hg => ?_, fun hg => ?_⟩, hjam⟩
    · exact (hget x).trans (if_pos (guarded_iff.mpr hg))
    · exact (hget x).trans (if_neg fun h => hg (guarded_iff.mp h))

end Sys2Proof.Machine
end

section
/-! PROOFS. The triggers of the scanner by its state and source, and its set-up requests. -/

namespace Sys2Proof.Machine

section
variable {s : State} {src : ScanSource}

/-! ### A trigger (R123) -/

/-- The scanner at the start of a scan (R119). -/
def State.scanStarted (s : State) : State :=
  { s with scanner := { s.scanner with state := .scanning s.scanner.startCh } }

theorem scanTrigger_otherSource (h : s.scanner.source ≠ src) : s.scanTrigger src = s := if_neg h

theorem scanTrigger_off (h : s.scanner.state = .off) : s.scanTrigger src = s := by
  simp [State.scanTrigger, h]

/-- In IDLE a trigger from the scanner's source starts a scan. -/
theorem scanTrigger_idle (hsrc : s.scanner.source = src) (h : s.scanner.state = .idle) :
    s.scanTrigger src = s.scanStarted := by
  simp [State.scanTrigger, h, hsrc, State.scanStarted]

/-- While SCANNING a trigger of SOFTWARE or MOTION passes unseen. -/
theorem scanTrigger_unseen {c : ChannelId} (hp : src ≠ .period) (he : src ≠ .external)
    (h : s.scanner.state = .scanning c) : s.scanTrigger src = s := by
  simp [State.scanTrigger, h, hp, he]

/-- While SCANNING a trigger of the PERIOD or EXTERNAL source is late. -/
theorem scanTrigger_late {c : ChannelId} (hsrc : s.scanner.source = src) (ht : src = .period ∨ src = .external)
    (h : s.scanner.state = .scanning c) : s.scanTrigger src = s.post scannerLine .scanLate := by
  simp [State.scanTrigger, h, hsrc, ht]

/-! ### SCAN_TRIGGER (R124) -/

/-- SCAN_TRIGGER acts on an enabled scanner with the SOFTWARE source alone. -/
theorem reqScanTrigger_notEnabled (h : s.scanner.state = .off ∨ s.scanner.source ≠ .software) :
    reqScanTrigger s = (s, replyBody .notEnabled) := by
  unfold reqScanTrigger
  split
  next => rfl
  next hidle => exact if_neg (h.resolve_left (by simp [hidle]))
  next hscan => exact if_neg (h.resolve_left (by simp [hscan]))

theorem reqScanTrigger_idle (h : s.scanner.state = .idle) (hsrc : s.scanner.source = .software) :
    reqScanTrigger s = (s.scanStarted, replyBody .ok) := by
  simp only [reqScanTrigger, h, hsrc, if_true, scanTrigger_idle hsrc h]

theorem reqScanTrigger_busy {c : ChannelId} (h : s.scanner.state = .scanning c) (hsrc : s.scanner.source = .software) :
    reqScanTrigger s = (s, replyBody .busy) := by
  simp only [reqScanTrigger, h, hsrc, if_true]

end

/-- Settles O47, by the scanner's state and source. -/
theorem scanTrigger : Obligations.ScanTrigger := by
  intro tag l s hs ht started
  rw [exec_scanTrigger hs.1 ht]
  refine ⟨fun h => ?refused, fun hidle hsrc => ?starts, fun c hscan hsrc => ?busy⟩
  case refused =>
    have passes : s.routeActs l .scan = s := h.elim scanTrigger_off scanTrigger_otherSource
    rw [reqScanTrigger_notEnabled h, requestOutcome_self hs]
    exact ⟨rfl, passes⟩
  case starts =>
    rw [reqScanTrigger_idle hidle hsrc]
    exact ⟨congrArg _ (requestOutcome_reply hs rfl rfl rfl rfl), scanTrigger_idle hsrc hidle⟩
  case busy =>
    rw [reqScanTrigger_busy hscan hsrc, requestOutcome_self hs]
    exact ⟨rfl, scanTrigger_unseen (by simp) (by simp) hscan⟩

section
variable {s : State} {x : AxisId}

/-! ### SCAN_ENABLE (R121, R122) -/

theorem prepareChannels_channel (c : ChannelId) : s.prepareChannels.channel c = (s.channel c).prepare :=
  Vector.getElem_map Channel.prepare c.isLt

theorem reqScanEnable_on (h : s.scanner.state ≠ .off) : reqScanEnable s = (s, replyBody .ok) := if_neg h

theorem reqScanEnable_fault (h : s.scanner.state = .off) (hav : s.part.available.scanner = false) :
    reqScanEnable s = (s, replyBody .fault) := by
  simp [reqScanEnable, h, hav]

/-- The scanner enabled: IDLE, every channel prepared, the period timer loaded with the PERIOD source (R121). -/
def State.scanEnabled (s : State) : State :=
  { s with
    channels := s.channels.map Channel.prepare
    scanner :=
      { s.scanner with
        state := .idle
        periodRemaining := if s.scanner.source = .period then some s.scanner.period else none } }

theorem reqScanEnable_off (h : s.scanner.state = .off) (hav : s.part.available.scanner = true) :
    reqScanEnable s = (s.scanEnabled, replyBody .ok) := by
  have available : ¬ (!s.part.available.scanner) = true := by simp [hav]
  exact (if_pos h).trans (if_neg available)

theorem guardHeld_iff : s.guardHeld = true ↔ ∃ x, (s.axis x).state ≠ .disarmed ∧ (s.axis x).cfg.guard ≠ none := by
  simp [State.guardHeld, mem_allAxes, Option.isSome_iff_ne_none]

theorem reqScanDisable_inUse (h : ∃ x, (s.axis x).state ≠ .disarmed ∧ (s.axis x).cfg.guard ≠ none) :
    reqScanDisable s = (s, replyBody .inUse) := if_pos (guardHeld_iff.mpr h)

theorem reqScanDisable_free (h : ∀ x, (s.axis x).state = .disarmed ∨ (s.axis x).cfg.guard = none) :
    reqScanDisable s = ({ s with scanner := { s.scanner with state := .off, periodRemaining := none } }, replyBody .ok) := by
  refine if_neg fun held => ?_
  obtain ⟨x, hs, hg⟩ := guardHeld_iff.mp held
  exact (h x).elim hs hg

/-! ### SET_SCAN and SET_CHANNEL (R134, R135) -/

theorem sampleTimeOf_listed {b : Byte} (h : b = 8#8 ∨ b = 16#8 ∨ b = 32#8 ∨ b = 64#8) : sampleTimeOf b = some b.toNat := by
  rcases h with rfl | rfl | rfl | rfl <;> rfl

/-- SET_SCAN with its fields in their ranges asks only that the scanner be OFF. -/
theorem reqSetScan_inRange {a b mode source sample : Byte} {period : Nat} {cs ce : ChannelId} {m : ScanMode}
    {src : ScanSource} (ha : a.toNat = cs.val) (hb : b.toNat = ce.val) (hm : scanModeOf mode = some m)
    (hsrc : scanSourceOf source = some src) (hlow : 1 ≤ period) (hhigh : period ≤ 1000)
    (hsample : sample = 8#8 ∨ sample = 16#8 ∨ sample = 32#8 ∨ sample = 64#8) :
    reqSetScan a b mode source period sample s =
      if s.scanner.state ≠ .off then (s, replyBody .busy)
      else
        ({ s with
            scanner :=
              { s.scanner with
                startCh := cs, endCh := ce, mode := m, source := src, period := period, sampleTime := sample.toNat } },
          replyBody .ok) := by
  rw [reqSetScan, finOf_eq ha, finOf_eq hb, hm, hsrc, inRange_mem hlow hhigh, sampleTimeOf_listed hsample]

/-- SET_CHANNEL with its fields in their ranges asks only that the scanner be OFF. -/
theorem reqSetChannel_inRange {ch k persistence : Byte} {low high : Nat} {c : ChannelId} (hc : ch.toNat = c.val)
    (hk : k.toNat ≤ 3) (hwindow : low ≤ high) (hhigh : high ≤ 1023) (hp1 : 1 ≤ persistence.toNat)
    (hp2 : persistence.toNat ≤ 15) :
    reqSetChannel ch k low high persistence s =
      if s.scanner.state ≠ .off then (s, replyBody .busy)
      else
        (s.putChannel c
          { s.channel c with shift := k.toNat, windowLow := low, windowHigh := high, persistence := persistence.toNat },
          replyBody .ok) := by
  rw [reqSetChannel, finOf_eq hc, inRange_mem (Nat.zero_le _) hk, inRange_mem (Nat.zero_le _) (hwindow.trans hhigh),
    inRange_mem (Nat.zero_le _) hhigh, inRange_mem hp1 hp2]
  exact if_neg (Nat.not_lt.mpr hwindow)

end

/-- Settles O48, request by request and check by check. -/
theorem scannerSetup : Obligations.ScannerSetup := by
  refine ⟨fun tag s hs ht => ?enable, fun tag s hs ht => ⟨?scan, ?channel⟩⟩
  case enable =>
    rw [exec_scanEnable hs.1 ht, exec_scanDisable hs.1 ht]
    refine ⟨fun h => ?on, fun h hav => ?fault, fun h hav => ?enabled, fun h => ?inUse, fun h => ?disabled⟩
    case on => rw [reqScanEnable_on h, requestOutcome_self hs]
    case fault => rw [reqScanEnable_fault h hav, requestOutcome_self hs]
    case enabled =>
      rw [reqScanEnable_off h hav]
      exact ⟨s.scanEnabled, congrArg _ (requestOutcome_reply hs rfl rfl rfl rfl), rfl, rfl, prepareChannels_channel⟩
    case inUse => rw [reqScanDisable_inUse h, requestOutcome_self hs]
    case disabled =>
      rw [reqScanDisable_free h]
      exact congrArg _ (requestOutcome_reply hs rfl rfl rfl rfl)
  case scan =>
    intro a b mode source sample period cs ce m src ha hb hm hsrc hlow hhigh hsample
    rw [exec_setScan hs.1 ht, reqSetScan_inRange ha hb hm hsrc hlow hhigh hsample]
    split
    · rw [requestOutcome_self hs]
    · exact congrArg _ (requestOutcome_reply hs rfl rfl rfl rfl)
  case channel =>
    intro ch k persistence low high c hc hk hwindow hhigh hp1 hp2
    rw [exec_setChannel hs.1 ht, reqSetChannel_inRange hc hk hwindow hhigh hp1 hp2]
    split
    · rw [requestOutcome_self hs]
    · exact congrArg _ (requestOutcome_reply hs rfl rfl rfl rfl)

end Sys2Proof.Machine
end

section
/-! PROOFS. The end of a conversion, the timed triggers, and the MOTION source. -/

namespace Sys2Proof.Machine

section
variable {s : State} {x : AxisId}

/-! ### The end of a conversion (R119, R120) -/

/-- A scan ends with SCAN_DONE; ONCE leaves the scanner IDLE, CONTINUOUS begins again. -/
theorem endScan_eq :
    s.endScan =
      (let d := s.post scannerLine .scanDone
       d.setScanState (if d.scanner.mode = .once then .idle else .scanning d.scanner.startCh)) := by
  unfold State.endScan
  dsimp only
  split
  next once => rw [if_pos once]
  next continuous => rw [if_neg (by rw [continuous]; decide)]

/-- A conversion stores its result and goes on to the next channel, or ends the scan at the last one. -/
theorem conversionComplete_eq {c : ChannelId} (h : s.scanner.state = .scanning c) (n : Nat) :
    s.conversionComplete n =
      if c = (s.store c n).scanner.endCh then (s.store c n).endScan
      else (s.store c n).setScanState (.scanning (nextChannel c)) := by
  simp only [State.conversionComplete, h]

theorem exec_conversionComplete {c : ChannelId} (h : s.scanner.state = .scanning c) (result : BitVec 10) :
    exec (.conversionComplete result) s = .next (s.eventOutcome (s.conversionComplete result.toNat)) :=
  eventWhen_outcome (by simp [h])

/-! ### The timed triggers (R125, R127) -/

/-- The period timer reloaded. -/
def State.periodReloaded (s : State) : State :=
  { s with scanner := { s.scanner with periodRemaining := some s.scanner.period } }

theorem exec_periodExpiry (hon : s.scanner.state ≠ .off) (hsrc : s.scanner.source = .period) :
    exec .periodExpiry s = .next (s.eventOutcome (s.periodReloaded.scanTrigger .period)) := by
  have expires : s.periodExpiry = s.periodReloaded.scanTrigger .period := if_pos ⟨hon, hsrc⟩
  rw [← expires]
  exact eventWhen_outcome (by simp [hon, hsrc])

/-- The trigger line low, at its pin and in the scanner's last sample. -/
def State.triggerLow (s : State) : State :=
  { s with pins := { s.pins with trigger := false }, scanner := { s.scanner with triggerLevel := some false } }

theorem exec_triggerFallingEdge (h : s.part.condition ≠ .testing) :
    exec .triggerFallingEdge s = .next (s.eventOutcome (s.triggerLow.scanTrigger .external)) :=
  eventWhen_outcome (by simp [isTesting_false h])

/-! ### The MOTION source (R126) -/

theorem stationLine_ne_scannerLine {st : StationId} : stationLine st ≠ scannerLine := by
  revert st
  decide

theorem testActivity_scannerLine {st : StationId} : (s.testActivity st).line scannerLine = s.line scannerLine := by
  unfold State.testActivity State.restStation
  dsimp only
  split
  · split <;> exact post_line_ne stationLine_ne_scannerLine
  · rfl

theorem reportState_scannerLine {old new : AxisState} : (s.reportState x old new).line scannerLine = s.line scannerLine := by
  unfold State.reportState
  split
  · rfl
  · dsimp only
    split
    · rw [testActivity_scannerLine]
      split <;> rfl
    · split <;> rfl

/-- A trigger of the MOTION source starts a scan in IDLE, and is nothing else. -/
theorem scanTrigger_motion :
    s.scanTrigger .motion = if s.scanner.source = .motion ∧ s.scanner.state = .idle then s.scanStarted else s := by
  by_cases hsrc : s.scanner.source = .motion
  · cases h : s.scanner.state with
    | off => simp [scanTrigger_off h]
    | idle => simp [scanTrigger_idle hsrc h, hsrc]
    | scanning c => simp [scanTrigger_unseen (src := .motion) (by simp) (by simp) h]
  · rw [scanTrigger_otherSource hsrc, if_neg fun h => hsrc h.1]

theorem scanTrigger_motion_line (l : LineId) : (s.scanTrigger .motion).line l = s.line l := by
  rw [scanTrigger_motion]
  split <;> rfl

/-- An axis that enters a state posts nothing on the scanner's line. -/
theorem enter_scannerLine {new : AxisState} {f : Axis → Axis} :
    (s.enter x new f).line scannerLine = s.line scannerLine := by
  have reported : ((s.putAxis x ((f (s.axis x)).settled new)).reportState x (s.axis x).state new).line scannerLine =
      s.line scannerLine := reportState_scannerLine
  unfold State.enter
  dsimp only
  split
  · rw [scanTrigger_motion_line, reported]
  · exact reported

/-- The entry that the MOTION source sees: an axis that does not rehearse goes from PENDING to RUNNING while the scanner waits for it. -/
def State.motionSeen (s : State) (x : AxisId) (new : AxisState) : Prop :=
  ((s.axis x).state = .pending ∧ new = .running ∧ s.rehearses x = false) ∧
    s.scanner.source = .motion ∧ s.scanner.state = .idle

/-- An entry that the MOTION source sees starts a scan. -/
theorem enter_scanner_seen {new : AxisState} {f : Axis → Axis} (h : s.motionSeen x new) :
    (s.enter x new f).scanner = { s.scanner with state := .scanning s.scanner.startCh } := by
  rw [enter_scanner, if_pos h.1, scanTrigger_motion, if_pos h.2]
  rfl

/-- Every other entry leaves the scanner. -/
theorem enter_scanner_unseen {new : AxisState} {f : Axis → Axis} (h : ¬ s.motionSeen x new) :
    (s.enter x new f).scanner = s.scanner := by
  rw [enter_scanner]
  split
  next entry => rw [scanTrigger_motion, if_neg fun waits => h ⟨entry, waits⟩]
  next => rfl

/-- What an entry does to the scanner rests on the axis's state and mode and on the scanner, and on nothing that a grant or the context
rewrites. -/
theorem grant_solo_scanner {e : PendingEntry} (h : e.pair = false) :
    (s.grant e).scanner = (s.enter e.axis .running).scanner := by
  have enters : s.grant e = (s.granting e.axis).enter e.axis .running Axis.unmarked := if_neg (by simp [h])
  rw [enters]
  by_cases seen : s.motionSeen e.axis .running
  · rw [enter_scanner_seen seen, enter_scanner_seen (s := s.granting e.axis) seen]
    rfl
  · rw [enter_scanner_unseen seen, enter_scanner_unseen (s := s.granting e.axis) seen]
    rfl

end

/-- Settles O46: the conversion, the two timed sources, the MOTION source. -/
theorem conversionAndTimedTriggers : Obligations.ConversionAndTimedTriggers := by
  refine ⟨?conversion, ?timed, ?motion⟩
  case conversion =>
    intro result c s hscan
    rw [exec_conversionComplete hscan, conversionComplete_eq hscan, endScan_eq]
    rfl
  case timed =>
    intro s start
    have starts : ∀ (t : State) (src : ScanSource), t.scanner.source = src → src = .period ∨ src = .external →
        t.scanTrigger src = start t := by
      intro t src hsrc timed
      cases h : t.scanner.state with
      | off => simp only [scanTrigger_off h, start, h]
      | idle => simp only [scanTrigger_idle hsrc h, start, h, State.scanStarted]
      | scanning c => simp only [scanTrigger_late hsrc timed h, start, h]
    refine ⟨fun hon hsrc => ?period, fun htest => ?edge⟩
    case period =>
      rw [exec_periodExpiry hon hsrc, starts s.periodReloaded .period hsrc (.inl rfl)]
      rfl
    case edge =>
      rw [exec_triggerFallingEdge htest]
      refine ⟨fun hsrc => ?external, fun hsrc => ?other⟩
      case external =>
        rw [starts s.triggerLow .external hsrc (.inr rfl)]
        rfl
      case other =>
        rw [scanTrigger_otherSource (s := s.triggerLow) hsrc]
        rfl
  case motion =>
    intro s x new f t
    refine ⟨enter_scannerLine, fun hold hnew hmode hsrc hidle => ?_, fun h => ?_, fun e hx he => ?_⟩
    · exact enter_scanner_seen ⟨⟨hold, hnew, hmode⟩, hsrc, hidle⟩
    · refine enter_scanner_unseen fun ⟨⟨hold, hnew, hmode⟩, hsrc, hidle⟩ => ?_
      simp [hold, hnew, hmode, hsrc, hidle] at h
    · subst hx
      exact grant_solo_scanner he

end Sys2Proof.Machine
end

section
/-! PROOFS. The form of the alert table under every step (R138). -/

namespace Sys2Proof.Machine

/-! ### The form of a table, by what is done to its records (R138) -/

section
variable {s : AlertTable} {rs : List Alert} {r v : Alert}

/-- The form reads of the records only their ids and identities. -/
theorem formed_of_map_eq (h : s.formed) (ids : rs.map (·.id) = s.records.map (·.id))
    (identities : rs.map Alert.identity = s.records.map Alert.identity) : ({ s with records := rs } : AlertTable).formed := by
  obtain ⟨hlen, hidentity, hid, hrange, hlow, hhigh, hfree⟩ := h
  have same : ∀ q ∈ rs, ∃ p ∈ s.records, p.id = q.id := fun q hq =>
    List.mem_map.mp (ids ▸ List.mem_map_of_mem hq)
  refine ⟨?_, identities ▸ hidentity, ids ▸ hid, fun q hq => ?_, hlow, hhigh, fun q hq => ?_⟩
  · have hlength : rs.length = s.records.length := by simpa using congrArg List.length ids
    exact hlength ▸ hlen
  · obtain ⟨p, hp, e⟩ := same q hq
    exact e ▸ hrange p hp
  · obtain ⟨p, hp, e⟩ := same q hq
    exact e ▸ hfree p hp

/-- A table some of whose records left keeps its form. -/
theorem formed_of_sublist (h : s.formed) (fewer : rs.Sublist s.records) : ({ s with records := rs } : AlertTable).formed := by
  obtain ⟨hlen, hidentity, hid, hrange, hlow, hhigh, hfree⟩ := h
  exact ⟨fewer.length_le.trans hlen, hidentity.sublist (fewer.map _), hid.sublist (fewer.map _),
    fun q hq => hrange q (fewer.subset hq), hlow, hhigh, fun q hq => hfree q (fewer.subset hq)⟩

/-- A record rewritten under its own id and identity keeps the form: no other record has that id. -/
theorem formed_rewrite (h : s.formed) (stored : v ∈ s.records) (hid : r.id = v.id) (hidentity : r.identity = v.identity) :
    ({ s with records := s.records.map fun q => if q.id = r.id then r else q } : AlertTable).formed := by
  have ⟨_, _, distinct, _⟩ := h
  refine formed_of_map_eq h ?ids ?identities
  case ids =>
    rw [List.map_map]
    refine List.map_congr_left fun q _ => ?_
    by_cases e : q.id = r.id <;> simp [e]
  case identities =>
    rw [List.map_map]
    refine List.map_congr_left fun q hq => ?_
    by_cases e : q.id = r.id
    · have own : q = v := List.inj_on_of_nodup_map distinct hq stored (e.trans hid)
      rw [Function.comp_apply, if_pos e, hidentity, own]
    · rw [Function.comp_apply, if_neg e]

/-- With room for it, a record of a new identity that takes the next id leaves a formed table, for the id after is searched for past every
stored one (R138, R141). -/
theorem formed_append (h : s.formed) (room : s.records.length < 16) (hid : r.id = s.nextId)
    (new : ∀ q ∈ s.records, q.identity ≠ r.identity) :
    ({ s with
        records := s.records ++ [r]
        nextId := freeId (s.records ++ [r]) 17 (nextIdAfter s.nextId) } : AlertTable).formed := by
  obtain ⟨-, hidentity, hids, hrange, hlow, hhigh, hfree⟩ := h
  have fits : (s.records ++ [r]).length ≤ 16 := by simp; omega
  obtain ⟨nextLow, nextHigh⟩ := nextIdAfter_range hlow
  obtain ⟨⟨freeLow, freeHigh⟩, -⟩ := freeId_spec (s.records ++ [r]) 17 _ nextLow nextHigh
  refine ⟨fits, ?_, ?_, fun q hq => ?_, freeLow, freeHigh, freeId_new fits nextLow nextHigh⟩
  · rw [List.map_append]
    refine hidentity.append (List.nodup_singleton _) ?_
    simpa using new
  · rw [List.map_append]
    refine hids.append (List.nodup_singleton _) ?_
    simpa [hid] using hfree
  · rcases List.mem_append.mp hq with old | own
    · exact hrange q old
    · rw [List.mem_singleton.mp own, hid]
      exact ⟨hlow, hhigh⟩

end

/-! ### Every step (R138) -/

/-- The alert table has the form of R138. -/
def State.alertsFormed (s : State) : Prop := s.alerts.formed

/-- A record that leaves a table makes a place in it (R142). -/
theorem room_of_evicted {rs : List Alert} {v : Alert} (full : rs.length ≤ 16) (stored : v ∈ rs) :
    (rs.filter (·.id ≠ v.id)).length < 16 :=
  (List.length_filter_lt_length_iff_exists.mpr ⟨v, stored, by simp⟩).trans_le full

/-- Every update of the records keeps the form of R138, and a reset leaves an empty table. A raise appends only to a table that is not full or
that an evicted record has just left (R141, R142). -/
theorem alertsFormed_kept : KeptSteps State.alertsFormed :=
  { remove := fun _ _ h => formed_of_sublist h List.filter_sublist
    update := fun _ _ _ stored hid hidentity h => formed_rewrite h stored hid hidentity
    append := fun s t r hs ht hid new room => by
      refine formed_append ht ?_ hid new
      rcases room with free | ⟨v, stored, evicted⟩
      · exact free
      · exact evicted ▸ room_of_evicted hs.1 stored
    mapRecords := fun s f same h =>
      formed_of_map_eq h (by simp [Function.comp_def, same]) (by simp [Function.comp_def, same])
    cold := fun _ _ => reset_alertsFormed
    channels := fun _ _ h _ => h
    axes := fun _ _ h => h, stations := fun _ _ h => h, cues := fun _ _ h => h, pairs := fun _ _ h => h,
    arbiter := fun _ _ h => h, scanner := fun _ _ h => h, display := fun _ _ h => h, passDue := fun _ _ h => h,
    handed := fun _ _ h => h, arrive := fun _ _ _ _ _ h => h, buttons := fun _ _ h => h,
    buttonTiming := fun _ _ h => h, lamps := fun _ _ h => h, noticeLevel := fun _ _ h => h,
    line := fun _ _ _ h _ => h, intervals := fun _ _ _ _ h => h, counts := fun _ _ _ _ h => h,
    kept := fun _ _ h => h, link := fun _ _ h => h, stopLine := fun _ _ h => h,
    part := fun _ _ h => h, pins := fun _ _ h => h }

/-- Settles O6, by what a step can do to the alert table. -/
theorem stepKeepsAlertTableForm : Obligations.StepKeepsAlertTableForm :=
  fun _ _ h ht => step_kept alertsFormed_kept (fun _ _ h => h) h ht

end Sys2Proof.Machine
end

section
/-! PROOFS. ACK_ALERT, CLEAR_ALERT and RAISE_ALERT: what each does to the alert table, and its reply. -/

namespace Sys2Proof.Machine

section
variable {s : State} {r v : Alert} {id : Nat} {kind : AlertKind} {sev : Severity} {source : Nat} {target : Option StationId}

/-! ### A raise (R140 to R142) -/

theorem raise_merges (h : s.alerts.records.find? (·.hasIdentity kind source target) = some r) :
    s.raise kind sev source target = (s.mergeAlert r sev, .merged r.id) := by
  unfold State.raise
  rw [h]

theorem raise_appends (new : s.alerts.records.find? (·.hasIdentity kind source target) = none)
    (room : s.alerts.records.length < 16) :
    s.raise kind sev source target = (s.appendAlert kind sev source target, .new s.alerts.nextId) := by
  unfold State.raise
  rw [new]
  exact if_pos room

/-- The removal of a record leaves the next id. -/
theorem removeRecord_nextId : (s.removeRecord r).alerts.nextId = s.alerts.nextId := by
  unfold State.removeRecord
  extract_lets t
  have posted : t.alerts.nextId = s.alerts.nextId := by
    rw [show t.alerts = _ from State.post_alerts ..]
    rfl
  split
  · rw [testLocks_alerts, posted]
  · exact posted

theorem raise_evicts (new : s.alerts.records.find? (·.hasIdentity kind source target) = none)
    (full : 16 ≤ s.alerts.records.length) (h : evictable s.alerts.records = some v) :
    s.raise kind sev source target =
      ((s.removeRecord v).appendAlert kind sev source target, .new s.alerts.nextId) := by
  unfold State.raise
  rw [new]
  refine (if_neg (Nat.not_lt.mpr full)).trans ?_
  rw [h]
  dsimp only
  rw [removeRecord_nextId]

theorem raise_loses (new : s.alerts.records.find? (·.hasIdentity kind source target) = none)
    (full : 16 ≤ s.alerts.records.length) (h : evictable s.alerts.records = none) :
    s.raise kind sev source target = (s.loseAlert kind sev source target, .notStored) := by
  unfold State.raise
  rw [new]
  refine (if_neg (Nat.not_lt.mpr full)).trans ?_
  rw [h]

/-- Nothing can be evicted where every NOTE is RAISED (R142). -/
theorem evictable_none {rs : List Alert} (h : ∀ r ∈ rs, r.severity = .note → r.acked = false) : evictable rs = none := by
  refine List.find?_eq_none.mpr fun r hr both => ?_
  obtain ⟨isNote, acked⟩ : r.severity = .note ∧ r.acked = true := by simpa using both
  simp [h r hr isNote] at acked

/-! ### The requests' checks (R155 to R157) -/

theorem reqAckAlert_absent (hid : id ≠ 0) (h : s.recordOf id = none) : reqAckAlert id s = (s, replyBody .notFound) := by
  unfold reqAckAlert
  rw [if_neg hid, h]

theorem reqAckAlert_stored (hid : id ≠ 0) (h : s.recordOf id = some r) :
    reqAckAlert id s = (s.acknowledge r, replyBody .ok) := by
  unfold reqAckAlert
  rw [if_neg hid, h]

theorem reqClearAlert_absent (hid : id ≠ 0) (h : s.recordOf id = none) :
    reqClearAlert id s = (s, replyBody .notFound) := by
  unfold reqClearAlert
  rw [if_neg hid, h]

theorem reqClearAlert_stored (hid : id ≠ 0) (h : s.recordOf id = some r) :
    reqClearAlert id s =
      if (r.kind = .stuckButton ∨ r.kind = .stopLine) ∧ r.condition = some true then (s, replyBody .inUse)
      else (s.removeRecord r, replyBody .ok) := by
  unfold reqClearAlert
  rw [if_neg hid, h]
  simp only [Bool.and_eq_true, isCondition_iff, decide_eq_true_eq]

theorem reqRaiseAlert_read {severity station code : Byte} (hsev : severityOf severity = some sev)
    (hst : stationRefOf station = some target) :
    reqRaiseAlert severity station code s =
      ((s.raise .host sev code.toNat target).1,
        replyBody .ok (s.raise .host sev code.toNat target).2.bytes) := by
  unfold reqRaiseAlert
  rw [hsev, hst]

end

/-- Settles O50, from what each request does with the record it finds or fails to find. -/
theorem raiseAckAndClearAlert : Obligations.RaiseAckAndClearAlert := by
  refine ⟨fun tag id s hs ht => ⟨?zero, ?absent, ?stored⟩,
    fun tag severity station code sev target s hs ht hsev hst => ?raise⟩
  case zero =>
    rintro rfl
    rw [exec_ackAlert hs ht, exec_clearAlert hs ht]
    exact ⟨rfl, rfl⟩
  case absent =>
    intro hid h
    have hnat : id.toNat ≠ 0 := fun e => hid (BitVec.eq_of_toNat_eq e)
    rw [exec_ackAlert hs ht, exec_clearAlert hs ht, reqAckAlert_absent hnat h, reqClearAlert_absent hnat h]
    exact ⟨rfl, rfl⟩
  case stored =>
    intro r hid h
    have hnat : id.toNat ≠ 0 := fun e => hid (BitVec.eq_of_toNat_eq e)
    have again : s.acknowledge r = if r.acked then s else s.acknowledge r := by
      split
      next acked => exact acknowledge_acked acked
      next => rfl
    rw [exec_ackAlert hs ht, exec_clearAlert hs ht, reqAckAlert_stored hnat h, reqClearAlert_stored hnat h, ← again]
    refine ⟨rfl, ?_⟩
    split <;> rfl
  case raise =>
    intro mine
    have identity : ∀ r : Alert, r.hasIdentity .host code.toNat target = true ↔ mine r := fun r => hasIdentity_iff
    have absent (h : ∀ r ∈ s.alerts.records, ¬ mine r) :
        s.alerts.records.find? (·.hasIdentity .host code.toNat target) = none :=
      List.find?_eq_none.mpr fun r hr => mt (identity r).mp (h r hr)
    rw [exec_raiseAlert hs ht, reqRaiseAlert_read hsev hst]
    refine ⟨fun r h => ?merge, fun new room => ?append, fun v new full h => ?evict, fun new full h => ?lose⟩
    case merge =>
      have same : (fun q : Alert => decide (mine q)) = fun q => q.hasIdentity .host code.toNat target :=
        funext fun q => by rw [Bool.eq_iff_iff, identity, decide_eq_true_iff]
      rw [raise_merges (same ▸ h)]
      rfl
    case append =>
      rw [raise_appends (absent new) room]
      rfl
    case evict =>
      rw [raise_evicts (absent new) full h]
      rfl
    case lose =>
      rw [raise_loses (absent new) full (evictable_none h)]
      rfl

end Sys2Proof.Machine
end

section
/-! PROOFS. WRITE_LAMPS, SHOW_SCENE and SET_MIRROR: what a run of column bytes leaves in the scenes, and each request's checks. -/

namespace Sys2Proof.Machine

section
variable {s : State} {n m : SceneId} {c d : Fin 32} {b : Byte}

/-! ### One column -/

theorem putColumn_column_self : (s.putColumn n c b).column n c = b := by
  unfold State.column State.putColumn
  dsimp only
  rw [vector_get_set_self, vector_get_set_self]

theorem putColumn_column_ne (h : d ≠ c) : (s.putColumn n c b).column n d = s.column n d := by
  unfold State.column State.putColumn
  dsimp only
  rw [vector_get_set_self, vector_get_set_ne _ _ _ _ h.symm]

theorem putColumn_column_scene (h : m ≠ n) : (s.putColumn n c b).column m d = s.column m d := by
  unfold State.column State.putColumn
  dsimp only
  rw [vector_get_set_ne _ _ _ _ h.symm]

/-- The pointer goes on by one column and stays at column 31 (R166). -/
theorem nextColumn_val : (nextColumn c).val = min (c.val + 1) 31 := by
  unfold nextColumn
  split
  next h => exact (Nat.min_eq_left h).symm
  next h => omega

/-! ### A run of columns (R166) -/

theorem writeColumns_only : ∀ (bs : List Byte) (c : Fin 32) (s : State),
    State.writeColumns n c bs s =
      { s with lamps := { s.lamps with scenes := (State.writeColumns n c bs s).lamps.scenes } }
  | [], _, _ => rfl
  | b :: bs, c, s => writeColumns_only bs (nextColumn c) (s.putColumn n c b)

theorem writeColumns_scene (h : m ≠ n) : ∀ (bs : List Byte) (c : Fin 32) (s : State),
    (State.writeColumns n c bs s).column m d = s.column m d
  | [], _, _ => rfl
  | b :: bs, c, s => (writeColumns_scene h bs (nextColumn c) (s.putColumn n c b)).trans (putColumn_column_scene h)

/-- A column that the pointer never names: before its start, or at its end or beyond. -/
theorem writeColumns_outside : ∀ (bs : List Byte) (c : Fin 32) (s : State), d < c ∨ c.val + bs.length ≤ d.val →
    (State.writeColumns n c bs s).column n d = s.column n d
  | [], _, _, _ => rfl
  | b :: bs, c, s, h => by
    have hnext := nextColumn_val (c := c)
    rw [List.length_cons] at h
    have here : d ≠ c := by omega
    have later : d < nextColumn c ∨ (nextColumn c).val + bs.length ≤ d.val := by omega
    exact (writeColumns_outside bs (nextColumn c) (s.putColumn n c b) later).trans (putColumn_column_ne here)

/-- A column short of 31 takes the one byte for which the pointer names it. -/
theorem writeColumns_inside (hd : d.val < 31) (bs : List Byte) (c : Fin 32) (s : State) (hc : c ≤ d)
    (hb : bs[d.val - c.val]? = some b) : (State.writeColumns n c bs s).column n d = b := by
  induction bs generalizing c s with
  | nil => cases hb
  | cons a bs ih =>
    have hnext := nextColumn_val (c := c)
    by_cases here : d = c
    · subst here
      obtain rfl : a = b := by simpa using hb
      have left : d < nextColumn d := by omega
      exact (writeColumns_outside bs (nextColumn d) (s.putColumn n d a) (.inl left)).trans putColumn_column_self
    · have later : nextColumn c ≤ d := by omega
      have place : d.val - c.val = d.val - (nextColumn c).val + 1 := by omega
      rw [place, List.getElem?_cons_succ] at hb
      exact ih (nextColumn c) (s.putColumn n c a) later hb

/-- Column 31 keeps the last of the bytes that land on it. -/
theorem writeColumns_last (bs : List Byte) (c : Fin 32) (s : State) (reach : 32 ≤ c.val + bs.length)
    (hb : bs.getLast? = some b) : (State.writeColumns n c bs s).column n 31 = b := by
  induction bs generalizing c s with
  | nil => cases hb
  | cons a bs ih =>
    have hnext := nextColumn_val (c := c)
    rw [List.length_cons] at reach
    cases bs with
    | nil =>
      obtain rfl : a = b := by simpa using hb
      obtain rfl : c = 31 := Fin.ext (by rw [List.length_nil] at reach; omega)
      exact putColumn_column_self
    | cons a' bs =>
      have later : 32 ≤ (nextColumn c).val + (a' :: bs).length := by
        rw [List.length_cons] at reach ⊢
        omega
      exact ih (nextColumn c) (s.putColumn n c a) later (List.getLast?_cons_cons ▸ hb)

/-! ### The requests' checks (R166, R168) -/

section
variable {scene start v : Byte} {columns : List Byte}

theorem byteOf_flagCode (p : Prop) [Decidable p] : byteOf (flagCode p) = if p then 1#8 else 0#8 := by
  by_cases h : p
  · simp only [h, if_true]; rfl
  · simp only [h, if_false]; rfl

theorem flagOf_of_lt (h : v.toNat < 2) : flagOf v = some (decide (v = 1#8)) := by
  obtain rfl | rfl : v = 0#8 ∨ v = 1#8 := by bv_omega
  · rfl
  · rfl

theorem reqWriteLamps_fault (hn : scene.toNat = n.val) (hc : start.toNat = c.val) (h : s.part.available.lamps = false) :
    reqWriteLamps scene start columns s = (s, replyBody .fault) := by
  unfold reqWriteLamps
  rw [finOf_eq hn, finOf_eq hc, h]
  rfl

theorem reqWriteLamps_ok (hn : scene.toNat = n.val) (hc : start.toNat = c.val) (h : s.part.available.lamps = true) :
    reqWriteLamps scene start columns s =
      (State.writeColumns n c columns s,
        replyBody .ok [byteOf columns.length, if 32 < c.val + columns.length then 1#8 else 0#8]) := by
  unfold reqWriteLamps
  rw [finOf_eq hn, finOf_eq hc, h, ← byteOf_flagCode]
  rfl

theorem reqShowScene_fault (hv : v.toNat < 4) (h : s.part.available.lamps = false) :
    reqShowScene v s = (s, replyBody .fault) := by
  unfold reqShowScene
  rw [finOf_eq (x := ⟨v.toNat, hv⟩) rfl, h]
  rfl

theorem reqShowScene_ok (hv : v.toNat = n.val) (h : s.part.available.lamps = true) :
    reqShowScene v s = ({ s with lamps := { s.lamps with display := n } }, replyBody .ok) := by
  unfold reqShowScene
  rw [finOf_eq hv, h]
  rfl

theorem reqSetMirror_fault (hv : v.toNat < 2) (h : s.part.available.lamps = false) :
    reqSetMirror v s = (s, replyBody .fault) := by
  unfold reqSetMirror
  rw [flagOf_of_lt hv, h]
  rfl

theorem reqSetMirror_ok (hv : v.toNat < 2) (h : s.part.available.lamps = true) :
    reqSetMirror v s = ({ s with lamps := { s.lamps with mirror := decide (v = 1#8) } }, replyBody .ok) := by
  unfold reqSetMirror
  rw [flagOf_of_lt hv, h]
  rfl

end

/-- A request that writes the lamps alone leaves its change, with its reply. -/
theorem requestOutcome_lamps (h : s.listening) {t : State} {tag kind : Byte} {st : Status} {fields : List Byte}
    (only : t = { s with lamps := t.lamps }) :
    s.requestOutcome t tag kind (replyBody st fields) = t.reply tag kind st fields := by
  rw [only]
  exact requestOutcome_reply h rfl rfl rfl rfl

end

/-- Settles O52: the run of columns by the place of each column to the pointer, the two settings by their checks. -/
theorem lampRequests : Obligations.LampRequests := by
  refine ⟨fun tag scene start columns n c s hs ht hn hc h1 h2 => ⟨fun dark => ?_, fun lit => ?_⟩,
    fun tag v s hs ht => ⟨fun hv => ?_, fun hv dark => ?_, fun n hn lit => ?_, fun hv => ?_, fun hv dark => ?_,
      fun hv lit => ?_⟩⟩
  · exact refused_of hs (exec_writeLamps hs.1 ht scene start columns h1 h2) (reqWriteLamps_fault hn hc dark)
  · have only := writeColumns_only (n := n) columns c s
    refine ⟨State.writeColumns n c columns s, ?_, only, fun m d hm => writeColumns_scene hm columns c s,
      fun d before => writeColumns_outside columns c s (.inl before),
      fun d beyond => writeColumns_outside columns c s (.inr beyond),
      fun d hd short b => writeColumns_inside short columns c s hd, fun b => writeColumns_last columns c s⟩
    have lampsOnly : State.writeColumns n c columns s = { s with lamps := (State.writeColumns n c columns s).lamps } := by
      rw [only]
    rw [exec_writeLamps hs.1 ht scene start columns h1 h2, reqWriteLamps_ok hn hc lit, requestOutcome_lamps hs lampsOnly]
  · exact refused_of hs (exec_showScene hs.1 ht v) (by rw [reqShowScene, finOf_none hv])
  · exact refused_of hs (exec_showScene hs.1 ht v) (reqShowScene_fault hv dark)
  · rw [exec_showScene hs.1 ht v, reqShowScene_ok hn lit, requestOutcome_lamps hs rfl]
  · exact refused_of hs (exec_setMirror hs.1 ht v) (by rw [reqSetMirror, flagOf_none hv])
  · exact refused_of hs (exec_setMirror hs.1 ht v) (reqSetMirror_fault hv dark)
  · rw [exec_setMirror hs.1 ht v, reqSetMirror_ok hv lit, requestOutcome_lamps hs rfl]

end Sys2Proof.Machine
end

section
/-! PROOFS. The form of every event line under every step (R170). -/

namespace Sys2Proof.Machine

/-- A line rewritten within its form leaves every line in its form. -/
theorem linesFormed_putLine {s : State} {l : LineId} {r : Line} (h : s.linesFormed) (hr : r.formed l) :
    (s.putLine l r).linesFormed := fun m => by
  by_cases e : l = m
  · subst e
    rw [State.putLine_line_self]
    exact hr
  · rw [State.putLine_line_ne _ e]
    exact h m

/-- Two updates of a step reach a line: the arrival of a cause of its class, and a rewrite within its form (a notice's mark, SET_EVENT,
CLEAR_EVENTS). A reset leaves every line clear. -/
theorem linesFormed_kept : KeptSteps State.linesFormed :=
  { arrive := fun _ l _ _ ofClass h => linesFormed_putLine h (Line.arrive_formed ofClass (h l))
    line := fun _ l _ h within => linesFormed_putLine h (within (h l))
    cold := fun _ _ => reset_linesFormed
    axes := fun _ _ h => h, stations := fun _ _ h => h, cues := fun _ _ h => h, pairs := fun _ _ h => h,
    arbiter := fun _ _ h => h, scanner := fun _ _ h => h, display := fun _ _ h => h, passDue := fun _ _ h => h,
    handed := fun _ _ h => h, remove := fun _ _ h => h, update := fun _ _ _ _ _ _ h => h,
    append := fun _ _ _ _ h _ _ _ => h, buttons := fun _ _ h => h, buttonTiming := fun _ _ h => h,
    lamps := fun _ _ h => h, noticeLevel := fun _ _ h => h, channels := fun _ _ h _ => h,
    intervals := fun _ _ _ _ h => h, counts := fun _ _ _ _ h => h, kept := fun _ _ h => h, link := fun _ _ h => h,
    stopLine := fun _ _ h => h, mapRecords := fun _ _ _ h => h, part := fun _ _ h => h, pins := fun _ _ h => h }

/-- Settles O4, by what a step can do to an event line. -/
theorem stepKeepsLineForm : Obligations.StepKeepsLineForm :=
  fun _ _ h ht => step_kept linesFormed_kept (fun _ _ h => h) h ht

end Sys2Proof.Machine
end

section
/-! PROOFS. The end of an event: the moves of the link one by one, the line that is chosen, and the body of its notice. -/

namespace Sys2Proof.Machine

section
variable {s t : State} {f : Frame} {l : LineId}

/-! ### The link's moves (R187, R188, R175) -/

theorem takeHeld_unheld (h : s.link.holder = none) : s.takeHeld = s := by
  simp [State.takeHeld, h]

theorem takeHeld_waiting (h : s.link.slot = some f) : s.takeHeld = s := by
  unfold State.takeHeld
  rw [h]

theorem beginReply_unasked (h : s.link.slot = none) : s.beginReply = s := by
  simp [State.beginReply, h]

theorem beginReply_sending (h : s.link.tx ≠ .free) : s.beginReply = s := by
  unfold State.beginReply
  split
  · exact absurd ‹_› h
  · rfl

theorem beginReply_free (h : s.link.tx = .free) (hs : s.link.slot = some f) :
    s.beginReply = { s with link := { s.link with tx := .sendingReply f, slot := none } } := by
  unfold State.beginReply
  rw [h, hs]

theorem chooseNotice_sending (h : s.link.tx ≠ .free) : s.chooseNotice = s := by
  unfold State.chooseNotice
  split
  · exact absurd ‹_› h
  · rfl

theorem chooseNotice_none (h : s.chosenLine = none) : s.chooseNotice = s := by
  simp [State.chooseNotice, h]

theorem chooseNotice_free (h : s.link.tx = .free) (hs : s.link.slot = none) (hl : s.chosenLine = some l) :
    s.chooseNotice =
      { s.putLine l { s.line l with announced := true } with
        link := { s.link with tx := .sendingNotice { tag := 0#8, kind := 0xFE#8, body := s.noticeBody l } } } := by
  unfold State.chooseNotice
  rw [h, hs, hl]
  rfl

/-- With the holder and the slot empty, the link's one move is the notice choice. -/
theorem pump_empty (hh : s.link.holder = none) (hs : s.link.slot = none) : s.pump = s.chooseNotice := by
  rw [State.pump, takeHeld_unheld hh, beginReply_unasked hs, takeHeld_unheld hh]

/-- While a frame is under way and a reply waits, the link makes no move. -/
theorem pump_busy (h : s.link.tx ≠ .free) (hs : s.link.slot = some f) : s.pump = s := by
  rw [State.pump, takeHeld_waiting hs, beginReply_sending h, takeHeld_waiting hs, chooseNotice_sending h]

/-- The choice of a notice hands nothing over. -/
theorem chooseNotice_handed : s.chooseNotice.handed = s.handed := by
  unfold State.chooseNotice
  split <;> rfl

/-- A quiet event with the holder and the slot empty ends with the notice choice. -/
theorem eventOutcome_empty (hp : t.passDue = false) (ha : ¬ t.totalAllocation < s.totalAllocation)
    (hd : t.handed = []) (hh : t.link.holder = none) (hs : t.link.slot = none) : s.eventOutcome t = t.chooseNotice := by
  rw [State.eventOutcome, settled_quiet hp ha, pump_empty hh hs]
  exact drain_of_nil (chooseNotice_handed.trans hd) _

/-! ### The chosen line (R174) -/

theorem candidate_iff :
    s.candidate l = true ↔
      s.part.condition = .inService ∧ (s.line l).flag = true ∧ (s.line l).enable = true ∧ (s.line l).announced = false ∧
        s.noticeLevel < (s.line l).level := by
  simp [State.candidate, State.serving, and_assoc]

/-- What the search for a line has found in the lines it has looked at: no candidate, or the best one. -/
def State.bestOf (s : State) (ls : List LineId) : Option LineId → Prop
  | none => ∀ m ∈ ls, s.candidate m = false
  | some l =>
    s.candidate l = true ∧ l ∈ ls ∧
      ∀ m ∈ ls, s.candidate m = true → (s.line m).level < (s.line l).level ∨ ((s.line m).level = (s.line l).level ∧ l ≤ m)

theorem bestOf_better {ls : List LineId} {best : Option LineId} (later : ∀ m ∈ ls, m < l) (h : s.bestOf ls best) :
    s.bestOf (ls ++ [l]) (s.better best l) := by
  have extends_to : ∀ {p : LineId → Prop}, (∀ m ∈ ls, p m) → p l → ∀ m ∈ ls ++ [l], p m := fun old own m hm =>
    (List.mem_append.mp hm).elim (old m) fun e => List.mem_singleton.mp e ▸ own
  have last : l ∈ ls ++ [l] := List.mem_append_right _ (List.mem_singleton_self l)
  unfold State.better
  by_cases hc : s.candidate l = true
  · rw [if_pos hc]
    match best, h with
    | none, none_before =>
      exact ⟨hc, last, extends_to (fun m hm hcm => absurd hcm (by simp [none_before m hm])) fun _ => .inr ⟨rfl, le_rfl⟩⟩
    | some b, ⟨hb, b_mem, b_best⟩ =>
      dsimp only
      split
      next higher =>
        exact ⟨hc, last, extends_to (fun m hm hcm => .inl (by rcases b_best m hm hcm with low | ⟨e, -⟩ <;> omega))
          fun _ => .inr ⟨rfl, le_rfl⟩⟩
      next not_higher =>
        refine ⟨hb, List.mem_append_left _ b_mem, extends_to b_best fun _ => ?_⟩
        have earlier : b ≤ l := (later b b_mem).le
        rcases Nat.lt_or_eq_of_le (Nat.le_of_not_lt not_higher) with low | e
        · exact .inl low
        · exact .inr ⟨e, earlier⟩
  · rw [if_neg hc]
    match best, h with
    | none, none_before => exact extends_to none_before (by simpa using hc)
    | some b, ⟨hb, b_mem, b_best⟩ =>
      exact ⟨hb, List.mem_append_left _ b_mem, extends_to b_best fun h => absurd h hc⟩

/-- A search through ascending lines finds the best of them. -/
theorem bestOf_foldl {ls : List LineId} (ascending : ls.Pairwise (· < ·)) : s.bestOf ls (ls.foldl s.better none) := by
  induction ls using List.reverseRecOn with
  | nil => exact fun _ hm => absurd hm (List.not_mem_nil)
  | append_singleton ls l ih =>
    obtain ⟨before, -, later⟩ := List.pairwise_append.mp ascending
    rw [List.foldl_append]
    exact bestOf_better (fun m hm => later m hm l (List.mem_singleton_self l)) (ih before)

theorem chosenLine_bestOf : s.bestOf allLines s.chosenLine := bestOf_foldl (List.pairwise_lt_finRange 43)

theorem mem_allLines (l : LineId) : l ∈ allLines := List.mem_finRange l

theorem chosenLine_some (h : s.chosenLine = some l) :
    s.candidate l = true ∧
      ∀ m, s.candidate m = true → (s.line m).level < (s.line l).level ∨ ((s.line m).level = (s.line l).level ∧ l ≤ m) := by
  obtain ⟨chosen, -, best⟩ : s.bestOf allLines (some l) := h ▸ chosenLine_bestOf
  exact ⟨chosen, fun m => best m (mem_allLines m)⟩

theorem chosenLine_none (h : s.chosenLine = none) (m : LineId) : s.candidate m = false :=
  have none_at : s.bestOf allLines none := h ▸ chosenLine_bestOf
  none_at m (mem_allLines m)

/-! ### The notice's body (Table 12-10) -/

theorem lineFields_button (b : ButtonId) : s.lineFields (buttonLine b) = (s.button b).snapshot := by
  have own : (⟨(buttonLine b).val % 16, by omega⟩ : ButtonId) = b := Fin.ext (by simp only [buttonLine]; omega)
  unfold State.lineFields
  rw [lineClass_button]
  exact congrArg (fun b => (s.button b).snapshot) own

theorem lineFields_axis (x : AxisId) :
    s.lineFields (axisLine x) = (s.line (axisLine x)).details.axisBytes ++ s.axisSnapshot x := by
  have own : (⟨(axisLine x).val % 8, by omega⟩ : AxisId) = x := Fin.ext (by simp only [axisLine]; omega)
  unfold State.lineFields
  rw [lineClass_axis]
  exact congrArg (fun y => (s.line (axisLine x)).details.axisBytes ++ s.axisSnapshot y) own

theorem lineFields_channel (c : ChannelId) : s.lineFields (channelLine c) = (s.channel c).snapshot := by
  have own : (⟨(channelLine c).val % 8, by omega⟩ : ChannelId) = c := Fin.ext (by simp only [channelLine]; omega)
  unfold State.lineFields
  rw [lineClass_channel]
  exact congrArg (fun c => (s.channel c).snapshot) own

theorem lineFields_station (st : StationId) : s.lineFields (stationLine st) = (s.station st).snapshot := by
  have own : (⟨(stationLine st).val % 8, by omega⟩ : StationId) = st := Fin.ext (by simp only [stationLine]; omega)
  unfold State.lineFields
  rw [lineClass_station]
  exact congrArg (fun st => (s.station st).snapshot) own

theorem lineFields_scanner : s.lineFields scannerLine = s.scanner.bytes := by
  unfold State.lineFields
  rw [lineClass_scanner]

theorem lineFields_alert :
    s.lineFields alertLine = (s.line alertLine).details.alertBytes ++ s.alertSnapshot := by
  unfold State.lineFields
  rw [lineClass_alert]

theorem lineFields_system :
    s.lineFields systemLine = (s.line systemLine).details.startByte :: s.systemSnapshot := by
  unfold State.lineFields
  rw [lineClass_system]

/-- A notice's body by what the fields of its line are. -/
theorem noticeBody_of {fields : List Byte} (h : s.lineFields l = fields) :
    s.noticeBody l = [byteOf l.val, byteOf (s.line l).level] ++ le16 (s.line l).causes.toNat ++ fields := by
  rw [State.noticeBody, h]

end

/-- Settles O18: the end of a quiet event is the notice choice, the choice is the best of all lines, and the body is read class by class. -/
theorem eventEndsWithTheBestNotice : Obligations.EventEndsWithTheBestNotice := by
  refine ⟨fun s after hp ha hd hh hs => ?ending, fun s => ⟨fun l => chosenLine_some, chosenLine_none⟩,
    fun s l => candidate_iff, fun s => ?bodies⟩
  case ending =>
    rw [eventOutcome_empty hp ha hd hh hs]
    exact ⟨chooseNotice_sending, fun _ => chooseNotice_none, fun l htx => chooseNotice_free htx hs⟩
  case bodies =>
    intro head
    exact ⟨fun b => noticeBody_of (lineFields_button b), fun x => noticeBody_of (lineFields_axis x),
      fun c => noticeBody_of (lineFields_channel c), fun st => noticeBody_of (lineFields_station st),
      noticeBody_of lineFields_scanner, noticeBody_of lineFields_alert, noticeBody_of lineFields_system⟩

end Sys2Proof.Machine
end

section
/-! PROOFS. The arrival of a cause on a line, and the route actions that arrivals hand over. -/

namespace Sys2Proof.Machine

section
variable {s : State} {l : LineId} {c : Cause} {d : Details → Details} {target : Option StationId}

/-! ### An arrival (R169, R170) -/

theorem post_discarded (h : s.part.condition ≠ .inService) : s.post l c d = s :=
  if_neg (by simpa [State.serving] using h)

theorem post_line_self (h : s.part.condition = .inService) : (s.post l c d).line l = (s.line l).arrive c d := by
  unfold State.post
  rw [if_pos (serving_of_inService h)]
  dsimp only
  split
  · exact State.putLine_line_self s l _
  · exact State.putLine_line_self s l _

theorem post_handed (h : s.part.condition = .inService) :
    (s.post l c d).handed = if (s.line l).mask.getLsbD c.bit then s.handed ++ [(l, (s.line l).action)] else s.handed := by
  unfold State.post
  rw [if_pos (serving_of_inService h)]
  dsimp only
  split <;> rfl

/-! ### The route actions (R172) -/

theorem drain_handed {act : RouteAction} {rest : List (LineId × RouteAction)} (h : s.handed = (l, act) :: rest) (n : Nat) :
    drain (n + 1) s = drain n ({ s with handed := rest }.settled ({ s with handed := rest }.routeActs l act)).pump := by
  rw [drain, h]

/-- A trigger of the SOFTWARE source is never late: it starts a scan in IDLE and is unseen elsewhere (R123). -/
theorem scanTrigger_software :
    s.scanTrigger .software =
      if s.scanner.source = .software ∧ s.scanner.state = .idle then s.scanStarted else s := by
  by_cases hsrc : s.scanner.source = .software
  · cases h : s.scanner.state with
    | off => rw [scanTrigger_off h, if_neg (by simp)]
    | idle => rw [scanTrigger_idle hsrc h, if_pos ⟨hsrc, rfl⟩]
    | scanning ch => rw [scanTrigger_unseen (by decide) (by decide) h, if_neg (by simp)]
  · rw [scanTrigger_otherSource hsrc, if_neg fun both => hsrc both.1]

/-- A record is sought by its identity. -/
theorem find_identity {kind : AlertKind} {source : Nat} (rs : List Alert) :
    rs.find? (·.hasIdentity kind source target) =
      rs.find? fun q => decide (q.kind = kind ∧ q.source = source ∧ q.station = target) :=
  congrArg (rs.find? ·) (funext fun q => by rw [Bool.eq_iff_iff, hasIdentity_iff, decide_eq_true_iff])

theorem find_identity_none {kind : AlertKind} {source : Nat} {rs : List Alert}
    (new : ∀ q ∈ rs, ¬ (q.kind = kind ∧ q.source = source ∧ q.station = target)) :
    rs.find? (·.hasIdentity kind source target) = none :=
  List.find?_eq_none.mpr fun q hq => mt hasIdentity_iff.mp (new q hq)

end

/-- Settles O19: an arrival by the four parts of R170, and each route action by the operation that it is. -/
theorem arrivalIsTakenWhole : Obligations.ArrivalIsTakenWhole := by
  refine ⟨fun s l c d => ⟨post_discarded, fun h => ?arrival⟩, fun s n l act rest h => drain_handed h n,
    fun s l => ⟨rfl, scanTrigger_software, fun st => ?start, fun sev target => ?raise⟩⟩
  case arrival =>
    rw [post_line_self h]
    exact ⟨rfl, rfl, rfl, rfl, rfl, rfl, post_handed h, fun m other => post_line_ne (Ne.symm other)⟩
  case start =>
    intro chosen
    exact ⟨fun ready some_chosen => congrArg Prod.fst (startStation_taken ready some_chosen),
      fun refused => congrArg Prod.fst (startStation_refused refused)⟩
  case raise =>
    intro mine
    refine ⟨fun r found => ?_, fun new room => ?_, fun v new full evicted => ?_, fun new full none_evicted => ?_⟩
    · exact congrArg Prod.fst (raise_merges ((find_identity _).trans found))
    · exact congrArg Prod.fst (raise_appends (find_identity_none new) room)
    · exact congrArg Prod.fst (raise_evicts (find_identity_none new) full evicted)
    · exact congrArg Prod.fst (raise_loses (find_identity_none new) full (evictable_none none_evicted))

end Sys2Proof.Machine
end

section
/-! PROOFS. SET_EVENT and CLEAR_EVENTS: their checks, and what a list of cleared lines leaves. -/

namespace Sys2Proof.Machine

section
variable {s : State}

/-! ### SET_EVENT (R177, R173) -/

/-- A route acts again on its own causes on a station line that takes STATION_REFUSED, and on the alert line when it raises an alert. -/
theorem selfRoute_iff {l : LineId} {route : RouteAction} {mask : BitVec 16} :
    selfRoute l route mask = true ↔
      (lineClass l = .station ∧ mask.getLsbD 5 = true) ∨
        (lineClass l = .alert ∧ ∃ sev st, route = .raiseAlert sev st) := by
  cases route <;> simp [selfRoute, Cause.bit]

section
variable {line enable level action p1 p2 : Byte} {mask : BitVec 16} {l : LineId} {en : Bool} {route : RouteAction}

theorem reqSetEvent_read (hline : line.toNat = l.val) (hen : flagOf enable = some en) (hlevel : level.toNat ≤ 7)
    (hroute : routeOf action p1 p2 = some route) :
    reqSetEvent line enable level action p1 p2 mask s =
      if !maskFits l mask.toNat || selfRoute l route mask then (s, replyBody .badValue)
      else
        (s.putLine l { s.line l with enable := en, level := level.toNat, action := route, mask := mask },
          replyBody .ok) := by
  unfold reqSetEvent
  rw [finOf_eq hline, hen, inRange_mem (Nat.zero_le _) hlevel, hroute]

end

/-! ### Index lists of any bound (R195) -/

/-- An index is in the list that is read when its byte is among the bytes. -/
theorem mem_indexList {n : Nat} {bytes : List Byte} {xs : List (Fin n)} (hn : n ≤ 256) (h : indexList n bytes = some xs)
    (x : Fin n) : x ∈ xs ↔ byteOf x.val ∈ bytes := by
  obtain ⟨numbers, -⟩ := indexList_iff.mp h
  have own : (byteOf x.val).toNat = x.val := byteOf_of_lt (by omega)
  calc x ∈ xs ↔ x.val ∈ xs.map Fin.val := (List.mem_map_of_injective Fin.val_injective).symm
    _ ↔ (byteOf x.val).toNat ∈ bytes.map BitVec.toNat := by rw [numbers, own]
    _ ↔ byteOf x.val ∈ bytes := List.mem_map_of_injective BitVec.toNat_injective

theorem nodup_indexList {n : Nat} {bytes : List Byte} {xs : List (Fin n)} (h : indexList n bytes = some xs) : xs.Nodup := by
  obtain ⟨numbers, distinct⟩ := indexList_iff.mp h
  exact List.Nodup.of_map _ (numbers ▸ distinct.map BitVec.toNat_injective)

theorem indexList_exists {n : Nat} {bytes : List Byte} (below : ∀ b ∈ bytes, b.toNat < n) (distinct : bytes.Nodup) :
    ∃ xs : List (Fin n), indexList n bytes = some xs := by
  have numbers : (bytes.pmap (fun b h => (⟨b.toNat, h⟩ : Fin n)) below).map Fin.val = bytes.map BitVec.toNat := by
    rw [List.map_pmap, List.pmap_eq_map]
  exact ⟨_, indexList_iff.mpr ⟨numbers.symm, distinct⟩⟩

theorem indexList_beyond {n : Nat} {bytes : List Byte} (h : (∃ b ∈ bytes, n ≤ b.toNat) ∨ ¬ bytes.Nodup) :
    indexList n bytes = none := by
  rw [Option.eq_none_iff_forall_ne_some]
  intro xs hxs
  obtain ⟨numbers, distinct⟩ := indexList_iff.mp hxs
  rcases h with ⟨b, hb, beyond⟩ | repeated
  · obtain ⟨x, -, hx⟩ := List.mem_map.mp (numbers ▸ List.mem_map_of_mem (f := BitVec.toNat) hb)
    omega
  · exact repeated distinct

/-! ### CLEAR_EVENTS (R179) -/

/-- The part with these lines cleared. -/
def State.clearLines (s : State) (ls : List LineId) : State := ls.foldl (fun t l => t.putLine l (t.line l).clear) s

theorem reqClearEvents_refused {lines : List Byte} (h : indexList 43 lines = none) :
    reqClearEvents lines s = (s, replyBody .badValue) := by
  unfold reqClearEvents
  rw [h]

theorem reqClearEvents_read {lines : List Byte} {ls : List LineId} (h : indexList 43 lines = some ls) :
    reqClearEvents lines s =
      (s.clearLines ls, replyBody .ok [byteOf (ls.filter fun l => (s.line l).flag).length]) := by
  unfold reqClearEvents
  rw [h]
  rfl

theorem clearLines_only (ls : List LineId) : s.clearLines ls = { s with lines := (s.clearLines ls).lines } := by
  unfold State.clearLines
  induction ls generalizing s with
  | nil => rfl
  | cons l ls ih => rw [List.foldl_cons, ih]; rfl

/-- Each line of the list is cleared, and every other line stands. -/
theorem clearLines_line (ls : List LineId) (m : LineId) :
    (s.clearLines ls).line m = if m ∈ ls then (s.line m).clear else s.line m := by
  unfold State.clearLines
  induction ls generalizing s with
  | nil => simp
  | cons l ls ih =>
    rw [List.foldl_cons, ih]
    by_cases e : l = m
    · subst e
      simp [Line.clear]
    · rw [State.putLine_line_ne _ e]
      simp [Ne.symm e]

/-- The count of a list without repeats is that of the lines it names. -/
theorem length_filter_named {ls : List LineId} {named : LineId → Prop} [DecidablePred named] (distinct : ls.Nodup)
    (h : ∀ l, l ∈ ls ↔ named l) (p : LineId → Bool) :
    (ls.filter p).length = (allLines.filter fun l => named l ∧ p l = true).length := by
  refine List.Perm.length_eq ((List.perm_ext_iff_of_nodup (distinct.filter _) ((List.nodup_finRange 43).filter _)).mpr
    fun l => ?_)
  simp [h]

end

/-- Settles O54: SET_EVENT by its two checks on the read fields, CLEAR_EVENTS by the list of lines it reads. -/
theorem setEventAndClearEvents : Obligations.SetEventAndClearEvents := by
  refine ⟨fun tag line enable level action p1 p2 mask l en route s hs ht hline hen hlevel hroute => ?set,
    fun tag lines s hs ht hlow hhigh => ⟨fun bad => ?refused, fun below distinct => ?cleared⟩⟩
  case set =>
    intro own
    rw [exec_setEvent hs ht, reqSetEvent_read hline hen hlevel hroute]
    have self : selfRoute l route mask = true ↔ own := selfRoute_iff
    refine ⟨fun refused => ?_, fun fits acts_once => ?_⟩
    · rw [if_pos (by simpa [maskFits, self] using refused)]
      rfl
    · rw [if_neg (by simpa [maskFits, self] using ⟨fits, acts_once⟩)]
      rfl
  case refused =>
    exact refused_of hs (exec_clearEvents hs.1 ht lines hlow hhigh) (reqClearEvents_refused (indexList_beyond bad))
  case cleared =>
    obtain ⟨ls, read⟩ := indexList_exists below distinct
    have named : ∀ l : LineId, l ∈ ls ↔ byteOf l.val ∈ lines := mem_indexList (by decide) read
    have only := clearLines_only (s := s) ls
    refine ⟨s.clearLines ls, (ls.filter fun l => (s.line l).flag).length, ?_,
      length_filter_named (nodup_indexList read) named _, only, fun l => ?_⟩
    · rw [exec_clearEvents hs.1 ht lines hlow hhigh, reqClearEvents_read read]
      refine congrArg _ (requestOutcome_reply hs ?_ ?_ ?_ ?_) <;> rw [only]
    · rw [clearLines_line, if_congr (named l) rfl rfl]
      rfl

end Sys2Proof.Machine
end

section
/-! PROOFS. The receiver byte by byte, the receive holder behind a waiting reply, and the end of a frame that is sent. -/

namespace Sys2Proof.Machine

section
variable {s t : State} {c len tag kind : Byte} {rest body : List Byte} {f held reply : Frame} {l : LineId}

/-! ### A character (R183) -/

theorem exec_byteReceived (h : s.takeByte c = t) : exec (.byteReceived c true) s = .next (s.eventOutcome t) := by
  rw [← h]
  rfl

theorem takeByte_noise (h : s.link.receiver = none) (hc : c ≠ 0xA5#8) : s.takeByte c = s := by
  unfold State.takeByte
  rw [h]
  exact if_neg hc

theorem takeByte_sync (h : s.link.receiver = none) : s.takeByte 0xA5#8 = s.assemble [] := by
  unfold State.takeByte
  rw [h]
  exact if_pos rfl

theorem takeByte_badLength (h : s.link.receiver = some []) (hc : c.toNat < 2 ∨ 250 < c.toNat) : s.takeByte c = s.hunt := by
  unfold State.takeByte
  rw [h]
  exact if_neg (by omega)

theorem takeByte_length (h : s.link.receiver = some []) (low : 2 ≤ c.toNat) (high : c.toNat ≤ 250) :
    s.takeByte c = s.assemble [c] := by
  unfold State.takeByte
  rw [h]
  exact if_pos ⟨low, high⟩

theorem takeByte_inside (h : s.link.receiver = some (len :: rest)) (more : rest.length < len.toNat) :
    s.takeByte c = s.assemble (len :: rest ++ [c]) := by
  unfold State.takeByte
  rw [h]
  exact if_pos more

theorem takeByte_last (h : s.link.receiver = some (len :: rest)) (whole : len.toNat ≤ rest.length) :
    s.takeByte c = s.hunt.frameComplete (len :: rest ++ [c]) := by
  unfold State.takeByte
  rw [h]
  exact if_neg (Nat.not_lt.mpr whole)

/-! ### A whole frame (R185, R186) -/

theorem frameComplete_badSum {bytes : List Byte} (h : bytes.foldl (· + ·) 0#8 ≠ 0#8) :
    s.frameComplete bytes =
      ({ s with link := { s.link with sumCount := min 255 (s.link.sumCount + 1) } } : State).post systemLine .frameError :=
  if_neg h

/-- Of a good frame's bytes the length and the sum are dropped. -/
theorem frameComplete_good (h : (len :: tag :: kind :: body ++ [c]).foldl (· + ·) 0#8 = 0#8) :
    s.frameComplete (len :: tag :: kind :: body ++ [c]) = s.acceptFrame { tag := tag, kind := kind, body := body } := by
  have accepted : s.frameComplete (len :: tag :: kind :: body ++ [c]) =
      s.acceptFrame { tag := tag, kind := kind, body := (body ++ [c]).dropLast } := if_pos h
  rw [accepted, List.dropLast_concat]

theorem acceptFrame_empty (h : s.link.holder = none) :
    s.acceptFrame f = { s with link := { s.link with holder := some f } } := by
  unfold State.acceptFrame
  rw [h]

theorem acceptFrame_full (h : s.link.holder ≠ none) :
    s.acceptFrame f = { s with link := { s.link with overrunCount := min 255 (s.link.overrunCount + 1) } } := by
  unfold State.acceptFrame
  split
  · exact absurd ‹_› h
  · rfl

/-! ### The gap (R184) -/

theorem exec_gapExpiry (h : s.link.receiver ≠ none) :
    exec .gapExpiry s = .next (s.eventOutcome
      { s with link := { s.link with receiver := none, gapTime := 0, gapCount := min 255 (s.link.gapCount + 1) } }) := by
  obtain ⟨bytes, assembling⟩ := Option.ne_none_iff_exists'.mp h
  have discarded : s.gapExpiry =
      { s with link := { s.link with receiver := none, gapTime := 0, gapCount := min 255 (s.link.gapCount + 1) } } := by
    unfold State.gapExpiry
    rw [assembling]
    rfl
  rw [← discarded]
  exact eventWhen_outcome (by rw [assembling]; rfl)

/-! ### A frame behind a waiting reply (R186) -/

/-- An event that moves neither axes nor pairs leaves its own change while a frame is under way and a reply waits behind it. -/
theorem eventOutcome_busy (htx : t.link.tx ≠ .free) (hslot : t.link.slot = some f) (hp : t.passDue = false)
    (hd : t.handed = []) (ha : t.axes = s.axes) (hq : t.pairs = s.pairs) : s.eventOutcome t = t := by
  rw [State.eventOutcome, settled_of_axes hp ha hq, pump_busy htx hslot, drain_of_nil hd]

/-! ### The end of a frame that is sent (R188) -/

/-- The end of any frame but RESTART's OK reply frees the transmitter. -/
theorem transmitEnd_frees (h : s.link.tx = .sendingNotice f ∨
      (s.link.tx = .sendingReply f ∧ ¬ (f.kind = 0x83#8 ∧ f.body = [0#8]))) :
    s.transmitEnd = s.eventOutcome s.freeTransmitter := by
  unfold State.transmitEnd
  rcases h with notice | ⟨reply, other⟩
  · rw [notice]
    rfl
  · rw [reply]
    exact if_neg (mt isRestartReply_iff.mp other)

/-- A freed transmitter leaves the axes and the pairs, so what follows is the link's moves alone. -/
theorem eventOutcome_freed (hp : s.passDue = false) :
    s.eventOutcome s.freeTransmitter = drain Config.routeFuel s.freeTransmitter.pump := by
  rw [State.eventOutcome, settled_of_axes (s := s) (t := s.freeTransmitter) hp rfl rfl]

/-- The state in which the reply in the slot has begun, with what the holder then holds. -/
def State.replyBegun (s : State) (reply : Frame) (held : Option Frame) : State :=
  { s with link := { s.link with tx := .sendingReply reply, slot := none, holder := held } }

/-- A freed transmitter begins the waiting reply, and the request held behind it is taken. -/
theorem freed_pump (hslot : s.link.slot = some reply) :
    s.freeTransmitter.pump = (s.replyBegun reply s.link.holder).takeHeld.chooseNotice := by
  have waiting : s.freeTransmitter.link.slot = some reply := hslot
  rw [State.pump, takeHeld_waiting waiting, beginReply_free rfl waiting]
  rfl

/-- A request taken from the holder leaves the transmitter, and its reply in the slot. -/
theorem takeHeld_taken (hslot : s.link.slot = none) (hheld : s.link.holder = some held) :
    s.takeHeld.link.tx = s.link.tx ∧ ∃ r, s.takeHeld.link.slot = some r := by
  unfold State.takeHeld
  rw [hslot, hheld]
  dsimp only
  rw [settled_link]
  obtain ⟨-, -, tx⟩ := serve_link (s := { s with link := { s.link with holder := none } }) (f := held)
  exact ⟨tx, _, rfl⟩

/-- Behind a frame under way, the link's one move is to take the held request. -/
theorem pump_takes (htx : s.link.tx ≠ .free) (hslot : s.link.slot = none) (hheld : s.link.holder = some held) :
    s.pump = s.takeHeld.chooseNotice := by
  obtain ⟨tx, r, waiting⟩ := takeHeld_taken hslot hheld
  rw [State.pump, beginReply_sending (tx ▸ htx), takeHeld_waiting waiting]

end

/-- Settles O55: the receiver by the place of the character in its frame, then the link's moves one by one. -/
theorem byteReceivedGapExpiryAndTransmitEnd : Obligations.ByteReceivedGapExpiryAndTransmitEnd := by
  refine ⟨fun c s => ?byte, fun s h => exec_gapExpiry h, fun tag kind body reply s htx hslot hp hd => ?holder,
    fun sent s htx hp hd => ?ending⟩
  case byte =>
    intro assembling hunting
    refine ⟨rfl, fun h hc => exec_byteReceived (takeByte_noise h hc), fun h => exec_byteReceived (takeByte_sync h),
      fun h hc => exec_byteReceived (takeByte_badLength h hc),
      fun h low high => exec_byteReceived (takeByte_length h low high),
      fun len rest h more => exec_byteReceived (takeByte_inside h more),
      fun len rest h whole sum => exec_byteReceived ((takeByte_last h whole).trans (frameComplete_badSum sum)),
      fun len tag kind body h whole sum => ?good⟩
    case good =>
      have last : s.takeByte c = s.hunt.acceptFrame { tag := tag, kind := kind, body := body } :=
        (takeByte_last h whole).trans (frameComplete_good sum)
      exact ⟨fun empty => exec_byteReceived (last.trans (acceptFrame_empty (s := s.hunt) empty)),
        fun full => exec_byteReceived (last.trans (acceptFrame_full (s := s.hunt) full))⟩
  case holder =>
    have taken : exec (.badKindRequest tag kind body) s =
        .next (s.eventOutcome (s.acceptFrame { tag := tag, kind := kind, body := body })) := rfl
    rw [taken]
    constructor
    · intro empty
      rw [acceptFrame_empty empty]
      exact congrArg _ (eventOutcome_busy htx hslot hp hd rfl rfl)
    · intro full
      rw [acceptFrame_full full]
      exact congrArg _ (eventOutcome_busy htx hslot hp hd rfl rfl)
  case ending =>
    intro freed
    have ended : exec .transmitEnd s = .next (drain Config.routeFuel s.freeTransmitter.pump) :=
      congrArg _ ((transmitEnd_frees htx).trans (eventOutcome_freed hp))
    rw [ended]
    refine ⟨fun reply hslot => ?waiting, fun hslot hheld => ?idle⟩
    case waiting =>
      intro begun
      rw [freed_pump hslot]
      refine ⟨fun hheld => ?alone, fun held hheld => ?held⟩
      case alone =>
        have sending : begun.link.tx ≠ .free := Transmitter.noConfusion
        have still : (s.replyBegun reply none).takeHeld.chooseNotice = begun :=
          (congrArg _ (takeHeld_unheld (s := begun) rfl)).trans (chooseNotice_sending sending)
        rw [hheld, still, drain_of_nil (s := begun) hd]
      case held =>
        have arrived : begun.acceptFrame held = s.replyBegun reply (some held) := acceptFrame_empty (s := begun) rfl
        have served : begun.request held.tag held.kind held.body =
            drain Config.routeFuel (begun.settled (begun.acceptFrame held)).pump := rfl
        rw [hheld, served, arrived, settled_of_axes (s := begun) (t := s.replyBegun reply (some held)) hp rfl rfl,
          pump_takes (s := s.replyBegun reply (some held)) Transmitter.noConfusion rfl rfl]
    case idle =>
      have quiet : s.freeTransmitter.chooseNotice.handed = [] := chooseNotice_handed.trans hd
      rw [pump_empty (s := s.freeTransmitter) hheld hslot, drain_of_nil quiet]
      exact ⟨fun hl => congrArg _ (chooseNotice_none (s := s.freeTransmitter) hl),
        fun l hl => congrArg _ (chooseNotice_free (s := s.freeTransmitter) rfl hslot hl)⟩

end Sys2Proof.Machine
end

section
/-! PROOFS. The link's own checks one by one, and a frame's bytes received in turn. -/

namespace Sys2Proof.Machine

section
variable {s : State} {f : Frame} {tag kind len : Byte} {body : List Byte} {st : Status}

/-! ### The link's checks (R187, checks 1 to 5) -/

theorem linkRefusal_tagZero (ht : f.tag = 0#8) : s.linkRefusal f = some .badValue := if_pos ht

theorem linkRefusal_badKind (ht : f.tag ≠ 0#8) (hk : f.kind.toNat ∉ requestCodes) : s.linkRefusal f = some .badKind := by
  rw [State.linkRefusal, if_neg ht, List.contains_eq_mem, if_pos (by simpa using hk)]

/-- Past the checks of the tag and the kind, the length and the part condition decide. -/
theorem linkRefusal_known (ht : f.tag ≠ 0#8) (hk : f.kind.toNat ∈ requestCodes) :
    s.linkRefusal f =
      if lengthFits f.kind f.body.length = false then some .badLength
      else if s.part.condition = .testing ∧ ¬ (f.kind = 1#8 ∨ f.kind = 2#8) then some .starting
      else if s.part.condition = .failed ∧ ¬ (f.kind = 1#8 ∨ f.kind = 2#8) ∧ f.kind ≠ 3#8 then some .fault
      else none := by
  rw [State.linkRefusal, if_neg ht, List.contains_eq_mem, if_neg (by simpa using hk)]
  simp [servedAlways]

theorem linkRefusal_badLength (ht : f.tag ≠ 0#8) (hk : f.kind.toNat ∈ requestCodes)
    (hl : lengthFits f.kind f.body.length = false) : s.linkRefusal f = some .badLength := by
  rw [linkRefusal_known ht hk, if_pos hl]

theorem linkRefusal_starting (ht : f.tag ≠ 0#8) (hk : f.kind.toNat ∈ requestCodes)
    (hl : lengthFits f.kind f.body.length = true) (hc : s.part.condition = .testing) (ha : ¬ (f.kind = 1#8 ∨ f.kind = 2#8)) :
    s.linkRefusal f = some .starting := by
  rw [linkRefusal_known ht hk, if_neg (by simp [hl]), if_pos ⟨hc, ha⟩]

theorem linkRefusal_fault (ht : f.tag ≠ 0#8) (hk : f.kind.toNat ∈ requestCodes)
    (hl : lengthFits f.kind f.body.length = true) (hc : s.part.condition = .failed) (ha : ¬ (f.kind = 1#8 ∨ f.kind = 2#8))
    (h3 : f.kind ≠ 3#8) : s.linkRefusal f = some .fault := by
  rw [linkRefusal_known ht hk, if_neg (by simp [hl]), if_neg (by simp [hc]), if_pos ⟨hc, ha, h3⟩]

/-- A request that the link refuses is answered with the status alone, and changes nothing else (R187). -/
theorem request_refused (h : s.unoccupied) (hd : s.handed = [])
    (hr : s.linkRefusal { tag := tag, kind := kind, body := body } = some st) :
    s.request tag kind body = s.reply tag (replyKind kind) st := by
  obtain ⟨-, -, hp⟩ := id h
  have served : s.serve { tag := tag, kind := kind, body := body } = (s, replyBody st) := by
    rw [State.serve, hr]
  rw [request_served h, served]
  exact requestOutcome_quiet hp hd rfl rfl

theorem replyKind_request (low : 1 ≤ kind.toNat) (high : kind.toNat ≤ 127) : replyKind kind = kind + 0x80#8 :=
  if_pos ⟨low, high⟩

theorem replyKind_outside (h : kind = 0#8 ∨ 128 ≤ kind.toNat) : replyKind kind = 0xFF#8 := by
  refine if_neg fun inside => ?_
  rcases h with rfl | high
  · exact absurd inside.1 (by decide)
  · omega

/-! ### The bytes of a frame (R182, R183) -/

/-- Bytes that all fall before the frame's last one are kept in order. -/
theorem foldl_takeByte_inside (more : List Byte) (rest : List Byte) (h : rest.length + more.length ≤ len.toNat) :
    more.foldl State.takeByte (s.assemble (len :: rest)) = s.assemble (len :: rest ++ more) := by
  induction more generalizing rest with
  | nil => rw [List.foldl_nil, List.append_nil]
  | cons b more ih =>
    rw [List.length_cons] at h
    have kept : (s.assemble (len :: rest)).takeByte b = s.assemble (len :: (rest ++ [b])) :=
      takeByte_inside (s := s.assemble (len :: rest)) rfl (by omega)
    rw [List.foldl_cons, kept, ih (rest ++ [b]) (by rw [List.length_append, List.length_singleton]; omega)]
    simp

/-- A frame's sum byte brings its sum to 0 (R182). -/
theorem foldl_add_sumByte (bytes : List Byte) : (bytes ++ [sumByte bytes]).foldl (· + ·) 0#8 = 0#8 := by
  simp [sumByte, List.foldl_append]

/-- A receiver that holds all of a frame but its sum byte accepts the frame with that byte (R185). -/
theorem takeByte_sumByte (whole : len.toNat ≤ body.length + 2) :
    (s.assemble (len :: tag :: kind :: body)).takeByte (sumByte (len :: tag :: kind :: body)) =
      s.hunt.acceptFrame { tag := tag, kind := kind, body := body } :=
  (takeByte_last (s := s.assemble (len :: tag :: kind :: body)) rfl whole).trans
    (frameComplete_good (foldl_add_sumByte _))

end

/-- Settles O56: SYNC, LEN, the bytes inside the frame, then its sum byte. -/
theorem frameBytesRoundTrip : Obligations.FrameBytesRoundTrip := by
  rintro ⟨tag, kind, body⟩ s short hunting
  replace short : body.length ≤ 248 := short
  generalize hlen : byteOf (body.length + 2) = len
  have holds : len.toNat = body.length + 2 := by rw [← hlen, byteOf_of_lt (by omega)]
  have bytes : ({ tag := tag, kind := kind, body := body } : Frame).bytes =
      0xA5#8 :: len :: (tag :: kind :: body ++ [sumByte (len :: tag :: kind :: body)]) := by
    rw [← hlen]
    rfl
  have begun : (s.assemble []).takeByte len = s.assemble [len] :=
    takeByte_length (s := s.assemble []) rfl (by omega) (by omega)
  have inside : (tag :: kind :: body).foldl State.takeByte (s.assemble [len]) = s.assemble (len :: tag :: kind :: body) :=
    foldl_takeByte_inside _ [] (by simp [holds])
  have hunted : s.hunt = { s with link := { s.link with gapTime := 0 } } := by rw [State.hunt, ← hunting]
  rw [bytes, List.foldl_cons, takeByte_sync hunting, List.foldl_cons, begun, List.foldl_append, inside, List.foldl_cons,
    takeByte_sumByte holds.le, List.foldl_nil, hunted]

/-- Settles O57: one refusal for each of the link's checks, each answered alone. -/
theorem linkChecksAndBadKind : Obligations.LinkChecksAndBadKind := by
  refine ⟨fun tag kind body s h hd => ?checks, fun tag kind body s h hd ht hk => ?badKind⟩
  case checks =>
    intro always answer
    exact ⟨fun ht => request_refused h hd (linkRefusal_tagZero ht),
      fun ht hk => request_refused h hd (linkRefusal_badKind ht hk),
      fun ht hk hl => request_refused h hd (linkRefusal_badLength ht hk hl),
      fun ht hk hl hc ha => request_refused h hd (linkRefusal_starting ht hk hl hc ha),
      fun ht hk hl hc ha h3 => request_refused h hd (linkRefusal_fault ht hk hl hc ha h3)⟩
  case badKind =>
    have refused : exec (.badKindRequest tag kind body) s = .next (s.reply tag (replyKind kind) .badKind) :=
      congrArg _ (request_refused h hd (linkRefusal_badKind ht hk))
    rw [refused]
    exact ⟨fun low high => by rw [replyKind_request low high], fun outside => by rw [replyKind_outside outside]⟩

end Sys2Proof.Machine
end

section
/-! PROOFS. The items of the start-up test, and the test's end. -/

namespace Sys2Proof.Machine

section
variable {s : State} {failed : Bool} {i : Nat} {rest : List Nat}

/-! ### An item's end (R189) -/

theorem isTesting_true (h : s.part.condition = .testing) : s.isTesting = true := decide_eq_true h

theorem exec_testItemDone_outside (h : s.part.condition ≠ .testing) : exec (.testItemDone failed) s = .next s :=
  congrArg _ (if_neg (by simp [isTesting_false h]))

theorem exec_testItemDone (h : s.part.condition = .testing) :
    exec (.testItemDone failed) s = .next (s.eventOutcome (s.testItemDone failed)) :=
  eventWhen_outcome (isTesting_true h)

theorem testItemDone_none (hr : s.part.remaining = []) : s.testItemDone failed = s := by
  unfold State.testItemDone
  rw [hr]
  exact ite_self s

/-- The record of the part after item `i`: its progress bit, and its failure bit when it failed (R189). -/
def Part.afterItem (p : Part) (i : Nat) (failed : Bool) : Part :=
  { p with
    progress := p.progress ||| (1#8 <<< i)
    failure := if failed then p.failure ||| (1#8 <<< i) else p.failure }

theorem testItemDone_item (h : s.part.condition = .testing) (hr : s.part.remaining = i :: rest) :
    s.testItemDone failed =
      if rest = [] then { s with part := s.part.afterItem i failed }.testEnd
      else { s with part := s.part.afterItem i failed } := by
  unfold State.testItemDone
  rw [if_pos (isTesting_true h), hr]
  cases rest <;> rfl

/-! ### The end of the test (R190, R191) -/

/-- The record of the part after the test: its condition and its availabilities, by the failure word (R190). -/
def Part.ended (p : Part) : Part :=
  { p with
    condition := if p.failure.getLsbD 2 then .failed else .inService
    available :=
      { motion := !(p.failure.getLsbD 0 || p.failure.getLsbD 5)
        lamps := !(p.failure.getLsbD 1 || p.failure.getLsbD 6)
        scanner := !(p.failure.getLsbD 3 || p.failure.getLsbD 4)
        beacon := !p.failure.getLsbD 7 } }

theorem availabilityOf_ended (p : Part) : availabilityOf p.failure = p.ended.available := by
  simp [availabilityOf, Part.ended]

/-- The part with its SELF_TEST alerts, one for each failure bit, the lowest first (R191). -/
def State.tested (s : State) : State :=
  (failedItems s.part.failure).foldl (fun t i => (t.raise .selfTest .call i none).1) { s with part := s.part.ended }

/-- The tested part, with a STOP line that is asserted applied (R191). -/
def State.testStopped (s : State) : State := if s.stopLine.level = some true then s.tested.applyStop else s.tested

theorem testEnd_posts_started :
    s.testEnd = s.testStopped.post systemLine .started fun d => { d with start := some s.part.startKind } := by
  rw [State.testEnd, availabilityOf_ended]
  rfl

/-- No raise, halt or post moves the record of the part. -/
theorem testEnd_part : s.testEnd.part = s.part.ended := by
  have K := (outsideReads_kept s.part.ended s.pins s.pending).toKept
  have tested : s.tested.outsideReads s.part.ended s.pins s.pending :=
    foldl_kept (fun _ _ ht => raise_kept K ht) _ _ ⟨rfl, rfl, rfl⟩
  have stopped : s.testStopped.outsideReads s.part.ended s.pins s.pending := ite_kept (applyStop_kept K tested) tested
  rw [testEnd_posts_started, State.post_part, stopped.1]

theorem remaining_of_startKind (p : Part) :
    p.remaining =
      (if p.startKind = .cold then [0, 1, 2, 3, 4, 5, 6, 7] else [2, 3, 4, 5, 6, 7]).filter
        fun i => !p.progress.getLsbD i := by
  unfold Part.remaining
  cases p.startKind <;> rfl

end

/-- Settles O16: the item's end by what is due, then the record of the part through the alerts, the STOP line and STARTED. -/
theorem testItemAndTestEnd : Obligations.TestItemAndTestEnd := by
  refine ⟨fun failed s => ⟨exec_testItemDone_outside, fun h i rest hr => ?item, fun h hr => ?none⟩,
    fun s => remaining_of_startKind s.part, fun s => ⟨testEnd_part, testEnd_posts_started⟩⟩
  case item =>
    rw [exec_testItemDone h, testItemDone_item h hr]
    rfl
  case none =>
    rw [exec_testItemDone h, testItemDone_none hr]

end Sys2Proof.Machine
end

section
/-! PROOFS. What every command leaves of the queue, the front command of a step, and the events that cannot happen. -/

namespace Sys2Proof.Machine

/-! ### The queue of waiting commands (log entry 1) -/

/-- Settles O1. -/
theorem stepRunsFrontCommand : Obligations.StepRunsFrontCommand := by
  intro c rest s front
  rw [step, front]

/-- The queue of waiting commands reads so. -/
def State.queueReads (s : State) (queue : List Instr) : Prop := s.pending = queue

/-- No update of a step touches the queue; a reset takes the queue over as it stands (`State.coldReset`). -/
theorem queueReads_kept (queue : List Instr) : KeptSteps (·.queueReads queue) :=
  { cold := fun _ h => h
    axes := fun _ _ h => h, stations := fun _ _ h => h, cues := fun _ _ h => h, pairs := fun _ _ h => h,
    arbiter := fun _ _ h => h, scanner := fun _ _ h => h, display := fun _ _ h => h, passDue := fun _ _ h => h,
    handed := fun _ _ h => h, arrive := fun _ _ _ _ _ h => h, remove := fun _ _ h => h,
    update := fun _ _ _ _ _ _ h => h, append := fun _ _ _ _ h _ _ _ => h, buttons := fun _ _ h => h,
    buttonTiming := fun _ _ h => h, lamps := fun _ _ h => h, noticeLevel := fun _ _ h => h,
    channels := fun _ _ h _ => h, line := fun _ _ _ h _ => h, intervals := fun _ _ _ _ h => h,
    counts := fun _ _ _ _ h => h, kept := fun _ _ h => h, link := fun _ _ h => h, stopLine := fun _ _ h => h,
    mapRecords := fun _ _ _ h => h, part := fun _ _ h => h, pins := fun _ _ h => h }

/-- Each meaning is a `.next`: of a start, of an event taken when it can happen, or of the acceptance of a frame. -/
theorem exec_answers (c : Instr) (s : State) : ∃ t : State, exec c s = .next t := by
  cases c <;> exact ⟨_, rfl⟩

/-- Settles O3, by the form of the meanings and by what a command can do to the queue. -/
theorem execKeepsTheQueue : Obligations.ExecKeepsTheQueue := by
  intro c s
  have unmoved : s.queueReads s.pending := rfl
  exact ⟨exec_answers c s, fun _ ht => exec_kept (queueReads_kept s.pending) unmoved ht⟩

/-! ### Events that cannot happen (log entry 9) -/

section
variable {s : State} {p q : Bool} {g : State → State}

theorem eventWhen_impossible (h : p = false) : s.eventWhen p g = .next s := by
  subst h
  rfl

/-- Outside service no event of a button happens (R169). -/
theorem eventWhen_notServing (h : s.part.condition ≠ .inService ∨ p = false) :
    s.eventWhen (s.serving && p) g = .next s :=
  eventWhen_impossible (Bool.and_eq_false_iff.mpr (h.imp_left decide_eq_false))

theorem eventWhen_notServing_and (h : s.part.condition ≠ .inService ∨ p = false ∨ q = false) :
    s.eventWhen (s.serving && p && q) g = .next s := by
  rw [Bool.and_assoc]
  exact eventWhen_notServing (h.imp_right Bool.and_eq_false_iff.mpr)

/-- While the test runs, an event that waits for its end does not happen. -/
theorem eventWhen_testing (h : s.part.condition = .testing) : s.eventWhen (!s.isTesting) g = .next s :=
  eventWhen_impossible (by rw [isTesting_true h, Bool.not_true])

theorem exec_buttonSettle_impossible {b : ButtonId} {closed : Bool}
    (h : s.part.condition ≠ .inService ∨ (s.button b).level ≠ none) : exec (.buttonSettle b closed) s = .next s :=
  eventWhen_notServing (h.imp_right decide_eq_false)

theorem exec_buttonPress_impossible {b : ButtonId}
    (h : s.part.condition ≠ .inService ∨ (s.button b).state ≠ .released ∨ (s.button b).level ≠ some .opened) :
    exec (.buttonPress b) s = .next s :=
  eventWhen_notServing_and (h.imp_right (Or.imp decide_eq_false decide_eq_false))

theorem exec_buttonHold_impossible {b : ButtonId}
    (h : s.part.condition ≠ .inService ∨ (s.button b).state ≠ .pressed) : exec (.buttonHold b) s = .next s :=
  eventWhen_notServing (h.imp_right decide_eq_false)

theorem exec_buttonStuck_impossible {b : ButtonId}
    (h : s.part.condition ≠ .inService ∨ ((s.button b).state ≠ .pressed ∧ (s.button b).state ≠ .held)) :
    exec (.buttonStuck b) s = .next s :=
  eventWhen_notServing (h.imp_right fun ⟨notPressed, notHeld⟩ => by simp [notPressed, notHeld])

theorem exec_buttonRelease_impossible {b : ButtonId}
    (h : s.part.condition ≠ .inService ∨ (s.button b).state = .released) : exec (.buttonRelease b) s = .next s :=
  eventWhen_notServing (h.imp_right fun released => by simp [released])

theorem exec_idleTimeout_impossible {st : StationId} (h : (s.station st).idleLimit = 0 ∨ s.idleRuns st = false) :
    exec (.idleTimeout st) s = .next s :=
  eventWhen_impossible (Bool.and_eq_false_iff.mpr (h.imp_left fun unlimited => by simp [unlimited]))

theorem exec_rampTick_impossible {x : AxisId} (h : (s.axis x).state ≠ .running ∧ (s.axis x).state ≠ .stopping) :
    exec (.rampTick x) s = .next s :=
  eventWhen_impossible (Bool.eq_false_iff.mpr fun moves => (moving_iff.mp moves).elim h.1 h.2)

theorem exec_entryUrgent_impossible {x : AxisId} (h : ∀ e ∈ s.arbiter.waiting, e.axis ≠ x) :
    exec (.entryUrgent x) s = .next s :=
  eventWhen_impossible (List.any_eq_false.mpr fun e waits => by simpa using h e waits)

theorem exec_conversionComplete_impossible {result : BitVec 10} (h : s.scanner.state = .off ∨ s.scanner.state = .idle) :
    exec (.conversionComplete result) s = .next s :=
  eventWhen_impossible (Bool.and_eq_false_iff.mpr (h.imp (fun off => by simp [off]) fun idle => by simp [idle]))

theorem exec_periodExpiry_impossible (h : s.scanner.state = .off ∨ s.scanner.source ≠ .period) :
    exec .periodExpiry s = .next s :=
  eventWhen_impossible (Bool.and_eq_false_iff.mpr (h.imp (fun off => by simp [off]) decide_eq_false))

theorem exec_gapExpiry_impossible (h : s.link.receiver = none) : exec .gapExpiry s = .next s :=
  eventWhen_impossible (by rw [h, Option.isSome_none])

/-- A free transmitter ends nothing (R188). -/
theorem exec_transmitEnd_free (h : s.link.tx = .free) : exec .transmitEnd s = .next s := by
  have unchanged : s.transmitEnd = s := by rw [State.transmitEnd, h]
  exact congrArg _ unchanged

end

/-- Settles O17, event by event: what cannot happen fails the guard of its command, or finds the transmitter FREE. -/
theorem impossibleEventsChangeNothing : Obligations.ImpossibleEventsChangeNothing := by
  intro s
  refine ⟨fun _ _ => exec_buttonSettle_impossible, fun _ => exec_buttonPress_impossible,
    fun _ => exec_buttonHold_impossible, fun _ => exec_buttonStuck_impossible, fun _ => exec_buttonRelease_impossible,
    fun st notResting => ?rest, fun _ => exec_idleTimeout_impossible, fun x side tripped testing => ?endStop,
    fun x notDwelling => ?dwell, fun _ => exec_rampTick_impossible, fun _ => exec_entryUrgent_impossible,
    fun _ => exec_conversionComplete_impossible, exec_periodExpiry_impossible, fun testing => ⟨?edge, ?escalation, ?blink⟩,
    exec_gapExpiry_impossible, exec_transmitEnd_free⟩
  case rest => exact eventWhen_impossible (decide_eq_false notResting)
  case endStop => exact eventWhen_testing testing
  case dwell => exact eventWhen_impossible (decide_eq_false notDwelling)
  case edge => exact eventWhen_testing testing
  case escalation => exact fun _ => eventWhen_testing testing
  case blink => exact fun _ => eventWhen_testing testing

end Sys2Proof.Machine
end
